-- ==== Sys2Proof/Word.lean ====
section
/-! DEFINITION. The word types of the part: peripheral registers are 32-bit words (R4), memory is read and written in bytes (R23). -/
namespace Sys2Proof

/-- A peripheral register or a core register (R4, R121). -/
abbrev Word := BitVec 32

/-- One byte of a memory region. -/
abbrev Byte := BitVec 8

end Sys2Proof
end

