-- ==== Sys2Proof/Syntax.lean ====
section
/-! DEFINITION. The commands of the block: one constructor per row of spec/opcode_table.json, with the
operands its rule names. A command that a fabric write causes names the initiator of the write (R18, R321). What the
world gives the part (samples, frames, levels, conversion codes) stands in the command. An operand of type Unit carries nothing:
the words that the row once brought come as frames of the stage link (log entry 39). -/
namespace Sys2Proof

/-- The initiators of the fabric (chapter 01, R321 kind 4). -/
inductive Initiator where
  | core (c : Fin 4) | dma | hsp | pmb | ydp
deriving DecidableEq, Repr

/-- What made the timebase declare its loss (R157). -/
inductive LossCause where
  | edges | frequency | pll
deriving DecidableEq, Repr

/-- What a part that leaves reset finds beside its boot strap: ADDR2 to ADDR0 (R332), and the seven supplies in mV, in the order of
SYS_SUPST.OK (R450, R484, R485). -/
structure ReleasePins where
  pmb : Fin 8
  volts : List Nat
deriving DecidableEq, Repr

/-- A task of Basalt (R78). -/
inductive Task where
  | volt (rail : Fin 63) | curr (phase : Fin 128) | opt (j : Fin 16)
deriving DecidableEq, Repr

/-- What admission decides (R104). -/
inductive AdmitWhat where
  | leaveArming (r : Fin 63) | joining (p : Fin 128) | period (p : Fin 128) | railPeriod (r : Fin 63)
  | fallbackReturn (r : Fin 63) | laneLoss
deriving DecidableEq, Repr

/-- A PMBus transaction of one command as the target sees it (R334 to R337): its direction, the bytes the controller sends
after the command code (a PEC byte among them, where it sends one), and for a read the number of bytes the controller takes
and whether it ends the read by not acknowledging a byte, then STOP or repeated START. -/
structure PmbOp where
  read : Bool
  data : List Byte := []
  count : Nat := 0
  complete : Bool := true
deriving DecidableEq, Repr

/-- How a transaction of the two-wire controller ended (R354, R355). -/
inductive PmcEnd where
  | done (data : List Byte) (pec : Byte) | nack (byte : Fin 64) | arbLost
deriving DecidableEq, Repr

/-- A command frame of a load command port whose burst, CRC, SYNC and opcode are in order (R372, R374): port, RAIL and
ARG. -/
structure LcpFrame where
  port : Fin 4
  rail : Fin 64
  arg : BitVec 24
deriving DecidableEq, Repr

/-- What executes a word (R121): a supervisory core or a Basalt lane. -/
inductive Executor where
  | core (c : Fin 4) | lane (l : Fin 16)
deriving DecidableEq, Repr

/-- The commands. -/
inductive Instr where
  /-- REGISTER_WRITE: A fabric write to a peripheral register that has no row of its own, applied per field type, with reserved bits, locks and refusals. (R7) -/
  | registerWrite (i : Initiator) (a : Nat) (v : Word)
  /-- MEMORY_ACCESS: A fabric initiator reads or writes a memory region, ending in a bus error where the access is forbidden or misaligned. (R23) -/
  | memoryAccess (i : Initiator) (wr : Bool) (size : Fin 4) (a : Nat) (v : BitVec 64)
  /-- FABRIC_BACKSTOP_TIMEOUT: A fabric request not completed 10 us after issue is ended with a bus error and recorded. (R18) -/
  | fabricBackstopTimeout (i : Initiator) (wr : Bool) (size : Fin 4) (a : Nat) (v : BitVec 64)
  /-- GARNET_RECORD_WRITE: Garnet writes an accepted record from its input queue to the ring with the next sequence number. (R324) -/
  | garnetRecordWrite
  /-- RAIL_ENABLE: A write changing RAIL_CTRL.EN from 0 to 1 requests the rail to leave OFF, or is refused in FAULTED or under DEVICE. (R27) -/
  | railEnable (i : Initiator) (r : Fin 63)
  /-- RAIL_DISABLE: A write changing RAIL_CTRL.EN from 1 to 0 requests the rail to discharge to OFF. (R27) -/
  | railDisable (i : Initiator) (r : Fin 63)
  /-- RAIL_LEAVES_ARMING: When the rail's phases are assigned and ready and its sense slice is valid, admission runs and the rail enters SOFTSTART. (R26) -/
  | railLeavesArming (r : Fin 63)
  /-- SOFTSTART_COMPLETE: When SETP equals the target and the rail voltage is within the FEV limit, the rail leaves SOFTSTART for its selected source. (R87) -/
  | softstartComplete (r : Fin 63)
  /-- RAIL_SRC_WRITE: A write of RAIL_SRC changes the set-point source as a request in a regulating state, or is stored at once otherwise. (R28) -/
  | railSrcWrite (i : Initiator) (r : Fin 63) (v : Word)
  /-- FALLBACK_REQUEST: A write of 1 to RAIL_LCMD.FB requests entry to FALLBACK, decided under R28 within 1 us. (R26) -/
  | fallbackRequest (i : Initiator) (r : Fin 63)
  /-- FALLBACK_RETURN: A write of 1 to RAIL_LCMD.RET requests return from FALLBACK subject to admission. (R104) -/
  | fallbackReturn (i : Initiator) (r : Fin 63)
  /-- DISCHARGE_END: When VRAIL falls to VEND the discharge ends and the rail enters OFF or FAULTED. (R306) -/
  | dischargeEnd (r : Fin 63)
  /-- DISTO: Discharge not ended after DIS_T is abandoned and the LATCH fault DISTO is applied to the rail. (R307) -/
  | disto (r : Fin 63)
  /-- RAIL_FAULT_CLEAR: A write of 1 to RAIL_FCLR.CLR removes the rail's LIMIT responses and latch and takes FAULTED to OFF, or is refused. (R309) -/
  | railFaultClear (i : Initiator) (r : Fin 63)
  /-- AUDIO_FRAME: A frame sync ends a frame on an audio input port, whose samples are stored in the LAB and whose timing drives the group state. (R364) -/
  | audioFrame (n : Fin 8) (cut : Bool) (onTime : Bool) (long : Bool) (period : Nat) (slots : List Word)
  /-- MISSING_SYNC: An expected sync of the timeline master that is not on time moves the group to HOLDOVER or LOST and stores a zero frame. (R71) `held`: the slots of the frame in progress, where BCLK has
  carried them all although no sync ends it (R364, R367). -/
  | missingSync (n : Fin 8) (held : Option (List Word))
  /-- OUTPUT_FRAME: A port's frame sync starts an output frame carrying the delayed samples multiplied by the limiter gain. (R367) -/
  | outputFrame (n : Fin 8)
  /-- BCLK_STOP: A port's BCLK without an edge for 1 us counts as stopped, ending the frame in progress. (R368) `inFrame`: the bits of the frame in
  progress that were shifted, none outside a frame. -/
  | bclkStop (n : Fin 8) (inFrame : Option Nat)
  /-- KNOT_WRITE: Saffron writes the next knot to a rail's set-point FIFO once its input frames are present and the FIFO has room. (R56) -/
  | knotWrite (r : Fin 63)
  /-- RECOMPUTE_COMPLETE: A recompute completes, old-epoch knots are discarded and new knots follow from the seed. (R66) -/
  | recomputeComplete (r : Fin 63)
  /-- LOAD_GAIN_CHANGE: A write of SAF_LGAINc changes a channel's load gain and squashes its rail with the guarded trajectory. (R68) -/
  | loadGainChange (i : Initiator) (c : Fin 64) (v : Word)
  /-- FULL_SCALE_GAIN_CHANGE: A write of SAF_FSGc changes a channel's full-scale gain and squashes its rail. (R68) -/
  | fullScaleGainChange (i : Initiator) (c : Fin 64) (v : Word)
  /-- CHANNEL_REMAP: A write of SAF_CHMAPc RAIL or MAPEN remaps a channel, checked for room and group, and squashes both rails. (R47) -/
  | channelRemap (i : Initiator) (c : Fin 64) (v : Word)
  /-- CHANNEL_MUTE: Setting SAF_CHMAPc.MUTE silences the channel from the next output frame and squashes its rail. (R48) -/
  | channelMute (i : Initiator) (c : Fin 64)
  /-- RELEASE_OF_MUTE: Clearing SAF_CHMAPc.MUTE squashes the rail and plays the channel from F_safe. (R68) -/
  | releaseOfMute (i : Initiator) (c : Fin 64)
  /-- V_DROP_OR_MARGIN_CHANGE: A write of SAF_VDROP or SAF_MARGIN squashes the rail with the guarded trajectory. (R68) -/
  | vDropOrMarginChange (i : Initiator) (r : Fin 63) (margin : Bool) (v : Word)
  /-- DEPTH_CHANGE: A write of SAF_GCFGg changing DEPTH on a non-idle group discards its audio and knots and restarts it. (R75) -/
  | depthChange (i : Initiator) (g : Fin 8) (v : Word)
  /-- SAF_CTRL_WRITE: A write of SAF_CTRL.EN enables planning or, when permitted, disables it and discards all knots. (R77) -/
  | safCtrlWrite (i : Initiator) (v : Word)
  /-- ZERO_EVENT: A phase counter wraps to 0, the pin rises, active compares take effect and task triggers fire. (R171) -/
  | zeroEvent (p : Fin 128)
  /-- PERIOD_EVENT: The phase counter reaches L - 1 and the PERIOD event fires through its prescaler. (R171) -/
  | periodEvent (p : Fin 128)
  /-- CMPA_EVENT: The counter reaches the active compare, the PWM pin falls and the CMPA event fires. (R160) -/
  | cmpaEvent (p : Fin 128)
  /-- CMPB_EVENT: The counter reaches CMPB and the CMPB event fires, driving any ADC or DMA trigger. (R171) -/
  | cmpbEvent (p : Fin 128)
  /-- SNAPSHOT: At count L - 2 the shadow values are taken, subject to PAIRGUARD, and the next period's L, CMPA and CMPB are computed. (R163) -/
  | snapshot (p : Fin 128)
  /-- PWM_PERIOD_WRITE: A write of PWM_PERIOD is range checked, sent to admission when it raises the frequency, and landed in the shadow. (R162) -/
  | pwmPeriodWrite (i : Initiator) (p : Fin 128) (v : Word)
  /-- PWM_RPER_WRITE: A write of PWM_RPERr requests the period of every phase whose current rail is r. (R162) -/
  | pwmRperWrite (i : Initiator) (r : Fin 63) (v : Word)
  /-- PWM_DUTY_WRITE: A fabric write of PWM_DUTY lands in the duty shadow when DSRC is 1, or is refused. (R164) -/
  | pwmDutyWrite (i : Initiator) (p : Fin 128) (v : Word)
  /-- PWM_OFFSET_WRITE: A fabric write of PWM_OFFSET lands in the offset shadow, or is refused while AUTOOFF is 1. (R170) -/
  | pwmOffsetWrite (i : Initiator) (p : Fin 128) (v : Word)
  /-- RSYNC_NOW: A write of 1 to PWM_RSYNCr.NOW requests a rail sync event at the next ZERO of the origin-defining phase. (R168) -/
  | rsyncNow (i : Initiator) (r : Fin 63)
  /-- TRIP_INPUT_EDGE: A trip input's filtered level changes after FLT + 1 ticks and an enabled active trip acts on its guarded phases. (R173) -/
  | tripInputEdge (n : Fin 16) (level : Bool)
  /-- BLANKING_CLOSE: A blanking window closes with a trip still active, and the trip acts at once. (R174) -/
  | blankingClose (p : Fin 128)
  /-- SAFE_FORCE: A write of PWM_SAFE.FORCE adds or removes the FORCE cause of safe state on lanes. (R177) -/
  | safeForce (i : Initiator) (v : Word)
  /-- SAFE_RELEASE: A write of 1 to a PWM_SAFEREL bit releases a lane with no cause left, or is refused. (R179) -/
  | safeRelease (i : Initiator) (v : Word)
  /-- TB_CFG_WRITE: An accepted write of TB_CFG starts a relock of the timebase with every lane in safe state. (R156) -/
  | tbCfgWrite (i : Initiator) (v : Word)
  /-- RELOCK_COMPLETE: The timebase relocks after a TB_CFG write or a standby wake and PLLLOCK returns to 1. (R156) -/
  | relockComplete (refOk : Bool)
  /-- TIMEBASE_LOSS: The backup oscillator declares loss of the reference or PLL and safe state is forced on every lane. (R157) -/
  | timebaseLoss (cause : LossCause)
  /-- TIMEBASE_RECOVERY: The reference returns within limits and the PLL relocks, ending the TBLOSS cause. (R177) -/
  | timebaseRecovery (pllLock : Bool) (refOk : Bool)
  /-- DLL_LOCK_LOSS: The delay-locked line loses lock, DLLERR is set, a WARN fault is raised and edges fall to integer ticks. (R159) -/
  | dllLockLoss
  /-- DLL_LOCK_RETURN: The delay-locked line locks again and fractional edge placement resumes. (R159) -/
  | dllLockReturn
  /-- INVOCATION_DISPATCH: A lane dispatches the ready invocation with the earliest deadline and samples its input ports. (R81) -/
  | invocationDispatch (l : Fin 16)
  /-- INVOCATION_DEADLINE: An invocation not committed by its deadline is abandoned and counted as missed. (R107) -/
  | invocationDeadline (t : Task)
  /-- COST_OVERRUN: An invocation reaching its COST without ending is stopped as a program failure. (R105) -/
  | costOverrun (l : Fin 16)
  /-- ADMISSION_DECISION: Admission completes for a demand-raising change, accepting or refusing it within 20 us. (R104) -/
  | admissionDecision (w : AdmitWhat)
  /-- LANE_PARITY_ERROR: A parity error in a lane's register file or a word it reads retires the lane for error. (R112) -/
  | laneParityError (l : Fin 16)
  /-- LANE_DISABLE: A write of 0 to a BSL_LANEEN bit retires that lane. (R112) -/
  | laneDisable (i : Initiator) (l : Fin 16)
  /-- LANE_ENABLE: A write of 1 to a retired lane's BSL_LANEEN bit starts its self-check. (R112) -/
  | laneEnable (i : Initiator) (l : Fin 16)
  /-- LANE_SELF_CHECK_DONE: A lane's self-check ends and the lane enters service empty or stays retired. (R112) -/
  | laneSelfCheckDone (l : Fin 16) (pass : Bool)
  /-- LIVE_MARGIN_UPDATE: Every 1 ms each lane's achieved rate is computed, BSL_MARGIN is updated and a low HEAD raises a WARN fault. (R106) -/
  | liveMarginUpdate (busyNs : List Nat)
  /-- OPTIONAL_TASK_TIMER: An optional task's interval timer expires and requests one invocation. (R82) -/
  | optionalTaskTimer (j : Fin 16)
  /-- OPTIONAL_TASK_REQUEST: A write of 1 to BSL_OTASKj.PEND requests one optional invocation. (R82) -/
  | optionalTaskRequest (i : Initiator) (j : Fin 16)
  /-- LDIN: L-profile: load an input port into a data register. (R145) -/
  | ldin (l : Fin 16) (dd : Fin 16) (port : Fin 32)
  /-- EMIT: L-profile: write a value to an output port in the private copy. (R150) -/
  | emit (l : Fin 16) (port : Fin 32) (sa : Fin 32)
  /-- MOV_REG: L-profile opcode 0x03: copy a source operand to a data register. (R145) -/
  | movReg (l : Fin 16) (dd : Fin 16) (sa : Fin 32)
  /-- MOV_IMM: L-profile opcode 0x04: load an immediate into a data register or its high half. (R145) -/
  | movImm (l : Fin 16) (dd : Fin 16) (h : Bool) (imm : BitVec 16)
  /-- MOV_FROM_ACC: L-profile opcode 0x05: shift, round and saturate an accumulator into a data register. (R145) -/
  | movFromAcc (l : Fin 16) (dd : Fin 16) (acc : Fin 8) (t : Bool) (sh : Fin 64)
  /-- MOV_TO_ACC: L-profile opcode 0x06: load a shifted source into an accumulator. (R145) -/
  | movToAcc (l : Fin 16) (acc : Fin 8) (sa : Fin 32) (sh : Fin 64)
  /-- MOV_PTR: L-profile opcode 0x07: set or advance a pointer register. (R145) -/
  | movPtr (l : Fin 16) (p : Fin 4) (a : Bool) (imm : BitVec 16)
  /-- MOV_LOAD: L-profile opcode 0x08: load an LSM word through a pointer. (R151) -/
  | movLoad (l : Fin 16) (dd : Fin 16) (p : Fin 4) (off : BitVec 12)
  /-- MOV_STORE: L-profile opcode 0x09: store a word to LSM in the private copy. (R151) -/
  | movStore (l : Fin 16) (sa : Fin 32) (p : Fin 4) (off : BitVec 12)
  /-- L_ADD: L-profile: saturating add. (R145) -/
  | lAdd (l : Fin 16) (dd : Fin 16) (sa : Fin 32) (sb : Fin 32)
  /-- L_SUB: L-profile: saturating subtract. (R145) -/
  | lSub (l : Fin 16) (dd : Fin 16) (sa : Fin 32) (sb : Fin 32)
  /-- MAC: L-profile: multiply two sources and accumulate with saturation. (R145) -/
  | mac (l : Fin 16) (acc : Fin 8) (z : Bool) (sa : Fin 32) (sb : Fin 32) (n : Bool)
  /-- MAC_IMM: L-profile: multiply a source by an immediate and accumulate. (R145) -/
  | macImm (l : Fin 16) (acc : Fin 8) (z : Bool) (sa : Fin 32) (n : Bool) (imm : BitVec 16)
  /-- SOS: L-profile: evaluate a fixed-format second-order-section cascade and shift its history. (R146) -/
  | sos (l : Fin 16) (dd : Fin 16) (sa : Fin 32) (pc : Fin 4) (ps : Fin 4)
  /-- SOSB: L-profile: evaluate a block floating-point cascade and shift its history. (R146) -/
  | sosb (l : Fin 16) (dd : Fin 16) (sa : Fin 32) (pc : Fin 4) (ps : Fin 4)
  /-- FFV: L-profile: compute the input-voltage feed-forward term. (R145) -/
  | ffv (l : Fin 16) (dd : Fin 16) (sa : Fin 32) (sb : Fin 32)
  /-- FFS: L-profile: compute the slope feed-forward term. (R145) -/
  | ffs (l : Fin 16) (dd : Fin 16) (sa : Fin 32) (sb : Fin 32)
  /-- CLMP: L-profile: clamp a value between limits. (R147) -/
  | clmp (l : Fin 16) (dd : Fin 16) (sa : Fin 32) (lo : Fin 32) (hi : Fin 32) (u : Bool) (k : Bool)
  /-- FERR: L-profile: supply the following-error operands. (R148) -/
  | ferr (l : Fin 16) (sa : Fin 32) (sb : Fin 32)
  /-- GW: L-profile: select load and temperature bands and return the OPT entry's width codes. (R208) -/
  | gw (l : Fin 16) (dd : Fin 16) (sa : Fin 32) (sb : Fin 32)
  /-- SKB: L-profile: skip the next n instructions when a bit equals v. (R145) -/
  | skb (l : Fin 16) (sa : Fin 32) (bit : Fin 32) (v : Bool) (n : Fin 16)
  /-- YIELD: L-profile: end the invocation normally and commit its private copy indivisibly. (R80) -/
  | yield_ (l : Fin 16)
  /-- TRAPL: L-profile: end the invocation with a program failure. (R145) -/
  | trapl (l : Fin 16) (code : BitVec 16)
  /-- ADD: S-profile: rd = ra + rb. (R125) -/
  | add (c : Fin 4) (rd : Fin 32) (ra : Fin 32) (rb : Fin 32)
  /-- SUB: S-profile: rd = ra - rb. (R125) -/
  | sub (c : Fin 4) (rd : Fin 32) (ra : Fin 32) (rb : Fin 32)
  /-- AND: S-profile: bitwise AND. (R125) -/
  | and_ (c : Fin 4) (rd : Fin 32) (ra : Fin 32) (rb : Fin 32)
  /-- OR: S-profile: bitwise OR. (R125) -/
  | or_ (c : Fin 4) (rd : Fin 32) (ra : Fin 32) (rb : Fin 32)
  /-- XOR: S-profile: bitwise XOR. (R125) -/
  | xor (c : Fin 4) (rd : Fin 32) (ra : Fin 32) (rb : Fin 32)
  /-- SHL: S-profile: shift left by register. (R125) -/
  | shl (c : Fin 4) (rd : Fin 32) (ra : Fin 32) (rb : Fin 32)
  /-- SHR: S-profile: logical shift right by register. (R125) -/
  | shr (c : Fin 4) (rd : Fin 32) (ra : Fin 32) (rb : Fin 32)
  /-- SAR: S-profile: arithmetic shift right by register. (R125) -/
  | sar (c : Fin 4) (rd : Fin 32) (ra : Fin 32) (rb : Fin 32)
  /-- SLT: S-profile: set if less than, signed. (R125) -/
  | slt (c : Fin 4) (rd : Fin 32) (ra : Fin 32) (rb : Fin 32)
  /-- SLTU: S-profile: set if less than, unsigned. (R125) -/
  | sltu (c : Fin 4) (rd : Fin 32) (ra : Fin 32) (rb : Fin 32)
  /-- MUL: S-profile: low word of the product. (R125) -/
  | mul (c : Fin 4) (rd : Fin 32) (ra : Fin 32) (rb : Fin 32)
  /-- MULH: S-profile: high word of the signed product. (R125) -/
  | mulh (c : Fin 4) (rd : Fin 32) (ra : Fin 32) (rb : Fin 32)
  /-- MULHU: S-profile: high word of the unsigned product. (R125) -/
  | mulhu (c : Fin 4) (rd : Fin 32) (ra : Fin 32) (rb : Fin 32)
  /-- DIV: S-profile: signed quotient, saturating, trapping on zero divisor. (R126) -/
  | div (c : Fin 4) (rd : Fin 32) (ra : Fin 32) (rb : Fin 32)
  /-- DIVU: S-profile: unsigned quotient. (R126) -/
  | divu (c : Fin 4) (rd : Fin 32) (ra : Fin 32) (rb : Fin 32)
  /-- REM: S-profile: signed remainder. (R126) -/
  | rem (c : Fin 4) (rd : Fin 32) (ra : Fin 32) (rb : Fin 32)
  /-- REMU: S-profile: unsigned remainder. (R126) -/
  | remu (c : Fin 4) (rd : Fin 32) (ra : Fin 32) (rb : Fin 32)
  /-- ADDI: S-profile: add sign-extended immediate. (R125) -/
  | addi (c : Fin 4) (rd : Fin 32) (ra : Fin 32) (imm : BitVec 16)
  /-- ANDI: S-profile: AND zero-extended immediate. (R125) -/
  | andi (c : Fin 4) (rd : Fin 32) (ra : Fin 32) (imm : BitVec 16)
  /-- ORI: S-profile: OR zero-extended immediate. (R125) -/
  | ori (c : Fin 4) (rd : Fin 32) (ra : Fin 32) (imm : BitVec 16)
  /-- XORI: S-profile: XOR zero-extended immediate. (R125) -/
  | xori (c : Fin 4) (rd : Fin 32) (ra : Fin 32) (imm : BitVec 16)
  /-- SHLI: S-profile: shift left by immediate. (R125) -/
  | shli (c : Fin 4) (rd : Fin 32) (ra : Fin 32) (sh : Fin 32)
  /-- SHRI: S-profile: logical shift right by immediate. (R125) -/
  | shri (c : Fin 4) (rd : Fin 32) (ra : Fin 32) (sh : Fin 32)
  /-- SARI: S-profile: arithmetic shift right by immediate. (R125) -/
  | sari (c : Fin 4) (rd : Fin 32) (ra : Fin 32) (sh : Fin 32)
  /-- MOVH: S-profile: load immediate into the high half. (R125) -/
  | movh (c : Fin 4) (rd : Fin 32) (imm : BitVec 16)
  /-- LDW: S-profile: load word. (R128) -/
  | ldw (c : Fin 4) (rd : Fin 32) (ra : Fin 32) (off : BitVec 16)
  /-- LDH: S-profile: load sign-extended half-word. (R128) -/
  | ldh (c : Fin 4) (rd : Fin 32) (ra : Fin 32) (off : BitVec 16)
  /-- LDHU: S-profile: load zero-extended half-word. (R128) -/
  | ldhu (c : Fin 4) (rd : Fin 32) (ra : Fin 32) (off : BitVec 16)
  /-- LDB: S-profile: load sign-extended byte. (R128) -/
  | ldb (c : Fin 4) (rd : Fin 32) (ra : Fin 32) (off : BitVec 16)
  /-- LDBU: S-profile: load zero-extended byte. (R128) -/
  | ldbu (c : Fin 4) (rd : Fin 32) (ra : Fin 32) (off : BitVec 16)
  /-- STW: S-profile: store word, posted outside peripheral space and the NVM window. (R131) -/
  | stw (c : Fin 4) (rs : Fin 32) (ra : Fin 32) (off : BitVec 16)
  /-- STH: S-profile: store half-word. (R131) -/
  | sth (c : Fin 4) (rs : Fin 32) (ra : Fin 32) (off : BitVec 16)
  /-- STB: S-profile: store byte. (R131) -/
  | stb (c : Fin 4) (rs : Fin 32) (ra : Fin 32) (off : BitVec 16)
  /-- BEQ: S-profile: branch if equal. (R127) -/
  | beq (c : Fin 4) (ra : Fin 32) (rb : Fin 32) (off : BitVec 16)
  /-- BNE: S-profile: branch if not equal. (R127) -/
  | bne (c : Fin 4) (ra : Fin 32) (rb : Fin 32) (off : BitVec 16)
  /-- BLT: S-profile: branch if less, signed. (R127) -/
  | blt (c : Fin 4) (ra : Fin 32) (rb : Fin 32) (off : BitVec 16)
  /-- BGE: S-profile: branch if greater or equal, signed. (R127) -/
  | bge (c : Fin 4) (ra : Fin 32) (rb : Fin 32) (off : BitVec 16)
  /-- BLTU: S-profile: branch if less, unsigned. (R127) -/
  | bltu (c : Fin 4) (ra : Fin 32) (rb : Fin 32) (off : BitVec 16)
  /-- BGEU: S-profile: branch if greater or equal, unsigned. (R127) -/
  | bgeu (c : Fin 4) (ra : Fin 32) (rb : Fin 32) (off : BitVec 16)
  /-- JAL: S-profile: jump and link, PC-relative. (R127) -/
  | jal (c : Fin 4) (rd : Fin 32) (off : BitVec 21)
  /-- JR: S-profile: jump to register, optionally linking. (R127) -/
  | jr (c : Fin 4) (rd : Fin 32) (ra : Fin 32) (lk : Bool)
  /-- CRD: S-profile: read a control register or PS. (R136) -/
  | crd (c : Fin 4) (rd : Fin 32) (p : Bool) (n : Fin 64)
  /-- CWR: S-profile: write a control register or PS. (R136) -/
  | cwr (c : Fin 4) (ra : Fin 32) (p : Bool) (n : Fin 64)
  /-- WAIT: S-profile: sleep until woken. (R135) -/
  | wait_ (c : Fin 4)
  /-- FENCE: S-profile: order memory accesses, with scope 1 also refreshing instruction fetch. (R139) -/
  | fence (c : Fin 4) (scope : Bool)
  /-- TRAPI: S-profile: raise the trap exception. (R129) -/
  | trapi (c : Fin 4) (n : BitVec 8)
  /-- RETI: S-profile: restore PC and PS from EPC and EPS. (R133) -/
  | reti (c : Fin 4)
  /-- IMPRECISE_STORE_ERROR: A posted store's bus error returns and is taken at the next instruction boundary. (R131) -/
  | impreciseStoreError (c : Fin 4)
  /-- SOURCE_LEVEL_CHANGE: An interrupt source's level is asserted and its pending bit is set. (R385) -/
  | sourceLevelChange (n : Fin 384)
  /-- INTERRUPT_ENTRY: A core with IM = 0 and a deliverable source takes interrupt entry and the highest deliverable priority is pushed. (R388) -/
  | interruptEntry (c : Fin 4)
  /-- IC_EOI: A core's write of IC_EOI pops its priority stack and re-samples its sources. (R390) -/
  | icEoi (i : Initiator)
  /-- IC_PEND_WRITE: A write of IC_PENDk sets bits written 1 and re-samples bits written 0. (R385) -/
  | icPendWrite (i : Initiator) (k : Fin 12) (v : Word)
  /-- IC_GDIS_WRITE: A core write of IC_GDIS holds off or releases the privileged sources. (R393) -/
  | icGdisWrite (i : Initiator) (v : Word)
  /-- GDIS_TIMEOUT: Global disable held for MAXT is cleared by the ICU, GDISTO is set and a record is written. (R393) -/
  | gdisTimeout
  /-- SEMAPHORE_READ: A non-YDP read of IC_SEMn acquires the semaphore if free or reports its owner. (R403) -/
  | semaphoreRead (i : Initiator) (n : Fin 32)
  /-- SEMAPHORE_RELEASE: The owner's write of 0 to IC_SEMn frees it and signals waiters in IC_SEMREL. (R403) -/
  | semaphoreRelease (i : Initiator) (n : Fin 32) (v : Word)
  /-- SEMAPHORE_FORCE_FREE: A write of 1 to an IC_SEMFREE bit frees that semaphore whoever owns it. (R404) -/
  | semaphoreForceFree (i : Initiator) (v : Word)
  /-- TIMER_START: A write of TMR_CTLt.EN = 1 loads CNT from LOAD, or is refused while LOAD is 0. (R398) -/
  | timerStart (i : Initiator) (t : Fin 16) (v : Word)
  /-- TIMER_EXPIRY: A timer's count reaches 0, FLAG is set and it reloads or stops. (R398) -/
  | timerExpiry (t : Fin 16)
  /-- WATCHDOG_KICK: Core c writes 0xA5 then 0x5A to TMR_WDKICKc and its watchdog restarts. (R400) -/
  | watchdogKick (i : Initiator) (c : Fin 4) (v : Word)
  /-- WATCHDOG_WARNING: A watchdog's remaining count reaches WARN and WDWARN asserts its privileged source. (R401) -/
  | watchdogWarning (c : Fin 4)
  /-- WATCHDOG_EXPIRY: A watchdog reaches 0, WDOG or HFAULT is raised and the core is reset when RST is 1. (R401) -/
  | watchdogExpiry (c : Fin 4)
  /-- FRAME_TRANSMIT: Every 144 ns the KL-9063 sends a Flint frame with each phase's command slot and a management word. (R191) -/
  | frameTransmit (n : Fin 16)
  /-- FRAME_RECEIVE: A frame returns to the lane receiver and its valid reports are accepted and attributed by epoch. (R194) Whether symbol 0 was K28.5,
  whether every symbol decoded, and the bytes of symbols 1 to 69 (R185, R187). -/
  | frameReceive (n : Fin 16) (comma : Bool) (decoded : Bool) (symbols : List Byte)
  /-- LANE_LOSS: Sixteen frame times without a valid frame declare an UP lane lost and raise LANELOSS on its rails. (R202) -/
  | laneLoss (n : Fin 16)
  /-- BRING_UP_START: A write of 1 to FLK_LCFGn.EN starts lane training. (R200) -/
  | bringUpStart (i : Initiator) (n : Fin 16)
  /-- ENUMERATION_COMPLETE: Sixty-four consecutive valid ENUM frames return with HOP = NPOS and configuration begins. (R200) -/
  | enumerationComplete (n : Fin 16) (found : Nat)
  /-- BRING_UP_TIMEOUT: A lane not UP within its bring-up limits fails, EN returns to 0 and a record is written. (R200) -/
  | bringUpTimeout (n : Fin 16)
  /-- LANE_DISABLE_WRITE: A write of 0 to FLK_LCFGn.EN disables the lane, or is refused while a phase of it is switching. (R206) -/
  | laneDisableWrite (i : Initiator) (n : Fin 16) (v : Word)
  /-- MANAGEMENT_RESPONSE: A stage's R0 response and data complete a management transaction. (R197) -/
  | managementResponse (n : Fin 16) (r0 : Unit) (code : Unit) (data : Unit)
  /-- MANAGEMENT_TIMEOUT: Thirty-two frames pass without R0 and the transaction fails or is retried. (R197) -/
  | managementTimeout (n : Fin 16)
  /-- RAW_TRANSACTION: A write of 1 to FLK_MCMDn.GO starts a raw management transaction. (R197) -/
  | rawTransaction (i : Initiator) (n : Fin 16) (v : Word)
  /-- SEGMENT_FAULT_HANDLING: Mica reads a stage's fault list, marks segments FAILED, records them and rebuilds the side, retiring the phase if needed. (R215) -/
  | segmentFaultHandling (p : Fin 128) (faults : Unit) (ok : Unit)
  /-- REBUILD: Mica forms a side's lighting order from the segment map, downloads it and writes ACTIVATE. (R216) -/
  | micaRebuild (p : Fin 128) (low : Bool) (ok : Unit)
  /-- REBUILD_ALL: A write of 1 to MICA_CTRL.REBUILD rebuilds every side of every stage on an UP lane. (R216) -/
  | micaRebuildAll (i : Initiator)
  /-- ROTATION: Every ROT_INT ms of switching Mica advances a stage's rotation offset and activates it. (R217) -/
  | micaRotation (p : Fin 128) (ok : Unit)
  /-- AGE_INCREMENT: A segment's lit time reaches UNIT hours and its AGE increments. (R218) -/
  | ageIncrement (p : Fin 128) (low : Bool) (seg : Fin 1024)
  /-- SURVEY_START: A write of 1 to MICA_CTRL.SURVEY starts a survey of the whole segment map. (R219) -/
  | surveyStart (i : Initiator)
  /-- SURVEY_STAGE_DONE: A stage's survey busy clears and Mica updates segment health from its results. (R219) -/
  | surveyStageDone (p : Fin 128) (res : Unit)
  /-- SURVEY_ABORT: A write of 1 to MICA_CTRL.ABORT ends the survey and sets SABORT. (R220) -/
  | surveyAbort (i : Initiator)
  /-- STEER_DEAD_EXPIRY: STEER_DEAD elapses, the command selects the new rail, and after a second interval the switch has settled. (R238) -/
  | steerDeadExpiry (p : Fin 128)
  /-- STEER_CONFIRM_TIMEOUT: An open not confirmed within 10 us trips the phase with STEERUNK = 1. (R238) -/
  | steerConfirmTimeout (p : Fin 128)
  /-- DRAIN_FAIL: A phase not in ZERO within DRAIN_MAX after F reached 0 returns to ACTIVE and the move fails. (R237) -/
  | drainFail (p : Fin 128)
  /-- MOVE_TO_HOME_RAIL: A POOL_LREQ request with OP 0 moves a phase to its home rail. (R244) -/
  | moveToHomeRail (i : Initiator) (v : Word)
  /-- MOVE_TO_GUEST_RAIL: A POOL_LREQ request with OP 1 lends a phase to its guest rail. (R244) -/
  | moveToGuestRail (i : Initiator) (v : Word)
  /-- PARK: A POOL_LREQ request with OP 2 sheds an active phase to PARKED. (R244) -/
  | poolPark (i : Initiator) (v : Word)
  /-- CLEAR: A POOL_LREQ request with OP 3 returns a tripped or retired phase to PARKED. (R244) -/
  | poolClear (i : Initiator) (v : Word)
  /-- SPECULATIVE_ADD_START: A speculative add reaches ADD_LEAD before its planned current and starts if its epoch still matches. (R243) -/
  | speculativeAddStart (r : Fin 63)
  /-- BUDGET_TICK: Every 10 us Clove measures, projects against its limits, moves the ladder and takes heat, lending and limiter actions. (R249) -/
  | budgetTick
  /-- LADDER_QUIET_EXPIRY: QUIET_T ms of consecutive quiet ticks lower the ladder level by one. (R254) -/
  | ladderQuietExpiry
  /-- MARGIN_STEP: Every MINT a rail's margin step count rises or falls by one, squashing when the margin in force changes. (R256) -/
  | marginStep
  /-- BUS_SENSE_TIMEOUT: No valid bus conversion for 100 us sets SENSE and raises BUSSENSE. (R269) -/
  | busSenseTimeout
  /-- CLV_CTRL_WRITE: A write of CLV_CTRL starts the budget tick or, with EN = 0, resets level, steps and gains. (R249) -/
  | clvCtrlWrite (i : Initiator) (v : Word)
  /-- CORE_RETENTION_ENTRY: A core in WAIT for CORE_T us enters retention. (R268) -/
  | coreRetentionEntry (c : Fin 4)
  /-- BANK_RETENTION_ENTRY: A memory bank idle for MEM_T us enters retention. (R268) -/
  | bankRetentionEntry (b : Fin 28)
  /-- ADC_WORD: A slice's decimator delivers a word every OSR modulator clocks and a kept word becomes a result. (R273) -/
  | adcWord (i : Fin 72) (code : BitVec 24) (sat : Bool)
  /-- INJECTED_TRIGGER: A hardware trigger starts a sense point's injected sequence, or is held pending or dropped. (R279) -/
  | injectedTrigger (s : Fin 64)
  /-- SWTRIG: A write of 1 to ADC_SPCFGs.SWTRIG triggers the injected sequence. (R280) -/
  | swtrig (i : Initiator) (s : Fin 64)
  /-- GROUP_TRIGGER: A write of 1 to ADC_GTRIGk.SW restarts all eight positions of a group together. (R282) -/
  | groupTrigger (i : Initiator) (g : Fin 8)
  /-- ROTATION_STEP: Every INT a group's spare joins a position to take over its input. (R284) -/
  | rotationStep
  /-- CALIBRATION_DONE: A slice's calibration ends, loading corrections and making it the spare, or retiring it. (R285) -/
  | calibrationDone (i : Fin 72) (ofs : Int) (gain : Int) (lin : Nat)
  /-- CALIBRATION_SWEEP: A write of 1 to ADC_CTRL.SWEEP starts a calibration sweep over every group. (R287) -/
  | calibrationSweep (i : Initiator)
  /-- REFERENCE_SETTLED: The selected reference settles after selection or reset and REFRDY is set. (R289) -/
  | referenceSettled
  /-- SENSE_STALE: A sense point's newest valid result becomes older than SNS_T and loss of sensing is raised for its regulating rail. (R290) -/
  | senseStale (s : Fin 64)
  /-- MONITOR_SAMPLE: A window monitor samples its comparator at TBCLK/4 and updates its filtered and latched outputs and actions. (R293) -/
  | monitorSample (m : Fin 96) (x : Int)
  /-- MONITOR_ENABLE: A write of 1 to WMON_CFGm.EN starts the initial samples without hysteresis. (R294) -/
  | monitorEnable (i : Initiator) (m : Fin 96) (v : Word)
  /-- MONITOR_CLEAR: A write of 1 to WMON_CLRm.CLR clears, holds or refuses the latch according to LMODE. (R295) -/
  | monitorClear (i : Initiator) (m : Fin 96) (v : Word)
  /-- MONITOR_STUCK: A filtered output active for STUCK_T ms sets STUCK and raises WSTUCK. (R297) -/
  | monitorStuck (m : Fin 96)
  /-- CHATTER_WINDOW: A chatter window ends and, when its transitions exceed CHATMAX, the output is forced active. (R298) -/
  | chatterWindow (m : Fin 96)
  /-- FAULT_APPLY: A queued fault reaches the head and its response is merged into the rail's or device's response in force. (R310) -/
  | faultApply
  /-- FLT_NEXT_READ: A read of FLT_NEXT by the handler core with VALID = 1 sets INH. (R316) -/
  | fltNextRead (i : Initiator)
  /-- FLT_ACK: A write of FLT_ACK acknowledges the presented fault and may apply a stronger severity. (R315) -/
  | fltAck (i : Initiator) (v : Word)
  /-- FLT_DEVCLR: A write of 1 to FLT_DEVCLR.CLR ends the DEVICE response, or is refused. (R308) -/
  | fltDevclr (i : Initiator)
  /-- FREEZE: A write of 1 to GRN_CTRL.FREEZE stops ring writes and redirects records to the freeze buffer. (R326) -/
  | grnFreeze (i : Initiator)
  /-- UNFREEZE: A write of 0 to GRN_CTRL.FREEZE writes the buffered records to the ring in order. (R326) -/
  | grnUnfreeze (i : Initiator)
  /-- FREEZE_TIMEOUT: A freeze lasting 2 ms ends by itself and sets FRZTO. (R326) -/
  | freezeTimeout
  /-- GRN_SWEV: A program's write of GRN_SWEV submits its own record with its GRN_SWD data. (R327) -/
  | grnSwev (i : Initiator) (v : Word)
  /-- MIRROR_COPY: A fault record at or above MSEV is copied into a slot of the NVM log region when the NVM allows. (R328) -/
  | mirrorCopy
  /-- PAGE: PMBus PAGE selects a rail or all rails. (R340) -/
  | pmbPage (op : PmbOp)
  /-- OPERATION: PMBus OPERATION enables, disables or margins the page's rail. (R342) -/
  | pmbOperation (op : PmbOp)
  /-- ON_OFF_CONFIG: PMBus ON_OFF_CONFIG sets whether OPERATION turns the rail on and off. (R342) -/
  | onOffConfig (op : PmbOp)
  /-- CLEAR_FAULTS: PMBus CLEAR_FAULTS clears latched status bits and STATUS_CML, and rail faults when CFRAIL is 1. (R346) -/
  | clearFaults (op : PmbOp)
  /-- WRITE_PROTECT: PMBus WRITE_PROTECT sets which writes are accepted. (R343) -/
  | writeProtect (op : PmbOp)
  /-- CAPABILITY: PMBus CAPABILITY returns 0xD0. (R339) -/
  | pmbCapability (op : PmbOp)
  /-- VOUT_MODE: PMBus VOUT_MODE returns 0x14. (R339) -/
  | voutMode (op : PmbOp)
  /-- VOUT_COMMAND: PMBus VOUT_COMMAND reads or writes RAIL_VSET in Linear16. (R344) -/
  | voutCommand (op : PmbOp)
  /-- VOUT_MAX: PMBus VOUT_MAX reads or writes RAIL_CEIL. (R344) -/
  | voutMax (op : PmbOp)
  /-- VOUT_MARGIN_HIGH: PMBus VOUT_MARGIN_HIGH reads or writes PMB_MARGr.HIGH. (R342) -/
  | voutMarginHigh (op : PmbOp)
  /-- VOUT_MARGIN_LOW: PMBus VOUT_MARGIN_LOW reads or writes PMB_MARGr.LOW. (R342) -/
  | voutMarginLow (op : PmbOp)
  /-- VOUT_OV_FAULT_LIMIT: PMBus VOUT_OV_FAULT_LIMIT reads or writes PMB_OVr. (R345) -/
  | voutOvFaultLimit (op : PmbOp)
  /-- IOUT_OC_FAULT_LIMIT: PMBus IOUT_OC_FAULT_LIMIT reads or writes PMB_OCr in Linear11. (R345) -/
  | ioutOcFaultLimit (op : PmbOp)
  /-- OT_FAULT_LIMIT: PMBus OT_FAULT_LIMIT reads or writes PMB_OTr. (R345) -/
  | otFaultLimit (op : PmbOp)
  /-- STATUS_BYTE: PMBus STATUS_BYTE reads or clears the page's status byte. (R346) -/
  | statusByte (op : PmbOp)
  /-- STATUS_WORD: PMBus STATUS_WORD reads or clears the page's status word. (R346) -/
  | statusWord (op : PmbOp)
  /-- STATUS_VOUT: PMBus STATUS_VOUT reads or clears output-voltage status. (R346) -/
  | statusVout (op : PmbOp)
  /-- STATUS_IOUT: PMBus STATUS_IOUT reads or clears output-current status. (R346) -/
  | statusIout (op : PmbOp)
  /-- STATUS_TEMPERATURE: PMBus STATUS_TEMPERATURE reads or clears temperature status. (R346) -/
  | statusTemperature (op : PmbOp)
  /-- STATUS_CML: PMBus STATUS_CML reads or clears communication status. (R346) -/
  | statusCml (op : PmbOp)
  /-- READ_VIN: PMBus READ_VIN returns VBUS in Linear11. (R339) -/
  | readVin (op : PmbOp)
  /-- READ_VOUT: PMBus READ_VOUT returns the rail's VRAIL in Linear16, saturated. (R339) -/
  | readVout (op : PmbOp)
  /-- READ_IOUT: PMBus READ_IOUT returns the rail's summed current. (R339) -/
  | readIout (op : PmbOp)
  /-- READ_TEMPERATURE_1: PMBus READ_TEMPERATURE_1 returns the rail's highest stage temperature. (R339) -/
  | readTemperature1 (op : PmbOp)
  /-- READ_POUT: PMBus READ_POUT returns the rail's measured power. (R339) -/
  | readPout (op : PmbOp)
  /-- PMBUS_REVISION: PMBus PMBUS_REVISION returns 0x44. (R339) -/
  | pmbusRevision (op : PmbOp)
  /-- MFR_ID: PMBus MFR_ID returns ELVALIS. (R339) -/
  | mfrId (op : PmbOp)
  /-- MFR_MODEL: PMBus MFR_MODEL returns KL-9063. (R339) -/
  | mfrModel (op : PmbOp)
  /-- MFR_SPECIFIC: A PMBus code 0xD0-0xEF is placed in the mailbox for a program. (R351) -/
  | mfrSpecific (code : Fin 32) (op : PmbOp)
  /-- MFR_VOUT_COMMAND_FULL: The service program reads or writes RAIL_VSET as a 20-bit value. (R353) -/
  | mfrVoutCommandFull (op : PmbOp)
  /-- MFR_READ_VOUT_FULL: The service program returns the 20-bit VRAIL. (R353) -/
  | mfrReadVoutFull (op : PmbOp)
  /-- MFR_VOUT_MAX_FULL: The service program reads or writes RAIL_CEIL as a 20-bit value. (R353) -/
  | mfrVoutMaxFull (op : PmbOp)
  /-- INVALID_COMMAND_CODE: A PMBus command code that is neither decoded nor MFR_SPECIFIC is not acknowledged and sets STATUS_CML.CMD. (R334) -/
  | invalidCommandCode (code : Byte) (op : PmbOp)
  /-- PROTOCOL_VIOLATION: A PMBus protocol violation discards the write, counts in PMB_VCNT and is recorded. (R350) -/
  | protocolViolation (kind : Fin 7)
  /-- MAILBOX_ANSWER: A write of PMB_MBOUT.READY releases SCL and sends the program's answer. (R352) -/
  | mailboxAnswer (i : Initiator) (v : Word)
  /-- MAILBOX_TIMEOUT: No answer within MBT ms releases SCL with 0xFF bytes and sets MBLATE. (R352) -/
  | mailboxTimeout
  /-- ALERT_RESPONSE: A read of the Alert Response Address returns the KL-9063's address and releases PMB_ALERT_N when won. (R347) -/
  | alertResponse (won : Bool)
  /-- PMBUS_LIMIT_CHECK: Every 10 us each rail's voltage, current and temperature are compared with its PMBus limits. (R345) -/
  | pmbusLimitCheck (r : Fin 63)
  /-- SCL_TIMEOUT: SCL low for 30 ms abandons the target transaction and sets SCLTO. (R348) -/
  | sclTimeout
  /-- SDA_TIMEOUT: SDA held low for 35 ms while SCL is high sets SDALTO. (R348) -/
  | sdaTimeout
  /-- PMBUS_WAKE: An address match in a low-power state is acknowledged, SCL is held and the device wakes. (R349) -/
  | pmbusWake
  /-- PMC_TRANSACTION: A write of 1 to PMC_CMD.GO starts a controller-port transaction. (R354) -/
  | pmcTransaction (i : Initiator) (v : Word) (clear : Option Bool)
  /-- PMC_TRANSACTION_END: A controller-port transaction ends with STOP, reporting DONE, NACK, PEC or arbitration results. (R354) -/
  | pmcTransactionEnd (r : PmcEnd)
  /-- PMC_SCL_TIMEOUT: A target holding SCL low for 30 ms ends the controller transaction with TOUT. (R355) -/
  | pmcSclTimeout
  /-- PMC_BUS_CLEAR: A write of 1 to PMC_CFG.EN clocks SCL until SDA is released and sends STOP. (R356) -/
  | pmcBusClear (i : Initiator) (v : Word) (freed : Bool)
  /-- BUS_CLEAR_RETRY: Every 35 ms while SDA stays low the bus clear is repeated. (R356) -/
  | busClearRetry (freed : Bool)
  /-- PMC_ALERT_SERVICE: With PMC_ALERT_N low, the port reads the Alert Response Address and enters answering addresses in the alert list. (R357) -/
  | pmcAlertService (addrs : List (BitVec 7))
  /-- ALIST_READ: A read of PMC_ALIST returns and removes the head of the alert list. (R357) -/
  | alistRead (i : Initiator)
  /-- PORT_ENABLE: A write of AUD_PCFGn.EN = 1 enables an audio port, starting ACQUIRE for an idle group. (R363) -/
  | portEnable (i : Initiator) (n : Fin 8) (v : Word)
  /-- PORT_DISABLE: A write of AUD_PCFGn.EN = 0 stops the port, making a new timeline master when it was master. (R370) -/
  | portDisable (i : Initiator) (n : Fin 8) (v : Word)
  /-- NOP: Load command NOP does nothing and answers ACK. (R376) -/
  | lcpNop (f : LcpFrame)
  /-- SET_FLOOR: Load command SET_FLOOR writes RAIL_FLOOR. (R376) -/
  | lcpSetFloor (f : LcpFrame)
  /-- SET_CEIL: Load command SET_CEIL writes RAIL_CEIL. (R376) -/
  | lcpSetCeil (f : LcpFrame)
  /-- SET_MARGIN: Load command SET_MARGIN writes SAF_MARGIN and squashes. (R376) -/
  | lcpSetMargin (f : LcpFrame)
  /-- SET_GAIN: Load command SET_GAIN writes a channel's LGAIN and squashes. (R376) -/
  | lcpSetGain (f : LcpFrame)
  /-- MUTE: Load command MUTE mutes or releases a channel of the rail. (R376) -/
  | lcpMute (f : LcpFrame)
  /-- HOLD: Load command HOLD writes RAIL_VSET and forces HOLD until RELEASE. (R378) -/
  | lcpHold (f : LcpFrame)
  /-- RELEASE: Load command RELEASE ends the HOLD force and returns to RAIL_SRC.SRC. (R378) -/
  | lcpRelease (f : LcpFrame)
  /-- READ_RAIL: Load command READ_RAIL returns VRAIL, VSET, IREF or the knot voltage. (R376) -/
  | lcpReadRail (f : LcpFrame)
  /-- READ_STATUS: Load command READ_STATUS returns the rail's state and flags. (R379) -/
  | lcpReadStatus (f : LcpFrame)
  /-- ACK_ALERT: Load command ACK_ALERT clears the named alert latches. (R380) -/
  | lcpAckAlert (f : LcpFrame)
  /-- LCP_VIOLATION: A load command burst that is short, long, or fails CRC, sync or opcode checks is answered with its code and counted. (R374) -/
  | lcpViolation (n : Fin 4) (edges : Nat) (bits : BitVec 48)
  /-- LCP_TIMEOUT: CK low for 1 ms after a burst discards any waiting response and sets TOUT. (R381) -/
  | lcpTimeout (n : Fin 4)
  /-- LCP_PORT_DISABLE: A write of 0 to LCP_CFGn.EN discards a waiting response and clears the latches. (R382) -/
  | lcpPortDisable (i : Initiator) (n : Fin 4) (v : Word)
  /-- DMA_START: A write of DMA_CCMDn with GO = 1 starts a channel at its first descriptor. (R409) -/
  | dmaStart (i : Initiator) (n : Fin 32) (v : Word)
  /-- DMA_ABORT: A write of DMA_CCMDn.ABORT stops the channel after the beat in progress. (R417) -/
  | dmaAbort (i : Initiator) (n : Fin 32) (v : Word)
  /-- DMA_SWTRG: A write of DMA_CCMDn.SWTRG latches a trigger for the channel. (R411) -/
  | dmaSwtrg (i : Initiator) (n : Fin 32) (v : Word)
  /-- DMA_BEAT: The granted channel issues one beat: a descriptor fetch, data access, read-back or status write. (R413) -/
  | dmaBeat (n : Fin 32)
  /-- DMA_PROMOTION: A waiting level-0 channel that has watched 256 beats is promoted for its next burst. (R419) -/
  | dmaPromotion (n : Fin 32)
  /-- DMA_SPACING_END: A channel's share spacing elapses and it becomes ready again. (R420) -/
  | dmaSpacingEnd (n : Fin 32)
  /-- DRAIN_TIMEOUT: Touching channels not parked within 100 us of a drain request stop with CODE 5. (R423) -/
  | drainTimeout (d : Fin 16)
  /-- NVM_SDATA_WRITE: A write of NVM_SDATA writes one byte at the stream address and advances it within the page. (R430) -/
  | nvmSdataWrite (i : Initiator) (v : Word)
  /-- RECORD_WRITE: A write of 1 to NVM_RWR.GO starts writing one record to a record group. (R438) -/
  | recordWrite (i : Initiator) (v : Word)
  /-- RECORD_WRITE_DONE: The record write's read-back ends, the group status is updated and RESULT is set. (R438) -/
  | recordWriteDone
  /-- RECALL: After cold reset with VNVM valid, the controller loads protection, records, counters and the Garnet log. (R439) -/
  | nvmRecall
  /-- RECALL_END: Recall ends, READY is set and the faults it found are raised. (R439) -/
  | nvmRecallEnd
  /-- RESCAN: A write of 1 to NVM_CTRL.RESCAN rereads the directory and finds the newest records. (R436) -/
  | nvmRescan (i : Initiator)
  /-- BP_WRITE: A write of NVM_PROT.BP changes the protected range and writes the protection word. (R440) -/
  | bpWrite (i : Initiator) (v : Word)
  /-- SCRUB: A write of 1 to NVM_CTRL.SCRUB starts reading every group to correct errors. (R442) -/
  | nvmScrub (i : Initiator)
  /-- SCRUB_ABORT: A write of 1 to NVM_CTRL.SABORT ends a scrub as an abort. (R442) -/
  | nvmScrubAbort (i : Initiator)
  /-- SCRUB_DONE: A scrub completes and SDONE is set. (R442) -/
  | nvmScrubDone
  /-- COMMIT: A write of 1 to NVM_CTRL.COMMIT commits every lifetime counter family. (R443) -/
  | nvmCommit (i : Initiator)
  /-- COMMIT_INTERVAL: Every INT seconds with CEN set, the lifetime counters are committed under R445. (R443) -/
  | commitInterval
  /-- POWER_ON_RESET: A supply falls below its reset level, giving a cold reset. (R458) -/
  | powerOnReset
  /-- RESET_RELEASE: One ms after the last supply rises above its reset level the power-on reset ends. (R450) -/
  | resetRelease (strap : Fin 4) (addr : ReleasePins)
  /-- RESET_PIN: RESET_N held low for at least 1 us gives a cold reset. (R458) -/
  | resetPin
  /-- WARM_RESET: A keyed SYS_RST write with DEV = 1 gives a warm reset. (R458) -/
  | warmReset (i : Initiator) (v : Word)
  /-- CORE_RESET: A keyed SYS_RST write with CORE bits resets those cores. (R460) -/
  | coreReset (i : Initiator) (v : Word)
  /-- POWER_FAILING: A supply below warning for 2 us or PFAIL_N low raises SUPPLY and starts a counter commit. (R452) -/
  | powerFailing (supply : Option (Fin 7))
  /-- DOMAIN_POWER_DOWN: Setting a SYS_PWRREQ bit requests a domain power-down and issues the DMA drain request. (R455) -/
  | domainPowerDown (i : Initiator) (d : Fin 16)
  /-- DOMAIN_OFF: The DMA engine reports quiescence, the domain is powered down and DONE is set. (R455) -/
  | domainOff (d : Fin 16)
  /-- DOMAIN_POWER_UP: Clearing a SYS_PWRREQ bit requests power-up of the domain. (R455) -/
  | domainPowerUp (i : Initiator) (d : Fin 16)
  /-- DOMAIN_UP: A domain becomes usable after its power-up time, OFF clears and DONE is set. (R455) -/
  | domainUp (d : Fin 16)
  /-- STANDBY: A write of 1 to SYS_STBY.GO stops clocks and domains, or is refused. (R457) -/
  | standby (i : Initiator)
  /-- STANDBY_WAKE: A wake source ends standby, the timebase relocks and WOKE wakes SC0. (R457) -/
  | standbyWake
  /-- IMAGE_LOAD_START: The boot ROM starts loading an image from NVM or the host and checks its header and sections. (R465) -/
  | imageLoadStart
  /-- IMAGE_LOAD_END: The image has been read and its CRC and tag are compared, then register lists are applied. (R465) -/
  | imageLoadEnd
  /-- BOOTGO: A write of SYS_BOOTGO starts loading a host image from SBM. (R467) -/
  | bootgo (i : Initiator) (v : Word)
  /-- IMAGE_START: PMBus boot command 0xEC returns the load offset to 0. (R467) -/
  | imageStart (op : PmbOp)
  /-- IMAGE_DATA: PMBus boot command 0xED appends 1-32 bytes at the offset. (R467) -/
  | imageData (op : PmbOp)
  /-- IMAGE_END: PMBus boot command 0xEE starts the load with the offset as the length. (R467) -/
  | imageEnd (op : PmbOp)
  /-- IMAGE_STATUS: PMBus boot command 0xEF returns SYS_BOOT. (R467) -/
  | imageStatus (op : PmbOp)
  /-- HSP_WRITE: Host SPI command 0x02 writes data bytes on IO0 from the address. (R469) -/
  | hspWrite (a : Word) (data : List Byte)
  /-- HSP_READ: Host SPI command 0x03 reads data bytes on IO1 from the address. (R469) -/
  | hspRead (a : Word) (count : Nat) (late : Option Nat)
  /-- HSP_QUAD_WRITE: Host SPI command 0x32 writes data bytes on IO0-IO3. (R469) -/
  | hspQuadWrite (a : Word) (data : List Byte)
  /-- HSP_QUAD_READ: Host SPI command 0x6B reads data bytes on IO0-IO3. (R469) -/
  | hspQuadRead (a : Word) (count : Nat) (late : Option Nat)
  /-- HSP_STATUS: Host SPI command 0x05 returns only the status byte. (R469) -/
  | hspStatus
  /-- GPIO_EDGE: A GPIO pin's filtered level changes after FLT + 1 samples and a selected edge sets its flag. (R470) -/
  | gpioEdge (n : Fin 16) (level : Bool)
  /-- PULSE_DENSITY_WINDOW: A pulse-density window ends and GPIO_PDn is updated and marked valid. (R471) -/
  | pulseDensityWindow (samples : Nat) (high : List Nat)
  /-- LINE_RESET: Thirty-two or more low clocks on YDP_IO return the debug protocol to idle. (R473) -/
  | lineReset
  /-- STATUS: YDP STATUS returns YDP_STAT. (R475) -/
  | ydpStatus
  /-- MEMRD: YDP MEMRD reads a word as a level-1 fabric initiator. (R475) -/
  | memrd (a : Word)
  /-- MEMWR: YDP MEMWR writes a word as a level-1 fabric initiator. (R475) -/
  | memwr (a : Word) (v : Word)
  /-- REGRD: YDP REGRD reads a register of a halted core. (R475) -/
  | regrd (t : Fin 8) (a : Word)
  /-- REGWR: YDP REGWR writes a register of a halted core. (R475) -/
  | regwr (t : Fin 8) (a : Word) (v : Word)
  /-- HALT: YDP HALT halts a core, or Basalt adding DBGHALT on every lane. (R476) -/
  | ydpHalt (t : Fin 8)
  /-- RESUME: YDP RESUME resumes a halted core or Basalt. (R476) -/
  | ydpResume (t : Fin 8)
  /-- STEP: YDP STEP executes one instruction of a halted core. (R476) -/
  | ydpStep (t : Fin 8)
  /-- RESET: YDP RESET gives a warm reset or a core reset. (R475) -/
  | ydpReset (t : Fin 8) (a : Word)
  /-- YDP_CRC_ERROR: A debug request whose CRC fails does nothing and is answered CRCERR. (R474) -/
  | ydpCrcError
  /-- BREAKPOINT: A core reaches an enabled breakpoint address and halts before executing it. (R476) -/
  | ydpBreakpoint (c : Fin 4)
  /-- EXTEST: TAP instruction EXTEST drives pins from the boundary register. (R479) -/
  | tapExtest
  /-- SAMPLE_PRELOAD: TAP instruction SAMPLE/PRELOAD captures and preloads the boundary register. (R479) -/
  | tapSamplePreload
  /-- IDCODE: TAP instruction IDCODE selects the identification register. (R479) -/
  | tapIdcode
  /-- CLAMP: TAP instruction CLAMP holds pins from the boundary register with bypass selected. (R479) -/
  | tapClamp
  /-- HIGHZ: TAP instruction HIGHZ places outputs at high impedance. (R479) -/
  | tapHighz
  /-- BYPASS: TAP instruction BYPASS, also taken by unlisted codes, selects the bypass register. (R479) -/
  | tapBypass
  /-- TAP_RESET: TRST_N low holds the TAP in Test-Logic-Reset with IDCODE selected. (R479) -/
  | tapReset
  /-- SELF_TEST: A write of SYS_TEST with GO = 1 starts a memory or lane self-test, or is refused. (R480) -/
  | selfTest (i : Initiator) (v : Word)
  /-- SELF_TEST_DONE: A self-test ends with RESULT and FSTEP set and a record written. (R480) -/
  | selfTestDone (fails : List Nat)
  /-- LOW_WORD_READ: A read of the low word of a 64-bit register pair captures the high word into a holding copy for the same initiator. (R11) -/
  | lowWordRead (i : Initiator) (a : Nat)
  /-- ILLEGAL_INSTRUCTION: A core or lane executes a word with an undefined opcode or function code or a reserved bit set, raising exception code 1 or a program failure. (R121) -/
  | illegalInstruction (u : Executor) (w : Word)
  /-- FETCH_BUS_ERROR: A core's instruction fetch ends in a bus error or lies outside boot ROM, core memory and shared buffer memory, raising exception code 3 at the address fetched. (R129) -/
  | fetchBusError (c : Fin 4)
  /-- RECEIVER_ALIGNMENT: During bring-up the lane receiver aligns on K28.5, and the lane passes from TRAIN to ENUM and begins sending ENUM frames. (R200) -/
  | receiverAlignment (n : Fin 16)
  /-- POWER_FAILING_END: Every supply returns above its warning level and PFAIL_N rises, ending the power-failing condition so that SYS_SUPST.OK updates and FLT_DEVCLR is no longer refused for it. (R452) -/
  | powerFailingEnd
deriving DecidableEq, Repr

end Sys2Proof
end

