-- ==== Sys2Proof/Decode.lean ====
section
/-! DEFINITION. Words of instructions and of the command table. No row of spec/opcode_table.json gives its command any bits: the
commands reach the part as register writes, pin events and bus frames, and no word of the table spells one. The supervisory
cores and the Basalt lanes do have instruction words: which of the table's rows a word is, follows R121, R124, R125 and R144. -/
namespace Sys2Proof

/-- The command that a word spells by the table's bits: none, for the table gives no row bits. -/
def decodeTableWord (_nbits _w : Nat) : Option Instr := none

/-! ## Fields of an instruction word -/

/-- Bits [lo + width − 1 : lo] of a word. -/
def wordBits (w : Word) (lo width : Nat) : Nat := w.toNat / 2 ^ lo % 2 ^ width
/-- A register field: five bits. -/
def reg5At (w : Word) (lo : Nat) : Fin 32 := Fin.ofNat 32 (wordBits w lo 5)
def fin4At (w : Word) (lo : Nat) : Fin 16 := Fin.ofNat 16 (wordBits w lo 4)
def fin3At (w : Word) (lo : Nat) : Fin 8 := Fin.ofNat 8 (wordBits w lo 3)
def fin2At (w : Word) (lo : Nat) : Fin 4 := Fin.ofNat 4 (wordBits w lo 2)
def fin6At (w : Word) (lo : Nat) : Fin 64 := Fin.ofNat 64 (wordBits w lo 6)
def flagAt (w : Word) (n : Nat) : Bool := wordBits w n 1 = 1
/-- The low 16 bits of a word. -/
def imm16At (w : Word) : BitVec 16 := BitVec.ofNat 16 (wordBits w 0 16)

/-! ## The S-profile (R124, R125) -/

/-- The Reg format: opcode 0x00, the operation in the function code. -/
def decodeReg (c : Fin 4) (w : Word) : Option Instr :=
  let rd := reg5At w 21
  let ra := reg5At w 16
  let rb := reg5At w 11
  if wordBits w 6 5 ≠ 0 then none
  else match wordBits w 0 6 with
  | 0x01 => some (.add c rd ra rb)
  | 0x02 => some (.sub c rd ra rb)
  | 0x03 => some (.and_ c rd ra rb)
  | 0x04 => some (.or_ c rd ra rb)
  | 0x05 => some (.xor c rd ra rb)
  | 0x06 => some (.shl c rd ra rb)
  | 0x07 => some (.shr c rd ra rb)
  | 0x08 => some (.sar c rd ra rb)
  | 0x09 => some (.slt c rd ra rb)
  | 0x0A => some (.sltu c rd ra rb)
  | 0x10 => some (.mul c rd ra rb)
  | 0x11 => some (.mulh c rd ra rb)
  | 0x12 => some (.mulhu c rd ra rb)
  | 0x14 => some (.div c rd ra rb)
  | 0x15 => some (.divu c rd ra rb)
  | 0x16 => some (.rem c rd ra rb)
  | 0x17 => some (.remu c rd ra rb)
  | _ => none

/-- The Sys format: opcode 0x3F, the operation in the function code. -/
def decodeSys (c : Fin 4) (w : Word) : Option Instr :=
  let arg := wordBits w 8 8
  if wordBits w 16 10 ≠ 0 ∨ wordBits w 6 2 ≠ 0 then none
  else match wordBits w 0 6 with
  | 0x01 => if arg = 0 then some (.wait_ c) else none
  | 0x02 => if arg < 2 then some (.fence c (flagAt w 8)) else none
  | 0x03 => some (.trapi c (BitVec.ofNat 8 arg))
  | 0x04 => if arg = 0 then some (.reti c) else none
  | _ => none

/-- The instruction of the S-profile that a word is, or none where it is illegal (R121, R124, R125). -/
def decodeS (c : Fin 4) (w : Word) : Option Instr :=
  let r1 := reg5At w 21
  let r2 := reg5At w 16
  let imm := imm16At w
  match wordBits w 26 6 with
  | 0x00 => decodeReg c w
  | 0x01 => some (.addi c r1 r2 imm)
  | 0x02 => some (.andi c r1 r2 imm)
  | 0x03 => some (.ori c r1 r2 imm)
  | 0x04 => some (.xori c r1 r2 imm)
  | 0x05 => if wordBits w 5 11 = 0 then some (.shli c r1 r2 (reg5At w 0)) else none
  | 0x06 => if wordBits w 5 11 = 0 then some (.shri c r1 r2 (reg5At w 0)) else none
  | 0x07 => if wordBits w 5 11 = 0 then some (.sari c r1 r2 (reg5At w 0)) else none
  | 0x08 => if wordBits w 16 5 = 0 then some (.movh c r1 imm) else none
  | 0x10 => some (.ldw c r1 r2 imm)
  | 0x11 => some (.ldh c r1 r2 imm)
  | 0x12 => some (.ldhu c r1 r2 imm)
  | 0x13 => some (.ldb c r1 r2 imm)
  | 0x14 => some (.ldbu c r1 r2 imm)
  | 0x18 => some (.stw c r1 r2 imm)
  | 0x19 => some (.sth c r1 r2 imm)
  | 0x1A => some (.stb c r1 r2 imm)
  | 0x20 => some (.beq c r1 r2 imm)
  | 0x21 => some (.bne c r1 r2 imm)
  | 0x22 => some (.blt c r1 r2 imm)
  | 0x23 => some (.bge c r1 r2 imm)
  | 0x24 => some (.bltu c r1 r2 imm)
  | 0x25 => some (.bgeu c r1 r2 imm)
  | 0x28 => some (.jal c r1 (BitVec.ofNat 21 (wordBits w 0 21)))
  | 0x29 => if wordBits w 0 15 = 0 then some (.jr c r1 r2 (flagAt w 15)) else none
  | 0x30 => if wordBits w 7 14 = 0 then some (.crd c r1 (flagAt w 6) (fin6At w 0)) else none
  | 0x31 => if wordBits w 7 14 = 0 then some (.cwr c r1 (flagAt w 6) (fin6At w 0)) else none
  | 0x3F => decodeSys c w
  | _ => none

/-! ## The L-profile (R144) -/

/-- The instruction of the L-profile that a word is, or none where its opcode or a reserved bit makes it illegal (R144). What
further makes an operand illegal (a port above 15, a shift above 39, a hi field beside K = 1) its row decides. -/
def decodeL (l : Fin 16) (w : Word) : Option Instr :=
  let dd := fin4At w 22
  let sa := reg5At w 17
  let sb := reg5At w 12
  let acc := fin3At w 23
  let imm := imm16At w
  let off := BitVec.ofNat 12 (wordBits w 0 12)
  match wordBits w 26 6 with
  | 0x01 => if wordBits w 0 17 = 0 then some (.ldin l dd sa) else none
  | 0x02 => if wordBits w 22 4 = 0 ∧ wordBits w 0 12 = 0 then some (.emit l sa sb) else none
  | 0x03 => if wordBits w 0 17 = 0 then some (.movReg l dd sa) else none
  | 0x04 => if wordBits w 17 5 = 0 then some (.movImm l dd (flagAt w 16) imm) else none
  | 0x05 => if wordBits w 0 12 = 0 then some (.movFromAcc l dd (fin3At w 19) (flagAt w 18) (fin6At w 12)) else none
  | 0x06 => if wordBits w 22 1 = 0 ∧ wordBits w 0 11 = 0 then some (.movToAcc l acc sa (fin6At w 11)) else none
  | 0x07 => if wordBits w 16 7 = 0 then some (.movPtr l (fin2At w 24) (flagAt w 23) imm) else none
  | 0x08 => if wordBits w 14 8 = 0 then some (.movLoad l dd (fin2At w 12) off) else none
  | 0x09 => if wordBits w 22 4 = 0 ∧ wordBits w 14 3 = 0 then some (.movStore l sa (fin2At w 12) off) else none
  | 0x0A => if wordBits w 0 12 = 0 then some (.lAdd l dd sa sb) else none
  | 0x0B => if wordBits w 0 12 = 0 then some (.lSub l dd sa sb) else none
  | 0x0C => if wordBits w 0 11 = 0 then some (.mac l acc (flagAt w 22) sa sb (flagAt w 11)) else none
  | 0x0D => some (.macImm l acc (flagAt w 22) sa (flagAt w 16) imm)
  | 0x0E => if wordBits w 16 1 = 0 ∧ wordBits w 0 12 = 0 then some (.sos l dd sa (fin2At w 14) (fin2At w 12)) else none
  | 0x0F => if wordBits w 16 1 = 0 ∧ wordBits w 0 12 = 0 then some (.sosb l dd sa (fin2At w 14) (fin2At w 12)) else none
  | 0x10 => if wordBits w 0 12 = 0 then some (.ffv l dd sa sb) else none
  | 0x11 => if wordBits w 0 12 = 0 then some (.ffs l dd sa sb) else none
  | 0x12 => if wordBits w 0 5 = 0 then some (.clmp l dd sa sb (reg5At w 7) (flagAt w 6) (flagAt w 5)) else none
  | 0x13 => if wordBits w 22 4 = 0 ∧ wordBits w 0 12 = 0 then some (.ferr l sa sb) else none
  | 0x14 => if wordBits w 0 12 = 0 then some (.gw l dd sa sb) else none
  | 0x15 => if wordBits w 22 4 = 0 ∧ wordBits w 4 7 = 0 then some (.skb l sa sb (flagAt w 11) (fin4At w 0)) else none
  | 0x3E => if wordBits w 0 26 = 0 then some (.yield_ l) else none
  | 0x3F => if wordBits w 16 10 = 0 then some (.trapl l imm) else none
  | _ => none

/-- What a core or a lane executes when it executes a word: the row of its instruction, or none, where the row is
ILLEGAL_INSTRUCTION with that word (R121). -/
def decodeWord (u : Executor) (w : Word) : Option Instr :=
  match u with
  | .core c => decodeS c w
  | .lane l => decodeL l w

/-! ## The encoder, from the same tables -/

def regWord (f : Nat) (rd ra rb : Fin 32) : Word := BitVec.ofNat 32 (rd.val * 2 ^ 21 + ra.val * 2 ^ 16 + rb.val * 2 ^ 11 + f)
def immWord (op : Nat) (r1 r2 : Fin 32) (imm : Nat) : Word := BitVec.ofNat 32 (op * 2 ^ 26 + r1.val * 2 ^ 21 + r2.val * 2 ^ 16 + imm)
/-- The common fields of the L-profile: dd or the bits in its place, sa and sb, and what stands below. -/
def lWord (op top sa sb low : Nat) : Word := BitVec.ofNat 32 (op * 2 ^ 26 + top * 2 ^ 22 + sa * 2 ^ 17 + sb * 2 ^ 12 + low)

/-- The executor and the word of an instruction; a command that is no instruction has none (R124, R125, R144). -/
def encodeWord (i : Instr) : Option (Executor × Word) :=
  match i with
  | .add c rd ra rb => some (.core c, regWord 0x01 rd ra rb)
  | .sub c rd ra rb => some (.core c, regWord 0x02 rd ra rb)
  | .and_ c rd ra rb => some (.core c, regWord 0x03 rd ra rb)
  | .or_ c rd ra rb => some (.core c, regWord 0x04 rd ra rb)
  | .xor c rd ra rb => some (.core c, regWord 0x05 rd ra rb)
  | .shl c rd ra rb => some (.core c, regWord 0x06 rd ra rb)
  | .shr c rd ra rb => some (.core c, regWord 0x07 rd ra rb)
  | .sar c rd ra rb => some (.core c, regWord 0x08 rd ra rb)
  | .slt c rd ra rb => some (.core c, regWord 0x09 rd ra rb)
  | .sltu c rd ra rb => some (.core c, regWord 0x0A rd ra rb)
  | .mul c rd ra rb => some (.core c, regWord 0x10 rd ra rb)
  | .mulh c rd ra rb => some (.core c, regWord 0x11 rd ra rb)
  | .mulhu c rd ra rb => some (.core c, regWord 0x12 rd ra rb)
  | .div c rd ra rb => some (.core c, regWord 0x14 rd ra rb)
  | .divu c rd ra rb => some (.core c, regWord 0x15 rd ra rb)
  | .rem c rd ra rb => some (.core c, regWord 0x16 rd ra rb)
  | .remu c rd ra rb => some (.core c, regWord 0x17 rd ra rb)
  | .addi c r1 r2 imm => some (.core c, immWord 0x01 r1 r2 imm.toNat)
  | .andi c r1 r2 imm => some (.core c, immWord 0x02 r1 r2 imm.toNat)
  | .ori c r1 r2 imm => some (.core c, immWord 0x03 r1 r2 imm.toNat)
  | .xori c r1 r2 imm => some (.core c, immWord 0x04 r1 r2 imm.toNat)
  | .ldw c r1 r2 imm => some (.core c, immWord 0x10 r1 r2 imm.toNat)
  | .ldh c r1 r2 imm => some (.core c, immWord 0x11 r1 r2 imm.toNat)
  | .ldhu c r1 r2 imm => some (.core c, immWord 0x12 r1 r2 imm.toNat)
  | .ldb c r1 r2 imm => some (.core c, immWord 0x13 r1 r2 imm.toNat)
  | .ldbu c r1 r2 imm => some (.core c, immWord 0x14 r1 r2 imm.toNat)
  | .stw c r1 r2 imm => some (.core c, immWord 0x18 r1 r2 imm.toNat)
  | .sth c r1 r2 imm => some (.core c, immWord 0x19 r1 r2 imm.toNat)
  | .stb c r1 r2 imm => some (.core c, immWord 0x1A r1 r2 imm.toNat)
  | .beq c r1 r2 imm => some (.core c, immWord 0x20 r1 r2 imm.toNat)
  | .bne c r1 r2 imm => some (.core c, immWord 0x21 r1 r2 imm.toNat)
  | .blt c r1 r2 imm => some (.core c, immWord 0x22 r1 r2 imm.toNat)
  | .bge c r1 r2 imm => some (.core c, immWord 0x23 r1 r2 imm.toNat)
  | .bltu c r1 r2 imm => some (.core c, immWord 0x24 r1 r2 imm.toNat)
  | .bgeu c r1 r2 imm => some (.core c, immWord 0x25 r1 r2 imm.toNat)
  | .shli c r1 r2 sh => some (.core c, immWord 0x05 r1 r2 sh.val)
  | .shri c r1 r2 sh => some (.core c, immWord 0x06 r1 r2 sh.val)
  | .sari c r1 r2 sh => some (.core c, immWord 0x07 r1 r2 sh.val)
  | .movh c rd imm => some (.core c, immWord 0x08 rd 0 imm.toNat)
  | .jal c rd off => some (.core c, immWord 0x28 rd 0 off.toNat)
  | .jr c rd ra lk => some (.core c, immWord 0x29 rd ra (lk.toNat * 2 ^ 15))
  | .crd c rd p n => some (.core c, immWord 0x30 rd 0 (p.toNat * 2 ^ 6 + n.val))
  | .cwr c ra p n => some (.core c, immWord 0x31 ra 0 (p.toNat * 2 ^ 6 + n.val))
  | .wait_ c => some (.core c, immWord 0x3F 0 0 0x01)
  | .fence c scope => some (.core c, immWord 0x3F 0 0 (scope.toNat * 2 ^ 8 + 0x02))
  | .trapi c n => some (.core c, immWord 0x3F 0 0 (n.toNat * 2 ^ 8 + 0x03))
  | .reti c => some (.core c, immWord 0x3F 0 0 0x04)
  | .ldin l dd port => some (.lane l, lWord 0x01 dd port 0 0)
  | .emit l port sa => some (.lane l, lWord 0x02 0 port sa 0)
  | .movReg l dd sa => some (.lane l, lWord 0x03 dd sa 0 0)
  | .movImm l dd h imm => some (.lane l, lWord 0x04 dd 0 0 (h.toNat * 2 ^ 16 + imm.toNat))
  | .movFromAcc l dd acc t sh => some (.lane l, lWord 0x05 dd 0 0 (acc.val * 2 ^ 19 + t.toNat * 2 ^ 18 + sh.val * 2 ^ 12))
  | .movToAcc l acc sa sh => some (.lane l, lWord 0x06 (2 * acc.val) sa 0 (sh.val * 2 ^ 11))
  | .movPtr l p a imm => some (.lane l, lWord 0x07 (4 * p.val + 2 * a.toNat) 0 0 imm.toNat)
  | .movLoad l dd p off => some (.lane l, lWord 0x08 dd 0 p off.toNat)
  | .movStore l sa p off => some (.lane l, lWord 0x09 0 sa p off.toNat)
  | .lAdd l dd sa sb => some (.lane l, lWord 0x0A dd sa sb 0)
  | .lSub l dd sa sb => some (.lane l, lWord 0x0B dd sa sb 0)
  | .ffv l dd sa sb => some (.lane l, lWord 0x10 dd sa sb 0)
  | .ffs l dd sa sb => some (.lane l, lWord 0x11 dd sa sb 0)
  | .gw l dd sa sb => some (.lane l, lWord 0x14 dd sa sb 0)
  | .mac l acc z sa sb n => some (.lane l, lWord 0x0C (2 * acc.val + z.toNat) sa sb (n.toNat * 2 ^ 11))
  | .macImm l acc z sa n imm => some (.lane l, lWord 0x0D (2 * acc.val + z.toNat) sa 0 (n.toNat * 2 ^ 16 + imm.toNat))
  | .sos l dd sa pc ps => some (.lane l, lWord 0x0E dd sa (4 * pc.val + ps.val) 0)
  | .sosb l dd sa pc ps => some (.lane l, lWord 0x0F dd sa (4 * pc.val + ps.val) 0)
  | .clmp l dd sa lo hi u k => some (.lane l, lWord 0x12 dd sa lo (hi.val * 2 ^ 7 + u.toNat * 2 ^ 6 + k.toNat * 2 ^ 5))
  | .ferr l sa sb => some (.lane l, lWord 0x13 0 sa sb 0)
  | .skb l sa bit v n => some (.lane l, lWord 0x15 0 sa bit (v.toNat * 2 ^ 11 + n.val))
  | .yield_ l => some (.lane l, lWord 0x3E 0 0 0 0)
  | .trapl l code => some (.lane l, lWord 0x3F 0 0 0 code.toNat)
  | _ => none

end Sys2Proof
end

