-- ==== Sys2Proof/Config.lean ====
section
/-! DEFINITION. What the spec leaves open. Each constant here is opaque: nothing in Lean can evaluate it, so
every claim about the model holds whatever its value is. The assumption log names each use. -/
namespace Sys2Proof.Config

/-- Fresh free words: the `n`-th value the spec leaves open during a run (log entries 2 and 3). -/
opaque freeWord : Nat → BitVec 32

/-- Fresh free bits, for choices between two outcomes (R17, R18). -/
opaque freeBit : Nat → Bool

/-- The silicon revision that SYS_ID.REV shows: the spec gives no number. -/
opaque siliconRev : BitVec 4

/-- The contents of the mask-programmed boot ROM, byte by byte (R22): the spec does not list them. -/
opaque bootRom : Nat → BitVec 8

/-- What a march test leaves in a region, byte by byte, for the `n`-th draw (R480): the spec only says that the contents are
destroyed. -/
opaque testedByte : Nat → Nat → BitVec 8

/-- Whether the parameters of a type 8 section describe a profile (R210). The spec does not give the parameters' layout. -/
opaque optDescribed : List (BitVec 8) → Nat → Bool

/-- The OPT bytes the boot ROM builds from the parameters of a type 8 section (R210), by offset in the OPT. -/
opaque builtOpt : List (BitVec 8) → Nat → BitVec 8

end Sys2Proof.Config
end

