-- ==== Sys2Proof/Machine/Store.lean ====
section
/-! DEFINITION. Sparse stores: a list of key and value pairs in one canonical form (keys strictly rising, no
pair whose value equals what an unlisted key reads as). Memory, the register bank and every per-instance
table of the part are such stores. -/
namespace Sys2Proof.Machine

/-- Sparse table from natural-number keys. -/
abbrev Store (α : Type) := List (Nat × α)

/-- The value listed for a key, if one is listed. -/
def Store.find {α : Type} : Store α → Nat → Option α
  | [], _ => none
  | (k', v) :: t, k => if k' = k then some v else Store.find t k

/-- Take a key out. -/
def Store.erase {α : Type} : Store α → Nat → Store α
  | [], _ => []
  | (k', v) :: t, k => if k' = k then Store.erase t k else (k', v) :: Store.erase t k

/-- List a value for a key, in the place its key gives. -/
def Store.insert {α : Type} : Store α → Nat → α → Store α
  | [], k, v => [(k, v)]
  | (k', v') :: t, k, v =>
    if k' = k then (k, v) :: t
    else if k < k' then (k, v) :: (k', v') :: t
    else (k', v') :: Store.insert t k v

/-- Read a key; an unlisted key reads as `d`. -/
def Store.get {α : Type} (d : α) (m : Store α) (k : Nat) : α := (m.find k).getD d

/-- Write a key, where an unlisted key reads as `d`: writing `d` unlists the key. -/
def Store.set {α : Type} [DecidableEq α] (d : α) (m : Store α) (k : Nat) (v : α) : Store α :=
  if v = d then m.erase k else m.insert k v

/-- Keys strictly rising. -/
def Store.sorted {α : Type} : Store α → Bool
  | [] => true
  | [_] => true
  | (k, _) :: (k', v') :: t => decide (k < k') && Store.sorted ((k', v') :: t)

/-- No listed value equals what its key would read as if unlisted. -/
def Store.lean {α : Type} [DecidableEq α] (d : Nat → α) : Store α → Bool
  | [] => true
  | (k, v) :: t => (!decide (v = d k)) && Store.lean d t

/-- The canonical form of a store whose unlisted key `k` reads as `d k`. -/
def Store.wf {α : Type} [DecidableEq α] (d : Nat → α) (m : Store α) : Bool := m.sorted && m.lean d

end Sys2Proof.Machine
end

