-- ==== Sys2Proof/Machine/Registers.lean ====
section
/-! DEFINITION. The registers of peripheral space, written from the register tables of the spec (each
chapter's section "Registers"): where each lies (R6, R25), its fields, their types (R7) and reset values. -/
namespace Sys2Proof.Machine

/-- Where a register lies: instance `i` at `base + stride * i`, each of `sub` consecutive words (R6). -/
structure RegAt where
  base : Nat
  stride : Nat
  count : Nat
  sub : Nat := 1
deriving DecidableEq, Repr

/-- A field of a register: its lowest bit and its width. -/
structure FieldAt where
  reg : RegAt
  lo : Nat
  width : Nat
deriving DecidableEq, Repr

/-- The field types of R7. -/
inductive FieldType where
  | rw | ro | wo | w1c | w1s | rws | rwl
deriving DecidableEq, Repr

/-- One row of a register's field table. -/
structure FieldSpec where
  fld : FieldAt
  kind : FieldType
  reset : Nat
deriving Repr

/-- One register with its field table. -/
structure RegSpec where
  reg : RegAt
  fields : List FieldSpec
deriving Repr

namespace R
def SYS_ID : RegAt := ⟨0x40000000, 0x4, 1, 1⟩
def SYS_RSTCAUSE : RegAt := ⟨0x40000004, 0x4, 1, 1⟩
def SYS_RST : RegAt := ⟨0x40000008, 0x4, 1, 1⟩
def SYS_SUPST : RegAt := ⟨0x4000000C, 0x4, 1, 1⟩
def SYS_BOOT : RegAt := ⟨0x40000010, 0x4, 1, 1⟩
def SYS_BOOTGO : RegAt := ⟨0x40000014, 0x4, 1, 1⟩
def SYS_BOOTVER : RegAt := ⟨0x40000018, 0x4, 1, 1⟩
def SYS_CSTART : RegAt := ⟨0x40000020, 0x4, 4, 1⟩
def SYS_PWRREQ : RegAt := ⟨0x40000040, 0x4, 1, 1⟩
def SYS_PWRST : RegAt := ⟨0x40000044, 0x4, 1, 1⟩
def SYS_STBY : RegAt := ⟨0x40000048, 0x4, 1, 1⟩
def SYS_CTRL : RegAt := ⟨0x4000004C, 0x4, 1, 1⟩
def SYS_STAT : RegAt := ⟨0x40000050, 0x4, 1, 1⟩
def SYS_HIRQ : RegAt := ⟨0x40000054, 0x4, 1, 1⟩
def SYS_TEST : RegAt := ⟨0x40000060, 0x4, 1, 1⟩
def SYS_PROG_LOAD : RegAt := ⟨0x4000FFF0, 0x4, 1, 1⟩
def SYS_PROG_TEST : RegAt := ⟨0x4000FFF4, 0x4, 1, 1⟩
def IC_CFG : RegAt := ⟨0x40010000, 0x4, 384, 1⟩
def IC_PEND : RegAt := ⟨0x40010800, 0x4, 12, 1⟩
def IC_EN : RegAt := ⟨0x40010840, 0x4, 12, 1⟩
def IC_SW : RegAt := ⟨0x40010880, 0x4, 8, 1⟩
def IC_CPEND0 : RegAt := ⟨0x40010900, 0x4, 12, 1⟩
def IC_CPEND1 : RegAt := ⟨0x40010940, 0x4, 12, 1⟩
def IC_CPEND2 : RegAt := ⟨0x40010980, 0x4, 12, 1⟩
def IC_CPEND3 : RegAt := ⟨0x400109C0, 0x4, 12, 1⟩
def IC_EOI : RegAt := ⟨0x40010A00, 0x4, 1, 1⟩
def IC_RPRI : RegAt := ⟨0x40010A04, 0x4, 1, 1⟩
def IC_STK : RegAt := ⟨0x40010A10, 0x4, 4, 1⟩
def IC_GDIS : RegAt := ⟨0x40010A20, 0x4, 1, 1⟩
def IC_FALLBACK : RegAt := ⟨0x40010A24, 0x4, 1, 1⟩
def IC_STAT : RegAt := ⟨0x40010A28, 0x4, 1, 1⟩
def IC_SEM : RegAt := ⟨0x40010C00, 0x4, 32, 1⟩
def IC_SEMREL : RegAt := ⟨0x40010C80, 0x4, 1, 1⟩
def IC_SEMFREE : RegAt := ⟨0x40010C84, 0x4, 1, 1⟩
def DMA_CTRL : RegAt := ⟨0x40020000, 0x4, 1, 1⟩
def DMA_STAT : RegAt := ⟨0x40020004, 0x4, 1, 1⟩
def DMA_ACT : RegAt := ⟨0x40020008, 0x4, 1, 1⟩
def DMA_CCFG : RegAt := ⟨0x40020100, 0x20, 32, 1⟩
def DMA_CCMD : RegAt := ⟨0x40020104, 0x20, 32, 1⟩
def DMA_CSTAT : RegAt := ⟨0x40020108, 0x20, 32, 1⟩
def DMA_CDESC : RegAt := ⟨0x4002010C, 0x20, 32, 1⟩
def DMA_CREM : RegAt := ⟨0x40020110, 0x20, 32, 1⟩
def DMA_CERRA : RegAt := ⟨0x40020114, 0x20, 32, 1⟩
def DMA_CMISA : RegAt := ⟨0x40020118, 0x20, 32, 1⟩
def DMA_CMISC : RegAt := ⟨0x4002011C, 0x20, 32, 1⟩
def TB_CFG : RegAt := ⟨0x40030000, 0x4, 1, 1⟩
def TB_STAT : RegAt := ⟨0x40030004, 0x4, 1, 1⟩
def TB_FREF : RegAt := ⟨0x40030008, 0x4, 1, 1⟩
def TB_DLL : RegAt := ⟨0x4003000C, 0x4, 1, 1⟩
def PWM_CFG : RegAt := ⟨0x40040000, 0x100, 128, 1⟩
def PWM_PERIOD : RegAt := ⟨0x40040004, 0x100, 128, 1⟩
def PWM_DUTY : RegAt := ⟨0x40040008, 0x100, 128, 1⟩
def PWM_OFFSET : RegAt := ⟨0x4004000C, 0x100, 128, 1⟩
def PWM_CMPB : RegAt := ⟨0x40040010, 0x100, 128, 1⟩
def PWM_ACT : RegAt := ⟨0x40040014, 0x100, 128, 1⟩
def PWM_CMPA : RegAt := ⟨0x40040018, 0x100, 128, 1⟩
def PWM_CNT : RegAt := ⟨0x4004001C, 0x100, 128, 1⟩
def PWM_EVC : RegAt := ⟨0x40040020, 0x100, 128, 1⟩
def PWM_EVF : RegAt := ⟨0x40040024, 0x100, 128, 1⟩
def PWM_BLANK : RegAt := ⟨0x40040028, 0x100, 128, 1⟩
def PWM_STAT : RegAt := ⟨0x4004002C, 0x100, 128, 1⟩
def PWM_RPER : RegAt := ⟨0x40048000, 0x8, 63, 1⟩
def PWM_RSYNC : RegAt := ⟨0x40048004, 0x8, 63, 1⟩
def PWM_TRIP : RegAt := ⟨0x40049000, 0x4, 16, 1⟩
def PWM_SAFE : RegAt := ⟨0x4004C000, 0x4, 1, 1⟩
def PWM_SAFEST : RegAt := ⟨0x4004C004, 0x4, 1, 1⟩
def PWM_SAFEREL : RegAt := ⟨0x4004C008, 0x4, 1, 1⟩
def PWM_ERR : RegAt := ⟨0x4004C00C, 0x4, 1, 1⟩
def FLK_LCFG : RegAt := ⟨0x40050000, 0x100, 16, 1⟩
def FLK_LSTAT : RegAt := ⟨0x40050004, 0x100, 16, 1⟩
def FLK_LCNT1 : RegAt := ⟨0x40050008, 0x100, 16, 1⟩
def FLK_LCNT2 : RegAt := ⟨0x4005000C, 0x100, 16, 1⟩
def FLK_MCMD : RegAt := ⟨0x40050010, 0x100, 16, 1⟩
def FLK_MSTAT : RegAt := ⟨0x40050014, 0x100, 16, 1⟩
def FLK_MBUF : RegAt := ⟨0x40050040, 0x100, 16, 32⟩
def FLK_PCFG : RegAt := ⟨0x40058000, 0x10, 128, 1⟩
def FLK_LASTC : RegAt := ⟨0x40058004, 0x10, 128, 1⟩
def FLK_LASTR : RegAt := ⟨0x40058008, 0x10, 128, 1⟩
def FLK_STAT : RegAt := ⟨0x4005C000, 0x4, 1, 1⟩
def MICA_CTRL : RegAt := ⟨0x40060000, 0x4, 1, 1⟩
def MICA_CFG : RegAt := ⟨0x40060004, 0x4, 1, 1⟩
def MICA_AGE : RegAt := ⟨0x40060008, 0x4, 1, 1⟩
def MICA_STAT : RegAt := ⟨0x4006000C, 0x4, 1, 1⟩
def MICA_SSTAT : RegAt := ⟨0x40060010, 0x4, 1, 1⟩
def MICA_USE : RegAt := ⟨0x40061000, 0x4, 128, 1⟩
def MICA_ROT : RegAt := ⟨0x40061400, 0x4, 128, 1⟩
def MICA_PROG : RegAt := ⟨0x4006FFF0, 0x4, 1, 1⟩
def BSL_CTRL : RegAt := ⟨0x40070000, 0x4, 1, 1⟩
def BSL_STAT : RegAt := ⟨0x40070004, 0x4, 1, 1⟩
def BSL_LANEEN : RegAt := ⟨0x40070008, 0x4, 1, 1⟩
def BSL_LANEST : RegAt := ⟨0x4007000C, 0x4, 1, 1⟩
def BSL_DEMAND : RegAt := ⟨0x40070010, 0x4, 1, 1⟩
def BSL_MARGIN : RegAt := ⟨0x40070014, 0x4, 1, 1⟩
def BSL_MISS : RegAt := ⟨0x40070018, 0x4, 1, 1⟩
def BSL_ERR : RegAt := ⟨0x4007001C, 0x4, 1, 1⟩
def BSL_LDEM : RegAt := ⟨0x40070040, 0x4, 16, 1⟩
def BSL_OTASK : RegAt := ⟨0x40070200, 0x4, 16, 1⟩
def BSL_PTASK : RegAt := ⟨0x40070400, 0x4, 128, 1⟩
def BSL_PDIR : RegAt := ⟨0x40070800, 0x8, 128, 1⟩
def BSL_PCOST : RegAt := ⟨0x40070804, 0x8, 128, 1⟩
def SAF_CTRL : RegAt := ⟨0x40080000, 0x4, 1, 1⟩
def SAF_STAT : RegAt := ⟨0x40080004, 0x4, 1, 1⟩
def SAF_ERR : RegAt := ⟨0x40080008, 0x4, 1, 1⟩
def SAF_GCFG : RegAt := ⟨0x40080040, 0x10, 8, 1⟩
def SAF_GSTAT : RegAt := ⟨0x40080044, 0x10, 8, 1⟩
def SAF_GFRAME : RegAt := ⟨0x40080048, 0x10, 8, 1⟩
def SAF_GCNT : RegAt := ⟨0x4008004C, 0x10, 8, 1⟩
def SAF_CHMAP : RegAt := ⟨0x40080100, 0x4, 64, 1⟩
def SAF_FSG : RegAt := ⟨0x40080200, 0x4, 64, 1⟩
def SAF_LGAIN : RegAt := ⟨0x40080300, 0x4, 64, 1⟩
def SAF_RCFG : RegAt := ⟨0x40081000, 0x40, 63, 1⟩
def SAF_VMIN : RegAt := ⟨0x40081004, 0x40, 63, 1⟩
def SAF_VMAX : RegAt := ⟨0x40081008, 0x40, 63, 1⟩
def SAF_VDROP : RegAt := ⟨0x4008100C, 0x40, 63, 1⟩
def SAF_MARGIN : RegAt := ⟨0x40081010, 0x40, 63, 1⟩
def SAF_SLEW : RegAt := ⟨0x40081014, 0x40, 63, 1⟩
def SAF_HOLD : RegAt := ⟨0x40081018, 0x40, 63, 1⟩
def SAF_BLIND : RegAt := ⟨0x4008101C, 0x40, 63, 1⟩
def SAF_RSTAT : RegAt := ⟨0x40081020, 0x40, 63, 1⟩
def SAF_WRISE : RegAt := ⟨0x40081024, 0x40, 63, 1⟩
def SAF_KNOTLO : RegAt := ⟨0x40081028, 0x40, 63, 1⟩
def SAF_KNOTHI : RegAt := ⟨0x4008102C, 0x40, 63, 1⟩
def SAF_RCNT1 : RegAt := ⟨0x40081030, 0x40, 63, 1⟩
def SAF_RCNT2 : RegAt := ⟨0x40081034, 0x40, 63, 1⟩
def RAIL_CTRL : RegAt := ⟨0x40090000, 0x200, 63, 1⟩
def RAIL_LCFG : RegAt := ⟨0x40090080, 0x200, 63, 1⟩
def RAIL_LCMD : RegAt := ⟨0x40090084, 0x200, 63, 1⟩
def RAIL_LCOEF : RegAt := ⟨0x40090088, 0x200, 63, 1⟩
def RAIL_ILIM : RegAt := ⟨0x4009008C, 0x200, 63, 1⟩
def RAIL_ISINK : RegAt := ⟨0x40090090, 0x200, 63, 1⟩
def RAIL_CRAIL : RegAt := ⟨0x40090094, 0x200, 63, 1⟩
def RAIL_DLIM : RegAt := ⟨0x40090098, 0x200, 63, 1⟩
def RAIL_FEV : RegAt := ⟨0x4009009C, 0x200, 63, 1⟩
def RAIL_FEI : RegAt := ⟨0x400900A0, 0x200, 63, 1⟩
def RAIL_FET : RegAt := ⟨0x400900A4, 0x200, 63, 1⟩
def RAIL_SRC : RegAt := ⟨0x400900A8, 0x200, 63, 1⟩
def RAIL_VSET : RegAt := ⟨0x400900AC, 0x200, 63, 1⟩
def RAIL_FLOOR : RegAt := ⟨0x400900B0, 0x200, 63, 1⟩
def RAIL_CEIL : RegAt := ⟨0x400900B4, 0x200, 63, 1⟩
def RAIL_LSTAT : RegAt := ⟨0x400900B8, 0x200, 63, 1⟩
def RAIL_IREF : RegAt := ⟨0x400900BC, 0x200, 63, 1⟩
def RAIL_ILIMF : RegAt := ⟨0x400900C0, 0x200, 63, 1⟩
def RAIL_OPT : RegAt := ⟨0x400900D0, 0x200, 63, 1⟩
def RAIL_DIS : RegAt := ⟨0x400900E0, 0x200, 63, 1⟩
def RAIL_DISI : RegAt := ⟨0x400900E4, 0x200, 63, 1⟩
def RAIL_DERATE : RegAt := ⟨0x400900E8, 0x200, 63, 1⟩
def RAIL_FSTAT : RegAt := ⟨0x400900EC, 0x200, 63, 1⟩
def RAIL_FCLR : RegAt := ⟨0x400900F0, 0x200, 63, 1⟩
def POOL_CFG : RegAt := ⟨0x400A0000, 0x4, 1, 1⟩
def POOL_STAT : RegAt := ⟨0x400A0004, 0x4, 1, 1⟩
def POOL_LREQ : RegAt := ⟨0x400A0010, 0x4, 1, 1⟩
def POOL_LRES : RegAt := ⟨0x400A0014, 0x4, 1, 1⟩
def POOL_PCFG : RegAt := ⟨0x400A1000, 0x10, 128, 1⟩
def POOL_PSTAT : RegAt := ⟨0x400A1004, 0x10, 128, 1⟩
def POOL_PFACT : RegAt := ⟨0x400A1008, 0x10, 128, 1⟩
def POOL_RCFG : RegAt := ⟨0x400A4000, 0x10, 63, 1⟩
def POOL_RTIM : RegAt := ⟨0x400A4004, 0x10, 63, 1⟩
def POOL_RLEAD : RegAt := ⟨0x400A4008, 0x10, 63, 1⟩
def POOL_RSTAT : RegAt := ⟨0x400A400C, 0x10, 63, 1⟩
def CLV_CTRL : RegAt := ⟨0x400B0000, 0x4, 1, 1⟩
def CLV_STAT : RegAt := ⟨0x400B0004, 0x4, 1, 1⟩
def CLV_CFG : RegAt := ⟨0x400B0008, 0x4, 1, 1⟩
def CLV_PLONG : RegAt := ⟨0x400B0010, 0x4, 1, 1⟩
def CLV_PIN : RegAt := ⟨0x400B0014, 0x4, 1, 1⟩
def CLV_PAUX : RegAt := ⟨0x400B0018, 0x4, 1, 1⟩
def CLV_TAU : RegAt := ⟨0x400B001C, 0x4, 1, 1⟩
def CLV_IBUS : RegAt := ⟨0x400B0020, 0x4, 1, 1⟩
def CLV_ISNS : RegAt := ⟨0x400B0024, 0x4, 1, 1⟩
def CLV_CBUS : RegAt := ⟨0x400B0028, 0x4, 1, 1⟩
def CLV_VBMIN : RegAt := ⟨0x400B002C, 0x4, 1, 1⟩
def CLV_LIM : RegAt := ⟨0x400B0030, 0x4, 1, 1⟩
def CLV_GMIN : RegAt := ⟨0x400B0034, 0x4, 1, 1⟩
def CLV_PMEAS : RegAt := ⟨0x400B0040, 0x4, 1, 1⟩
def CLV_PAVG : RegAt := ⟨0x400B0044, 0x4, 1, 1⟩
def CLV_PPEAK : RegAt := ⟨0x400B0048, 0x4, 1, 1⟩
def CLV_EAVL : RegAt := ⟨0x400B004C, 0x4, 1, 1⟩
def CLV_GNOW : RegAt := ⟨0x400B0050, 0x4, 1, 1⟩
def CLV_TWARN : RegAt := ⟨0x400B0060, 0x4, 1, 1⟩
def CLV_THYS : RegAt := ⟨0x400B0064, 0x4, 1, 1⟩
def CLV_THM : RegAt := ⟨0x400B0068, 0x4, 1, 1⟩
def CLV_THR : RegAt := ⟨0x400B006C, 0x4, 1, 1⟩
def CLV_LOSS : RegAt := ⟨0x400B0070, 0x4, 1, 1⟩
def CLV_OPRI : RegAt := ⟨0x400B0080, 0x4, 2, 1⟩
def CLV_SLP : RegAt := ⟨0x400B0090, 0x4, 1, 1⟩
def CLV_RCFG : RegAt := ⟨0x400B1000, 0x20, 63, 1⟩
def CLV_RMARG : RegAt := ⟨0x400B1004, 0x20, 63, 1⟩
def CLV_RIQ : RegAt := ⟨0x400B1008, 0x20, 63, 1⟩
def CLV_RSTAT : RegAt := ⟨0x400B100C, 0x20, 63, 1⟩
def CLV_RPLAN : RegAt := ⟨0x400B1010, 0x20, 63, 1⟩
def CLV_RILIM : RegAt := ⟨0x400B1014, 0x20, 63, 1⟩
def CLV_RELO : RegAt := ⟨0x400B1018, 0x20, 63, 1⟩
def CLV_REHI : RegAt := ⟨0x400B101C, 0x20, 63, 1⟩
def CLV_CHZ : RegAt := ⟨0x400B3000, 0x4, 64, 1⟩
def CLV_PTH : RegAt := ⟨0x400B4000, 0x8, 128, 1⟩
def CLV_PHT : RegAt := ⟨0x400B4004, 0x8, 128, 1⟩
def ADC_CTRL : RegAt := ⟨0x400C0000, 0x4, 1, 1⟩
def ADC_STAT : RegAt := ⟨0x400C0004, 0x4, 1, 1⟩
def ADC_CALCFG : RegAt := ⟨0x400C0008, 0x4, 1, 1⟩
def ADC_GSTAT : RegAt := ⟨0x400C0040, 0x4, 8, 1⟩
def ADC_GMAP : RegAt := ⟨0x400C0060, 0x4, 8, 1⟩
def ADC_GTRIG : RegAt := ⟨0x400C0080, 0x4, 8, 1⟩
def ADC_TDAC : RegAt := ⟨0x400C00A0, 0x4, 8, 1⟩
def ADC_TEMP : RegAt := ⟨0x400C00C0, 0x4, 8, 1⟩
def ADC_AUX : RegAt := ⟨0x400C0100, 0x4, 16, 1⟩
def ADC_SL : RegAt := ⟨0x400C0200, 0x4, 72, 1⟩
def ADC_SPCFG : RegAt := ⟨0x400C1000, 0x40, 64, 1⟩
def ADC_RSEQ : RegAt := ⟨0x400C1004, 0x40, 64, 1⟩
def ADC_ISEQ : RegAt := ⟨0x400C1008, 0x40, 64, 1⟩
def ADC_K : RegAt := ⟨0x400C100C, 0x40, 64, 1⟩
def ADC_OFS : RegAt := ⟨0x400C1010, 0x40, 64, 1⟩
def ADC_SPSTAT : RegAt := ⟨0x400C1014, 0x40, 64, 1⟩
def ADC_RES0 : RegAt := ⟨0x400C1020, 0x40, 64, 1⟩
def ADC_RES1 : RegAt := ⟨0x400C1024, 0x40, 64, 1⟩
def ADC_RES2 : RegAt := ⟨0x400C1028, 0x40, 64, 1⟩
def ADC_RES3 : RegAt := ⟨0x400C102C, 0x40, 64, 1⟩
def ADC_INJR0 : RegAt := ⟨0x400C1030, 0x40, 64, 1⟩
def ADC_INJR1 : RegAt := ⟨0x400C1034, 0x40, 64, 1⟩
def ADC_INJR2 : RegAt := ⟨0x400C1038, 0x40, 64, 1⟩
def ADC_INJR3 : RegAt := ⟨0x400C103C, 0x40, 64, 1⟩
def ADC_PROG : RegAt := ⟨0x400CFFF0, 0x4, 1, 1⟩
def WMON_CFG : RegAt := ⟨0x400D0000, 0x20, 96, 1⟩
def WMON_THR : RegAt := ⟨0x400D0004, 0x20, 96, 1⟩
def WMON_TIM : RegAt := ⟨0x400D0008, 0x20, 96, 1⟩
def WMON_CLR : RegAt := ⟨0x400D000C, 0x20, 96, 1⟩
def WMON_ST : RegAt := ⟨0x400D0010, 0x20, 96, 1⟩
def WMON_SUM : RegAt := ⟨0x400D1000, 0x4, 3, 1⟩
def WMON_STAT : RegAt := ⟨0x400D100C, 0x4, 1, 1⟩
def FLT_CTRL : RegAt := ⟨0x400E0000, 0x4, 1, 1⟩
def FLT_STAT : RegAt := ⟨0x400E0004, 0x4, 1, 1⟩
def FLT_QLEV : RegAt := ⟨0x400E0008, 0x4, 1, 1⟩
def FLT_NEXT : RegAt := ⟨0x400E000C, 0x4, 1, 1⟩
def FLT_NSEQ : RegAt := ⟨0x400E0010, 0x4, 1, 1⟩
def FLT_ACK : RegAt := ⟨0x400E0014, 0x4, 1, 1⟩
def FLT_SEV0 : RegAt := ⟨0x400E0020, 0x4, 1, 1⟩
def FLT_SEV1 : RegAt := ⟨0x400E0024, 0x4, 1, 1⟩
def FLT_DEVCLR : RegAt := ⟨0x400E0030, 0x4, 1, 1⟩
def FLT_CNT : RegAt := ⟨0x400E0040, 0x4, 6, 1⟩
def GRN_CTRL : RegAt := ⟨0x400F0000, 0x4, 1, 1⟩
def GRN_CFG : RegAt := ⟨0x400F0004, 0x4, 1, 1⟩
def GRN_STAT : RegAt := ⟨0x400F0008, 0x4, 1, 1⟩
def GRN_HEAD : RegAt := ⟨0x400F000C, 0x4, 1, 1⟩
def GRN_TAIL : RegAt := ⟨0x400F0010, 0x4, 1, 1⟩
def GRN_LOST : RegAt := ⟨0x400F0014, 0x4, 1, 1⟩
def GRN_MCNT : RegAt := ⟨0x400F0018, 0x4, 1, 1⟩
def GRN_SWD : RegAt := ⟨0x400F0020, 0x4, 3, 1⟩
def GRN_SWEV : RegAt := ⟨0x400F002C, 0x4, 1, 1⟩
def NVM_CTRL : RegAt := ⟨0x40100000, 0x4, 1, 1⟩
def NVM_STAT : RegAt := ⟨0x40100004, 0x4, 1, 1⟩
def NVM_PROT : RegAt := ⟨0x40100008, 0x4, 1, 1⟩
def NVM_ECCADDR : RegAt := ⟨0x4010000C, 0x4, 1, 1⟩
def NVM_ECCCNT : RegAt := ⟨0x40100010, 0x4, 1, 1⟩
def NVM_CCFG : RegAt := ⟨0x40100014, 0x4, 1, 1⟩
def NVM_LCSEL : RegAt := ⟨0x40100018, 0x4, 1, 1⟩
def NVM_LCLO : RegAt := ⟨0x4010001C, 0x4, 1, 1⟩
def NVM_LCHI : RegAt := ⟨0x40100020, 0x4, 1, 1⟩
def NVM_SADDR : RegAt := ⟨0x40100030, 0x4, 1, 1⟩
def NVM_SDATA : RegAt := ⟨0x40100034, 0x4, 1, 1⟩
def NVM_RWR : RegAt := ⟨0x40100040, 0x4, 1, 1⟩
def NVM_RWSRC : RegAt := ⟨0x40100044, 0x4, 1, 1⟩
def NVM_RGS : RegAt := ⟨0x40100100, 0x4, 32, 1⟩
def NVM_RGQ : RegAt := ⟨0x40100180, 0x4, 32, 1⟩
def NVM_PROG : RegAt := ⟨0x4010FFF0, 0x4, 1, 1⟩
def PMB_CTRL : RegAt := ⟨0x40110000, 0x4, 1, 1⟩
def PMB_CFG : RegAt := ⟨0x40110004, 0x4, 1, 1⟩
def PMB_STAT : RegAt := ⟨0x40110008, 0x4, 1, 1⟩
def PMB_MBIN : RegAt := ⟨0x40110010, 0x4, 1, 1⟩
def PMB_MBIND : RegAt := ⟨0x40110014, 0x4, 9, 1⟩
def PMB_MBOUT : RegAt := ⟨0x40110040, 0x4, 1, 1⟩
def PMB_MBOUTD : RegAt := ⟨0x40110044, 0x4, 9, 1⟩
def PMB_VCNT : RegAt := ⟨0x40110070, 0x4, 1, 1⟩
def PMB_OP : RegAt := ⟨0x40111000, 0x20, 63, 1⟩
def PMB_MARG : RegAt := ⟨0x40111004, 0x20, 63, 1⟩
def PMB_OV : RegAt := ⟨0x40111008, 0x20, 63, 1⟩
def PMB_OC : RegAt := ⟨0x4011100C, 0x20, 63, 1⟩
def PMB_OT : RegAt := ⟨0x40111010, 0x20, 63, 1⟩
def PMB_ST : RegAt := ⟨0x40111014, 0x20, 63, 1⟩
def PMC_CFG : RegAt := ⟨0x40120000, 0x4, 1, 1⟩
def PMC_CMD : RegAt := ⟨0x40120004, 0x4, 1, 1⟩
def PMC_STAT : RegAt := ⟨0x40120008, 0x4, 1, 1⟩
def PMC_BUF : RegAt := ⟨0x40120010, 0x4, 8, 1⟩
def PMC_APRI : RegAt := ⟨0x40120040, 0x4, 2, 1⟩
def PMC_ALIST : RegAt := ⟨0x40120050, 0x4, 1, 1⟩
def LCP_CFG : RegAt := ⟨0x40130000, 0x100, 4, 1⟩
def LCP_RMLO : RegAt := ⟨0x40130004, 0x100, 4, 1⟩
def LCP_RMHI : RegAt := ⟨0x40130008, 0x100, 4, 1⟩
def LCP_STAT : RegAt := ⟨0x4013000C, 0x100, 4, 1⟩
def LCP_VCNT1 : RegAt := ⟨0x40130010, 0x100, 4, 1⟩
def LCP_VCNT2 : RegAt := ⟨0x40130014, 0x100, 4, 1⟩
def LCP_VCNT3 : RegAt := ⟨0x40130018, 0x100, 4, 1⟩
def LCP_FHOLD0 : RegAt := ⟨0x40131000, 0x4, 1, 1⟩
def LCP_FHOLD1 : RegAt := ⟨0x40131004, 0x4, 1, 1⟩
def AUD_PCFG : RegAt := ⟨0x40140000, 0x100, 8, 1⟩
def AUD_PSTAT : RegAt := ⟨0x40140004, 0x100, 8, 1⟩
def AUD_GFS : RegAt := ⟨0x40140800, 0x4, 8, 1⟩
def AUD_CTRL : RegAt := ⟨0x40140F00, 0x4, 1, 1⟩
def AUD_MCLKF : RegAt := ⟨0x40140F04, 0x4, 1, 1⟩
def AUD_STAT : RegAt := ⟨0x40140F08, 0x4, 1, 1⟩
def AUD_CHSRC : RegAt := ⟨0x40141000, 0x4, 64, 1⟩
def HSP_STAT : RegAt := ⟨0x40150004, 0x4, 1, 1⟩
def YDP_CTRL : RegAt := ⟨0x40160000, 0x4, 1, 1⟩
def YDP_STAT : RegAt := ⟨0x40160004, 0x4, 1, 1⟩
def YDP_BP : RegAt := ⟨0x40160100, 0x4, 16, 1⟩
def TMR_CTL : RegAt := ⟨0x40170000, 0x10, 16, 1⟩
def TMR_LOAD : RegAt := ⟨0x40170004, 0x10, 16, 1⟩
def TMR_CNT : RegAt := ⟨0x40170008, 0x10, 16, 1⟩
def TMR_TIMELO : RegAt := ⟨0x40170200, 0x4, 1, 1⟩
def TMR_TIMEHI : RegAt := ⟨0x40170204, 0x4, 1, 1⟩
def TMR_WDCFG : RegAt := ⟨0x40170400, 0x10, 4, 1⟩
def TMR_WDKICK : RegAt := ⟨0x40170404, 0x10, 4, 1⟩
def TMR_WDCNT : RegAt := ⟨0x40170408, 0x10, 4, 1⟩
def TMR_STAT : RegAt := ⟨0x40170500, 0x4, 1, 1⟩
def GPIO_CFG : RegAt := ⟨0x40180000, 0x4, 16, 1⟩
def GPIO_IN : RegAt := ⟨0x40180040, 0x4, 1, 1⟩
def GPIO_OUT : RegAt := ⟨0x40180044, 0x4, 1, 1⟩
def GPIO_FLAG : RegAt := ⟨0x40180048, 0x4, 1, 1⟩
def GPIO_PDW : RegAt := ⟨0x4018004C, 0x4, 1, 1⟩
def GPIO_PD : RegAt := ⟨0x40180080, 0x4, 16, 1⟩
end R

namespace F
def SYS_ID_PART : FieldAt := ⟨R.SYS_ID, 16, 16⟩
def SYS_ID_REV : FieldAt := ⟨R.SYS_ID, 0, 4⟩
def SYS_RSTCAUSE_CAUSE : FieldAt := ⟨R.SYS_RSTCAUSE, 0, 16⟩
def SYS_RST_KEY : FieldAt := ⟨R.SYS_RST, 16, 16⟩
def SYS_RST_CORE : FieldAt := ⟨R.SYS_RST, 4, 4⟩
def SYS_RST_DEV : FieldAt := ⟨R.SYS_RST, 0, 1⟩
def SYS_SUPST_PFIN : FieldAt := ⟨R.SYS_SUPST, 17, 1⟩
def SYS_SUPST_WARN : FieldAt := ⟨R.SYS_SUPST, 16, 1⟩
def SYS_SUPST_OK : FieldAt := ⟨R.SYS_SUPST, 0, 7⟩
def SYS_BOOT_STATE : FieldAt := ⟨R.SYS_BOOT, 16, 3⟩
def SYS_BOOT_SRC : FieldAt := ⟨R.SYS_BOOT, 12, 2⟩
def SYS_BOOT_STRAP : FieldAt := ⟨R.SYS_BOOT, 8, 2⟩
def SYS_BOOT_ERR : FieldAt := ⟨R.SYS_BOOT, 0, 3⟩
def SYS_BOOTGO_LEN : FieldAt := ⟨R.SYS_BOOTGO, 0, 18⟩
def SYS_BOOTVER_VERSION : FieldAt := ⟨R.SYS_BOOTVER, 0, 32⟩
def SYS_CSTART_ADDR : FieldAt := ⟨R.SYS_CSTART, 2, 30⟩
def SYS_PWRREQ_REQ : FieldAt := ⟨R.SYS_PWRREQ, 0, 16⟩
def SYS_PWRST_FORCED : FieldAt := ⟨R.SYS_PWRST, 17, 1⟩
def SYS_PWRST_DONE : FieldAt := ⟨R.SYS_PWRST, 16, 1⟩
def SYS_PWRST_OFF : FieldAt := ⟨R.SYS_PWRST, 0, 16⟩
def SYS_STBY_WOKE : FieldAt := ⟨R.SYS_STBY, 1, 1⟩
def SYS_STBY_GO : FieldAt := ⟨R.SYS_STBY, 0, 1⟩
def SYS_CTRL_PG : FieldAt := ⟨R.SYS_CTRL, 0, 1⟩
def SYS_STAT_REFUSED : FieldAt := ⟨R.SYS_STAT, 0, 1⟩
def SYS_HIRQ_HIRQ : FieldAt := ⟨R.SYS_HIRQ, 0, 16⟩
def SYS_TEST_GO : FieldAt := ⟨R.SYS_TEST, 31, 1⟩
def SYS_TEST_RESULT : FieldAt := ⟨R.SYS_TEST, 28, 2⟩
def SYS_TEST_FSTEP : FieldAt := ⟨R.SYS_TEST, 12, 16⟩
def SYS_TEST_REG : FieldAt := ⟨R.SYS_TEST, 4, 3⟩
def SYS_TEST_TEST : FieldAt := ⟨R.SYS_TEST, 0, 2⟩
def SYS_PROG_LOAD_ITEM : FieldAt := ⟨R.SYS_PROG_LOAD, 14, 18⟩
def SYS_PROG_LOAD_PCT : FieldAt := ⟨R.SYS_PROG_LOAD, 0, 14⟩
def SYS_PROG_TEST_ITEM : FieldAt := ⟨R.SYS_PROG_TEST, 14, 18⟩
def SYS_PROG_TEST_PCT : FieldAt := ⟨R.SYS_PROG_TEST, 0, 14⟩
def IC_CFG_ETGT : FieldAt := ⟨R.IC_CFG, 12, 2⟩
def IC_CFG_TGT : FieldAt := ⟨R.IC_CFG, 8, 2⟩
def IC_CFG_PRI : FieldAt := ⟨R.IC_CFG, 0, 4⟩
def IC_PEND_PEND : FieldAt := ⟨R.IC_PEND, 0, 32⟩
def IC_EN_EN : FieldAt := ⟨R.IC_EN, 0, 32⟩
def IC_SW_SW : FieldAt := ⟨R.IC_SW, 0, 32⟩
def IC_CPEND0_VIEW : FieldAt := ⟨R.IC_CPEND0, 0, 32⟩
def IC_CPEND1_VIEW : FieldAt := ⟨R.IC_CPEND1, 0, 32⟩
def IC_CPEND2_VIEW : FieldAt := ⟨R.IC_CPEND2, 0, 32⟩
def IC_CPEND3_VIEW : FieldAt := ⟨R.IC_CPEND3, 0, 32⟩
def IC_RPRI_HPEND : FieldAt := ⟨R.IC_RPRI, 24, 5⟩
def IC_RPRI_DEPTH : FieldAt := ⟨R.IC_RPRI, 16, 5⟩
def IC_RPRI_HELD : FieldAt := ⟨R.IC_RPRI, 0, 16⟩
def IC_STK_HPEND : FieldAt := ⟨R.IC_STK, 24, 5⟩
def IC_STK_DEPTH : FieldAt := ⟨R.IC_STK, 16, 5⟩
def IC_STK_HELD : FieldAt := ⟨R.IC_STK, 0, 16⟩
def IC_GDIS_MAXT : FieldAt := ⟨R.IC_GDIS, 16, 10⟩
def IC_GDIS_DIS : FieldAt := ⟨R.IC_GDIS, 0, 1⟩
def IC_FALLBACK_CORE : FieldAt := ⟨R.IC_FALLBACK, 0, 2⟩
def IC_STAT_REFUSED : FieldAt := ⟨R.IC_STAT, 3, 1⟩
def IC_STAT_GDISTO : FieldAt := ⟨R.IC_STAT, 2, 1⟩
def IC_STAT_REDIR : FieldAt := ⟨R.IC_STAT, 1, 1⟩
def IC_STAT_EOIEMPTY : FieldAt := ⟨R.IC_STAT, 0, 1⟩
def IC_SEM_GOT : FieldAt := ⟨R.IC_SEM, 31, 1⟩
def IC_SEM_BUSY : FieldAt := ⟨R.IC_SEM, 8, 1⟩
def IC_SEM_OWNER : FieldAt := ⟨R.IC_SEM, 0, 3⟩
def IC_SEMREL_REL : FieldAt := ⟨R.IC_SEMREL, 0, 32⟩
def IC_SEMFREE_FREE : FieldAt := ⟨R.IC_SEMFREE, 0, 32⟩
def DMA_CTRL_EN : FieldAt := ⟨R.DMA_CTRL, 0, 1⟩
def DMA_STAT_REFUSED : FieldAt := ⟨R.DMA_STAT, 0, 1⟩
def DMA_ACT_ACT : FieldAt := ⟨R.DMA_ACT, 0, 32⟩
def DMA_CCFG_HP : FieldAt := ⟨R.DMA_CCFG, 31, 1⟩
def DMA_CCFG_RETRY : FieldAt := ⟨R.DMA_CCFG, 28, 3⟩
def DMA_CCFG_BURST : FieldAt := ⟨R.DMA_CCFG, 24, 4⟩
def DMA_CCFG_SHARE : FieldAt := ⟨R.DMA_CCFG, 18, 6⟩
def DMA_CCFG_TSRC : FieldAt := ⟨R.DMA_CCFG, 15, 3⟩
def DMA_CCFG_TSEL : FieldAt := ⟨R.DMA_CCFG, 4, 9⟩
def DMA_CCFG_IE : FieldAt := ⟨R.DMA_CCFG, 0, 4⟩
def DMA_CCMD_ADDR : FieldAt := ⟨R.DMA_CCMD, 5, 27⟩
def DMA_CCMD_SWTRG : FieldAt := ⟨R.DMA_CCMD, 2, 1⟩
def DMA_CCMD_ABORT : FieldAt := ⟨R.DMA_CCMD, 1, 1⟩
def DMA_CCMD_GO : FieldAt := ⟨R.DMA_CCMD, 0, 1⟩
def DMA_CSTAT_STATE : FieldAt := ⟨R.DMA_CSTAT, 29, 3⟩
def DMA_CSTAT_CODE : FieldAt := ⟨R.DMA_CSTAT, 25, 4⟩
def DMA_CSTAT_TRGPEND : FieldAt := ⟨R.DMA_CSTAT, 8, 1⟩
def DMA_CSTAT_TRGOVR : FieldAt := ⟨R.DMA_CSTAT, 4, 1⟩
def DMA_CSTAT_MIS : FieldAt := ⟨R.DMA_CSTAT, 3, 1⟩
def DMA_CSTAT_HALT : FieldAt := ⟨R.DMA_CSTAT, 2, 1⟩
def DMA_CSTAT_END : FieldAt := ⟨R.DMA_CSTAT, 1, 1⟩
def DMA_CSTAT_DONE : FieldAt := ⟨R.DMA_CSTAT, 0, 1⟩
def DMA_CDESC_DESC : FieldAt := ⟨R.DMA_CDESC, 0, 32⟩
def DMA_CREM_REM : FieldAt := ⟨R.DMA_CREM, 0, 24⟩
def DMA_CERRA_ADDR : FieldAt := ⟨R.DMA_CERRA, 0, 32⟩
def DMA_CMISA_ADDR : FieldAt := ⟨R.DMA_CMISA, 0, 32⟩
def DMA_CMISC_COUNT : FieldAt := ⟨R.DMA_CMISC, 0, 24⟩
def TB_CFG_EXT : FieldAt := ⟨R.TB_CFG, 4, 1⟩
def TB_CFG_RSEL : FieldAt := ⟨R.TB_CFG, 0, 2⟩
def TB_STAT_REFUSED : FieldAt := ⟨R.TB_STAT, 11, 1⟩
def TB_STAT_DLLERR : FieldAt := ⟨R.TB_STAT, 10, 1⟩
def TB_STAT_FREQERR : FieldAt := ⟨R.TB_STAT, 9, 1⟩
def TB_STAT_LOST : FieldAt := ⟨R.TB_STAT, 8, 1⟩
def TB_STAT_DLLLOCK : FieldAt := ⟨R.TB_STAT, 2, 1⟩
def TB_STAT_REFOK : FieldAt := ⟨R.TB_STAT, 1, 1⟩
def TB_STAT_PLLLOCK : FieldAt := ⟨R.TB_STAT, 0, 1⟩
def TB_FREF_F : FieldAt := ⟨R.TB_FREF, 0, 24⟩
def TB_DLL_STEP : FieldAt := ⟨R.TB_DLL, 0, 16⟩
def PWM_CFG_MINOFF : FieldAt := ⟨R.PWM_CFG, 24, 8⟩
def PWM_CFG_MINON : FieldAt := ⟨R.PWM_CFG, 16, 8⟩
def PWM_CFG_PAIRGUARD : FieldAt := ⟨R.PWM_CFG, 4, 1⟩
def PWM_CFG_CMPBM : FieldAt := ⟨R.PWM_CFG, 3, 1⟩
def PWM_CFG_SYNC : FieldAt := ⟨R.PWM_CFG, 2, 1⟩
def PWM_CFG_DSRC : FieldAt := ⟨R.PWM_CFG, 1, 1⟩
def PWM_CFG_EN : FieldAt := ⟨R.PWM_CFG, 0, 1⟩
def PWM_PERIOD_PEND : FieldAt := ⟨R.PWM_PERIOD, 31, 1⟩
def PWM_PERIOD_HELD : FieldAt := ⟨R.PWM_PERIOD, 30, 1⟩
def PWM_PERIOD_PERIOD : FieldAt := ⟨R.PWM_PERIOD, 0, 16⟩
def PWM_DUTY_VALUE : FieldAt := ⟨R.PWM_DUTY, 0, 16⟩
def PWM_OFFSET_VALUE : FieldAt := ⟨R.PWM_OFFSET, 0, 16⟩
def PWM_CMPB_VALUE : FieldAt := ⟨R.PWM_CMPB, 0, 16⟩
def PWM_ACT_VALUE : FieldAt := ⟨R.PWM_ACT, 0, 16⟩
def PWM_CMPA_VALUE : FieldAt := ⟨R.PWM_CMPA, 0, 21⟩
def PWM_CNT_VALUE : FieldAt := ⟨R.PWM_CNT, 0, 16⟩
def PWM_EVC_SIE : FieldAt := ⟨R.PWM_EVC, 20, 1⟩
def PWM_EVC_IE : FieldAt := ⟨R.PWM_EVC, 16, 4⟩
def PWM_EVC_PS : FieldAt := ⟨R.PWM_EVC, 0, 16⟩
def PWM_EVF_EVF : FieldAt := ⟨R.PWM_EVF, 0, 4⟩
def PWM_BLANK_BLF : FieldAt := ⟨R.PWM_BLANK, 8, 8⟩
def PWM_BLANK_BLR : FieldAt := ⟨R.PWM_BLANK, 0, 8⟩
def PWM_STAT_RAIL : FieldAt := ⟨R.PWM_STAT, 24, 6⟩
def PWM_STAT_ALIGNED : FieldAt := ⟨R.PWM_STAT, 18, 1⟩
def PWM_STAT_SW : FieldAt := ⟨R.PWM_STAT, 17, 1⟩
def PWM_STAT_SAFE : FieldAt := ⟨R.PWM_STAT, 16, 1⟩
def PWM_STAT_TRIPD : FieldAt := ⟨R.PWM_STAT, 6, 1⟩
def PWM_STAT_TRIPC : FieldAt := ⟨R.PWM_STAT, 5, 1⟩
def PWM_STAT_CLAMP : FieldAt := ⟨R.PWM_STAT, 4, 1⟩
def PWM_STAT_SKIP : FieldAt := ⟨R.PWM_STAT, 3, 1⟩
def PWM_STAT_SLIP : FieldAt := ⟨R.PWM_STAT, 2, 1⟩
def PWM_STAT_PAIR_SPLIT : FieldAt := ⟨R.PWM_STAT, 1, 1⟩
def PWM_STAT_LATE : FieldAt := ⟨R.PWM_STAT, 0, 1⟩
def PWM_RPER_PERIOD : FieldAt := ⟨R.PWM_RPER, 0, 16⟩
def PWM_RSYNC_NOW : FieldAt := ⟨R.PWM_RSYNC, 9, 1⟩
def PWM_RSYNC_AUTOOFF : FieldAt := ⟨R.PWM_RSYNC, 8, 1⟩
def PWM_RSYNC_DIV : FieldAt := ⟨R.PWM_RSYNC, 0, 8⟩
def PWM_TRIP_LEVEL : FieldAt := ⟨R.PWM_TRIP, 16, 1⟩
def PWM_TRIP_FLT : FieldAt := ⟨R.PWM_TRIP, 12, 4⟩
def PWM_TRIP_ACT : FieldAt := ⟨R.PWM_TRIP, 8, 1⟩
def PWM_TRIP_POL : FieldAt := ⟨R.PWM_TRIP, 7, 1⟩
def PWM_TRIP_EN : FieldAt := ⟨R.PWM_TRIP, 6, 1⟩
def PWM_TRIP_RAIL : FieldAt := ⟨R.PWM_TRIP, 0, 6⟩
def PWM_SAFE_FORCE : FieldAt := ⟨R.PWM_SAFE, 0, 16⟩
def PWM_SAFEST_CAUSE : FieldAt := ⟨R.PWM_SAFEST, 16, 4⟩
def PWM_SAFEST_ACTIVE : FieldAt := ⟨R.PWM_SAFEST, 0, 16⟩
def PWM_SAFEREL_REL : FieldAt := ⟨R.PWM_SAFEREL, 0, 16⟩
def PWM_ERR_SAFE : FieldAt := ⟨R.PWM_ERR, 5, 1⟩
def PWM_ERR_AUTO : FieldAt := ⟨R.PWM_ERR, 4, 1⟩
def PWM_ERR_BUSY : FieldAt := ⟨R.PWM_ERR, 3, 1⟩
def PWM_ERR_DSRC : FieldAt := ⟨R.PWM_ERR, 2, 1⟩
def PWM_ERR_ADMIT : FieldAt := ⟨R.PWM_ERR, 1, 1⟩
def PWM_ERR_RANGE : FieldAt := ⟨R.PWM_ERR, 0, 1⟩
def FLK_LCFG_EN : FieldAt := ⟨R.FLK_LCFG, 31, 1⟩
def FLK_LCFG_STO : FieldAt := ⟨R.FLK_LCFG, 8, 8⟩
def FLK_LCFG_RETRY : FieldAt := ⟨R.FLK_LCFG, 4, 4⟩
def FLK_LCFG_NPOS : FieldAt := ⟨R.FLK_LCFG, 0, 4⟩
def FLK_LSTAT_REFUSED : FieldAt := ⟨R.FLK_LSTAT, 8, 1⟩
def FLK_LSTAT_MFAIL : FieldAt := ⟨R.FLK_LSTAT, 7, 1⟩
def FLK_LSTAT_TRAINF : FieldAt := ⟨R.FLK_LSTAT, 6, 1⟩
def FLK_LSTAT_IDERR : FieldAt := ⟨R.FLK_LSTAT, 5, 1⟩
def FLK_LSTAT_TOPO : FieldAt := ⟨R.FLK_LSTAT, 4, 1⟩
def FLK_LSTAT_STATE : FieldAt := ⟨R.FLK_LSTAT, 0, 3⟩
def FLK_LCNT1_BAD : FieldAt := ⟨R.FLK_LCNT1, 16, 16⟩
def FLK_LCNT1_HOP : FieldAt := ⟨R.FLK_LCNT1, 0, 16⟩
def FLK_LCNT2_PAR : FieldAt := ⟨R.FLK_LCNT2, 16, 16⟩
def FLK_LCNT2_HELD : FieldAt := ⟨R.FLK_LCNT2, 0, 16⟩
def FLK_MCMD_GO : FieldAt := ⟨R.FLK_MCMD, 31, 1⟩
def FLK_MCMD_POS : FieldAt := ⟨R.FLK_MCMD, 24, 3⟩
def FLK_MCMD_WR : FieldAt := ⟨R.FLK_MCMD, 23, 1⟩
def FLK_MCMD_LEN : FieldAt := ⟨R.FLK_MCMD, 16, 6⟩
def FLK_MCMD_ADDR : FieldAt := ⟨R.FLK_MCMD, 0, 10⟩
def FLK_MSTAT_RCODE : FieldAt := ⟨R.FLK_MSTAT, 8, 3⟩
def FLK_MSTAT_RESULT : FieldAt := ⟨R.FLK_MSTAT, 0, 3⟩
def FLK_MBUF_W1 : FieldAt := ⟨R.FLK_MBUF, 16, 16⟩
def FLK_MBUF_W0 : FieldAt := ⟨R.FLK_MBUF, 0, 16⟩
def FLK_PCFG_ILOCAL : FieldAt := ⟨R.FLK_PCFG, 0, 16⟩
def FLK_LASTC_SLOT : FieldAt := ⟨R.FLK_LASTC, 0, 32⟩
def FLK_LASTR_SLOT : FieldAt := ⟨R.FLK_LASTR, 0, 32⟩
def FLK_STAT_LOSTF : FieldAt := ⟨R.FLK_STAT, 16, 16⟩
def FLK_STAT_UP : FieldAt := ⟨R.FLK_STAT, 0, 16⟩
def MICA_CTRL_XOPT : FieldAt := ⟨R.MICA_CTRL, 5, 1⟩
def MICA_CTRL_REBUILD : FieldAt := ⟨R.MICA_CTRL, 4, 1⟩
def MICA_CTRL_ABORT : FieldAt := ⟨R.MICA_CTRL, 3, 1⟩
def MICA_CTRL_SURVEY : FieldAt := ⟨R.MICA_CTRL, 2, 1⟩
def MICA_CTRL_XSEG : FieldAt := ⟨R.MICA_CTRL, 1, 1⟩
def MICA_CTRL_EN : FieldAt := ⟨R.MICA_CTRL, 0, 1⟩
def MICA_CFG_SPREAD : FieldAt := ⟨R.MICA_CFG, 24, 6⟩
def MICA_CFG_ROT_INT : FieldAt := ⟨R.MICA_CFG, 8, 16⟩
def MICA_CFG_ROT_STEP : FieldAt := ⟨R.MICA_CFG, 0, 8⟩
def MICA_AGE_UNIT : FieldAt := ⟨R.MICA_AGE, 0, 16⟩
def MICA_STAT_SBUSY : FieldAt := ⟨R.MICA_STAT, 8, 1⟩
def MICA_STAT_REFUSED : FieldAt := ⟨R.MICA_STAT, 7, 1⟩
def MICA_STAT_DLFAIL : FieldAt := ⟨R.MICA_STAT, 6, 1⟩
def MICA_STAT_CLAMPW : FieldAt := ⟨R.MICA_STAT, 5, 1⟩
def MICA_STAT_SABORT : FieldAt := ⟨R.MICA_STAT, 4, 1⟩
def MICA_STAT_SDONE : FieldAt := ⟨R.MICA_STAT, 3, 1⟩
def MICA_STAT_RETIRE : FieldAt := ⟨R.MICA_STAT, 2, 1⟩
def MICA_STAT_SEGF : FieldAt := ⟨R.MICA_STAT, 1, 1⟩
def MICA_SSTAT_SKIP : FieldAt := ⟨R.MICA_SSTAT, 0, 19⟩
def MICA_USE_U_LS : FieldAt := ⟨R.MICA_USE, 16, 11⟩
def MICA_USE_U_HS : FieldAt := ⟨R.MICA_USE, 0, 11⟩
def MICA_ROT_R_LS : FieldAt := ⟨R.MICA_ROT, 16, 11⟩
def MICA_ROT_R_HS : FieldAt := ⟨R.MICA_ROT, 0, 11⟩
def MICA_PROG_ITEM : FieldAt := ⟨R.MICA_PROG, 14, 18⟩
def MICA_PROG_PCT : FieldAt := ⟨R.MICA_PROG, 0, 14⟩
def BSL_CTRL_HEADMIN : FieldAt := ⟨R.BSL_CTRL, 16, 10⟩
def BSL_CTRL_EN : FieldAt := ⟨R.BSL_CTRL, 0, 1⟩
def BSL_STAT_REFUSED : FieldAt := ⟨R.BSL_STAT, 4, 1⟩
def BSL_STAT_PGMFAIL : FieldAt := ⟨R.BSL_STAT, 3, 1⟩
def BSL_STAT_LANEERR : FieldAt := ⟨R.BSL_STAT, 2, 1⟩
def BSL_STAT_MISS : FieldAt := ⟨R.BSL_STAT, 1, 1⟩
def BSL_STAT_HEADLOW : FieldAt := ⟨R.BSL_STAT, 0, 1⟩
def BSL_LANEEN_EN : FieldAt := ⟨R.BSL_LANEEN, 0, 16⟩
def BSL_LANEST_RET : FieldAt := ⟨R.BSL_LANEST, 16, 16⟩
def BSL_LANEST_INSV : FieldAt := ⟨R.BSL_LANEST, 0, 16⟩
def BSL_DEMAND_LIMIT : FieldAt := ⟨R.BSL_DEMAND, 16, 16⟩
def BSL_DEMAND_DEMAND : FieldAt := ⟨R.BSL_DEMAND, 0, 16⟩
def BSL_MARGIN_MINRATE : FieldAt := ⟨R.BSL_MARGIN, 16, 16⟩
def BSL_MARGIN_HEAD : FieldAt := ⟨R.BSL_MARGIN, 0, 10⟩
def BSL_MISS_COUNT : FieldAt := ⟨R.BSL_MISS, 0, 32⟩
def BSL_ERR_DISC : FieldAt := ⟨R.BSL_ERR, 9, 1⟩
def BSL_ERR_RANGE : FieldAt := ⟨R.BSL_ERR, 8, 1⟩
def BSL_ERR_LANE : FieldAt := ⟨R.BSL_ERR, 7, 1⟩
def BSL_ERR_ENOFF : FieldAt := ⟨R.BSL_ERR, 6, 1⟩
def BSL_ERR_SEV : FieldAt := ⟨R.BSL_ERR, 5, 1⟩
def BSL_ERR_BOUND : FieldAt := ⟨R.BSL_ERR, 4, 1⟩
def BSL_ERR_LEVEL : FieldAt := ⟨R.BSL_ERR, 3, 1⟩
def BSL_ERR_KIND : FieldAt := ⟨R.BSL_ERR, 2, 1⟩
def BSL_ERR_PACK : FieldAt := ⟨R.BSL_ERR, 1, 1⟩
def BSL_ERR_SUM : FieldAt := ⟨R.BSL_ERR, 0, 1⟩
def BSL_LDEM_TASKS : FieldAt := ⟨R.BSL_LDEM, 24, 8⟩
def BSL_LDEM_DEM : FieldAt := ⟨R.BSL_LDEM, 0, 12⟩
def BSL_OTASK_EN : FieldAt := ⟨R.BSL_OTASK, 31, 1⟩
def BSL_OTASK_PEND : FieldAt := ⟨R.BSL_OTASK, 30, 1⟩
def BSL_OTASK_INTERVAL : FieldAt := ⟨R.BSL_OTASK, 16, 14⟩
def BSL_OTASK_PROG : FieldAt := ⟨R.BSL_OTASK, 0, 7⟩
def BSL_PTASK_GEN : FieldAt := ⟨R.BSL_PTASK, 28, 4⟩
def BSL_PTASK_MISS : FieldAt := ⟨R.BSL_PTASK, 24, 4⟩
def BSL_PTASK_LANE : FieldAt := ⟨R.BSL_PTASK, 20, 4⟩
def BSL_PTASK_PROG_FB : FieldAt := ⟨R.BSL_PTASK, 8, 7⟩
def BSL_PTASK_PROG : FieldAt := ⟨R.BSL_PTASK, 0, 7⟩
def BSL_PDIR_LEN : FieldAt := ⟨R.BSL_PDIR, 16, 16⟩
def BSL_PDIR_ADDR : FieldAt := ⟨R.BSL_PDIR, 0, 16⟩
def BSL_PCOST_FMT : FieldAt := ⟨R.BSL_PCOST, 28, 1⟩
def BSL_PCOST_KIND : FieldAt := ⟨R.BSL_PCOST, 26, 2⟩
def BSL_PCOST_COST : FieldAt := ⟨R.BSL_PCOST, 16, 10⟩
def SAF_CTRL_EN : FieldAt := ⟨R.SAF_CTRL, 0, 1⟩
def SAF_STAT_LOCK : FieldAt := ⟨R.SAF_STAT, 24, 8⟩
def SAF_STAT_LOST : FieldAt := ⟨R.SAF_STAT, 16, 8⟩
def SAF_STAT_SQDONE : FieldAt := ⟨R.SAF_STAT, 4, 1⟩
def SAF_STAT_UNDER : FieldAt := ⟨R.SAF_STAT, 3, 1⟩
def SAF_STAT_SHORT : FieldAt := ⟨R.SAF_STAT, 2, 1⟩
def SAF_STAT_CEIL : FieldAt := ⟨R.SAF_STAT, 1, 1⟩
def SAF_ERR_NOPLAN : FieldAt := ⟨R.SAF_ERR, 8, 1⟩
def SAF_ERR_SLEW : FieldAt := ⟨R.SAF_ERR, 7, 1⟩
def SAF_ERR_VRANGE : FieldAt := ⟨R.SAF_ERR, 6, 1⟩
def SAF_ERR_TRACK : FieldAt := ⟨R.SAF_ERR, 5, 1⟩
def SAF_ERR_DEPTH : FieldAt := ⟨R.SAF_ERR, 4, 1⟩
def SAF_ERR_PORT : FieldAt := ⟨R.SAF_ERR, 3, 1⟩
def SAF_ERR_MAPALL : FieldAt := ⟨R.SAF_ERR, 2, 1⟩
def SAF_ERR_MAPGRP : FieldAt := ⟨R.SAF_ERR, 1, 1⟩
def SAF_ERR_MAPFULL : FieldAt := ⟨R.SAF_ERR, 0, 1⟩
def SAF_GCFG_PORTS : FieldAt := ⟨R.SAF_GCFG, 16, 8⟩
def SAF_GCFG_DEPTH : FieldAt := ⟨R.SAF_GCFG, 0, 13⟩
def SAF_GSTAT_STATE : FieldAt := ⟨R.SAF_GSTAT, 0, 3⟩
def SAF_GFRAME_FRAME : FieldAt := ⟨R.SAF_GFRAME, 0, 32⟩
def SAF_GCNT_LOSS : FieldAt := ⟨R.SAF_GCNT, 16, 16⟩
def SAF_GCNT_PART : FieldAt := ⟨R.SAF_GCNT, 0, 16⟩
def SAF_CHMAP_MUTE : FieldAt := ⟨R.SAF_CHMAP, 8, 1⟩
def SAF_CHMAP_MAPEN : FieldAt := ⟨R.SAF_CHMAP, 7, 1⟩
def SAF_CHMAP_RAIL : FieldAt := ⟨R.SAF_CHMAP, 0, 6⟩
def SAF_FSG_FS_GAIN : FieldAt := ⟨R.SAF_FSG, 0, 20⟩
def SAF_LGAIN_LGAIN : FieldAt := ⟨R.SAF_LGAIN, 0, 16⟩
def SAF_RCFG_REL_EN : FieldAt := ⟨R.SAF_RCFG, 2, 1⟩
def SAF_RCFG_CG : FieldAt := ⟨R.SAF_RCFG, 1, 1⟩
def SAF_RCFG_TP : FieldAt := ⟨R.SAF_RCFG, 0, 1⟩
def SAF_VMIN_VALUE : FieldAt := ⟨R.SAF_VMIN, 0, 20⟩
def SAF_VMAX_VALUE : FieldAt := ⟨R.SAF_VMAX, 0, 20⟩
def SAF_VDROP_VALUE : FieldAt := ⟨R.SAF_VDROP, 0, 20⟩
def SAF_MARGIN_VALUE : FieldAt := ⟨R.SAF_MARGIN, 0, 20⟩
def SAF_SLEW_SR_DOWN : FieldAt := ⟨R.SAF_SLEW, 16, 16⟩
def SAF_SLEW_SR_UP : FieldAt := ⟨R.SAF_SLEW, 0, 16⟩
def SAF_HOLD_REL_TAU : FieldAt := ⟨R.SAF_HOLD, 16, 16⟩
def SAF_HOLD_HOLD_T : FieldAt := ⟨R.SAF_HOLD, 0, 16⟩
def SAF_BLIND_VALUE : FieldAt := ⟨R.SAF_BLIND, 0, 20⟩
def SAF_RSTAT_LEVEL : FieldAt := ⟨R.SAF_RSTAT, 9, 7⟩
def SAF_RSTAT_HZN : FieldAt := ⟨R.SAF_RSTAT, 8, 1⟩
def SAF_RSTAT_UNDER : FieldAt := ⟨R.SAF_RSTAT, 7, 1⟩
def SAF_RSTAT_RECOMP : FieldAt := ⟨R.SAF_RSTAT, 6, 1⟩
def SAF_RSTAT_EPOCH : FieldAt := ⟨R.SAF_RSTAT, 0, 4⟩
def SAF_WRISE_W_EFF : FieldAt := ⟨R.SAF_WRISE, 16, 16⟩
def SAF_WRISE_W_RISE : FieldAt := ⟨R.SAF_WRISE, 0, 16⟩
def SAF_KNOTLO_KNOT : FieldAt := ⟨R.SAF_KNOTLO, 0, 32⟩
def SAF_KNOTHI_KNOT : FieldAt := ⟨R.SAF_KNOTHI, 0, 32⟩
def SAF_RCNT1_SHORT : FieldAt := ⟨R.SAF_RCNT1, 16, 16⟩
def SAF_RCNT1_CEIL : FieldAt := ⟨R.SAF_RCNT1, 0, 16⟩
def SAF_RCNT2_UNDER : FieldAt := ⟨R.SAF_RCNT2, 16, 16⟩
def SAF_RCNT2_SQUASH : FieldAt := ⟨R.SAF_RCNT2, 0, 16⟩
def RAIL_CTRL_EN : FieldAt := ⟨R.RAIL_CTRL, 31, 1⟩
def RAIL_CTRL_REF : FieldAt := ⟨R.RAIL_CTRL, 8, 1⟩
def RAIL_CTRL_STATE : FieldAt := ⟨R.RAIL_CTRL, 0, 4⟩
def RAIL_LCFG_XL : FieldAt := ⟨R.RAIL_LCFG, 31, 1⟩
def RAIL_LCFG_MISS_SEV : FieldAt := ⟨R.RAIL_LCFG, 27, 3⟩
def RAIL_LCFG_PRIO : FieldAt := ⟨R.RAIL_LCFG, 23, 4⟩
def RAIL_LCFG_N_FB : FieldAt := ⟨R.RAIL_LCFG, 21, 2⟩
def RAIL_LCFG_N : FieldAt := ⟨R.RAIL_LCFG, 19, 2⟩
def RAIL_LCFG_VPROG_FB : FieldAt := ⟨R.RAIL_LCFG, 8, 7⟩
def RAIL_LCFG_VPROG : FieldAt := ⟨R.RAIL_LCFG, 0, 7⟩
def RAIL_LCMD_FB : FieldAt := ⟨R.RAIL_LCMD, 1, 1⟩
def RAIL_LCMD_RET : FieldAt := ⟨R.RAIL_LCMD, 0, 1⟩
def RAIL_LCOEF_ICOEF : FieldAt := ⟨R.RAIL_LCOEF, 16, 14⟩
def RAIL_LCOEF_VCOEF : FieldAt := ⟨R.RAIL_LCOEF, 0, 14⟩
def RAIL_ILIM_I : FieldAt := ⟨R.RAIL_ILIM, 0, 24⟩
def RAIL_ISINK_I : FieldAt := ⟨R.RAIL_ISINK, 0, 24⟩
def RAIL_CRAIL_VFF_EN : FieldAt := ⟨R.RAIL_CRAIL, 17, 1⟩
def RAIL_CRAIL_SFF_EN : FieldAt := ⟨R.RAIL_CRAIL, 16, 1⟩
def RAIL_CRAIL_C : FieldAt := ⟨R.RAIL_CRAIL, 0, 16⟩
def RAIL_DLIM_DMAX : FieldAt := ⟨R.RAIL_DLIM, 16, 16⟩
def RAIL_DLIM_DMIN : FieldAt := ⟨R.RAIL_DLIM, 0, 16⟩
def RAIL_FEV_SEV : FieldAt := ⟨R.RAIL_FEV, 20, 3⟩
def RAIL_FEV_LIMIT : FieldAt := ⟨R.RAIL_FEV, 0, 20⟩
def RAIL_FEI_SEV : FieldAt := ⟨R.RAIL_FEI, 20, 3⟩
def RAIL_FEI_LIMIT : FieldAt := ⟨R.RAIL_FEI, 0, 16⟩
def RAIL_FET_I_TIME : FieldAt := ⟨R.RAIL_FET, 16, 16⟩
def RAIL_FET_V_TIME : FieldAt := ⟨R.RAIL_FET, 0, 16⟩
def RAIL_SRC_FSCALE : FieldAt := ⟨R.RAIL_SRC, 16, 16⟩
def RAIL_SRC_FIN : FieldAt := ⟨R.RAIL_SRC, 8, 8⟩
def RAIL_SRC_MIX : FieldAt := ⟨R.RAIL_SRC, 2, 1⟩
def RAIL_SRC_SRC : FieldAt := ⟨R.RAIL_SRC, 0, 2⟩
def RAIL_VSET_VALUE : FieldAt := ⟨R.RAIL_VSET, 0, 20⟩
def RAIL_FLOOR_VALUE : FieldAt := ⟨R.RAIL_FLOOR, 0, 20⟩
def RAIL_CEIL_VALUE : FieldAt := ⟨R.RAIL_CEIL, 0, 20⟩
def RAIL_LSTAT_FB : FieldAt := ⟨R.RAIL_LSTAT, 6, 1⟩
def RAIL_LSTAT_FEI : FieldAt := ⟨R.RAIL_LSTAT, 5, 1⟩
def RAIL_LSTAT_FEV : FieldAt := ⟨R.RAIL_LSTAT, 4, 1⟩
def RAIL_LSTAT_VMISS : FieldAt := ⟨R.RAIL_LSTAT, 0, 4⟩
def RAIL_IREF_I : FieldAt := ⟨R.RAIL_IREF, 0, 24⟩
def RAIL_ILIMF_I : FieldAt := ⟨R.RAIL_ILIMF, 0, 24⟩
def RAIL_OPT_FBDR : FieldAt := ⟨R.RAIL_OPT, 16, 1⟩
def RAIL_OPT_PROFILE : FieldAt := ⟨R.RAIL_OPT, 0, 6⟩
def RAIL_DIS_DIS_T : FieldAt := ⟨R.RAIL_DIS, 24, 8⟩
def RAIL_DIS_VEND : FieldAt := ⟨R.RAIL_DIS, 0, 20⟩
def RAIL_DISI_MODE : FieldAt := ⟨R.RAIL_DISI, 31, 1⟩
def RAIL_DISI_IDIS : FieldAt := ⟨R.RAIL_DISI, 0, 24⟩
def RAIL_DERATE_F : FieldAt := ⟨R.RAIL_DERATE, 0, 16⟩
def RAIL_FSTAT_CODE : FieldAt := ⟨R.RAIL_FSTAT, 16, 16⟩
def RAIL_FSTAT_DISC : FieldAt := ⟨R.RAIL_FSTAT, 8, 8⟩
def RAIL_FSTAT_LATCHED : FieldAt := ⟨R.RAIL_FSTAT, 5, 1⟩
def RAIL_FSTAT_HAND : FieldAt := ⟨R.RAIL_FSTAT, 4, 1⟩
def RAIL_FSTAT_RESP : FieldAt := ⟨R.RAIL_FSTAT, 0, 3⟩
def RAIL_FCLR_CLR : FieldAt := ⟨R.RAIL_FCLR, 0, 1⟩
def POOL_CFG_EN : FieldAt := ⟨R.POOL_CFG, 31, 1⟩
def POOL_CFG_DRAIN_MAX : FieldAt := ⟨R.POOL_CFG, 16, 8⟩
def POOL_CFG_STEER_DEAD : FieldAt := ⟨R.POOL_CFG, 0, 7⟩
def POOL_STAT_BANDERR : FieldAt := ⟨R.POOL_STAT, 6, 1⟩
def POOL_STAT_LOSTMV : FieldAt := ⟨R.POOL_STAT, 5, 1⟩
def POOL_STAT_CONFF : FieldAt := ⟨R.POOL_STAT, 4, 1⟩
def POOL_STAT_DRAINF : FieldAt := ⟨R.POOL_STAT, 3, 1⟩
def POOL_STAT_CANCEL : FieldAt := ⟨R.POOL_STAT, 2, 1⟩
def POOL_STAT_ADMREF : FieldAt := ⟨R.POOL_STAT, 1, 1⟩
def POOL_STAT_REFUSED : FieldAt := ⟨R.POOL_STAT, 0, 1⟩
def POOL_LREQ_GO : FieldAt := ⟨R.POOL_LREQ, 31, 1⟩
def POOL_LREQ_SPEC : FieldAt := ⟨R.POOL_LREQ, 30, 1⟩
def POOL_LREQ_EPOCH : FieldAt := ⟨R.POOL_LREQ, 24, 4⟩
def POOL_LREQ_OP : FieldAt := ⟨R.POOL_LREQ, 16, 2⟩
def POOL_LREQ_PHASE : FieldAt := ⟨R.POOL_LREQ, 0, 7⟩
def POOL_LRES_BUSY : FieldAt := ⟨R.POOL_LRES, 31, 1⟩
def POOL_LRES_RESULT : FieldAt := ⟨R.POOL_LRES, 16, 4⟩
def POOL_LRES_PHASE : FieldAt := ⟨R.POOL_LRES, 0, 7⟩
def POOL_PCFG_LEND : FieldAt := ⟨R.POOL_PCFG, 31, 1⟩
def POOL_PCFG_GUEST : FieldAt := ⟨R.POOL_PCFG, 24, 6⟩
def POOL_PCFG_HOME : FieldAt := ⟨R.POOL_PCFG, 16, 6⟩
def POOL_PCFG_I_ZERO : FieldAt := ⟨R.POOL_PCFG, 0, 12⟩
def POOL_PSTAT_WSHARE : FieldAt := ⟨R.POOL_PSTAT, 16, 16⟩
def POOL_PSTAT_STEERUNK : FieldAt := ⟨R.POOL_PSTAT, 15, 1⟩
def POOL_PSTAT_RAIL : FieldAt := ⟨R.POOL_PSTAT, 8, 6⟩
def POOL_PSTAT_EPOCH : FieldAt := ⟨R.POOL_PSTAT, 4, 2⟩
def POOL_PSTAT_SW : FieldAt := ⟨R.POOL_PSTAT, 3, 1⟩
def POOL_PSTAT_STATE : FieldAt := ⟨R.POOL_PSTAT, 0, 3⟩
def POOL_PFACT_F_CLV : FieldAt := ⟨R.POOL_PFACT, 16, 16⟩
def POOL_PFACT_F : FieldAt := ⟨R.POOL_PFACT, 0, 16⟩
def POOL_RCFG_AUTO : FieldAt := ⟨R.POOL_RCFG, 31, 1⟩
def POOL_RCFG_SPEC : FieldAt := ⟨R.POOL_RCFG, 30, 1⟩
def POOL_RCFG_RETHOME : FieldAt := ⟨R.POOL_RCFG, 29, 1⟩
def POOL_RCFG_LIN : FieldAt := ⟨R.POOL_RCFG, 28, 1⟩
def POOL_RCFG_LOUT : FieldAt := ⟨R.POOL_RCFG, 27, 1⟩
def POOL_RCFG_NMAX : FieldAt := ⟨R.POOL_RCFG, 16, 6⟩
def POOL_RCFG_NMIN : FieldAt := ⟨R.POOL_RCFG, 8, 6⟩
def POOL_RCFG_DWELL : FieldAt := ⟨R.POOL_RCFG, 0, 8⟩
def POOL_RTIM_DRAIN_T : FieldAt := ⟨R.POOL_RTIM, 24, 8⟩
def POOL_RTIM_JOIN_T : FieldAt := ⟨R.POOL_RTIM, 16, 8⟩
def POOL_RTIM_ADD_T : FieldAt := ⟨R.POOL_RTIM, 8, 8⟩
def POOL_RTIM_SHED_T : FieldAt := ⟨R.POOL_RTIM, 0, 8⟩
def POOL_RLEAD_ADD_LEAD : FieldAt := ⟨R.POOL_RLEAD, 0, 16⟩
def POOL_RSTAT_NACT : FieldAt := ⟨R.POOL_RSTAT, 26, 6⟩
def POOL_RSTAT_NMOV : FieldAt := ⟨R.POOL_RSTAT, 20, 6⟩
def POOL_RSTAT_BAND : FieldAt := ⟨R.POOL_RSTAT, 16, 4⟩
def POOL_RSTAT_SHORTPH : FieldAt := ⟨R.POOL_RSTAT, 2, 1⟩
def POOL_RSTAT_NOPH : FieldAt := ⟨R.POOL_RSTAT, 1, 1⟩
def POOL_RSTAT_BANDERR : FieldAt := ⟨R.POOL_RSTAT, 0, 1⟩
def CLV_CTRL_STEPEN : FieldAt := ⟨R.CLV_CTRL, 3, 5⟩
def CLV_CTRL_LEND : FieldAt := ⟨R.CLV_CTRL, 2, 1⟩
def CLV_CTRL_XB : FieldAt := ⟨R.CLV_CTRL, 1, 1⟩
def CLV_CTRL_EN : FieldAt := ⟨R.CLV_CTRL, 0, 1⟩
def CLV_STAT_LEVEL : FieldAt := ⟨R.CLV_STAT, 8, 3⟩
def CLV_STAT_REFUSED : FieldAt := ⟨R.CLV_STAT, 7, 1⟩
def CLV_STAT_SENSE : FieldAt := ⟨R.CLV_STAT, 6, 1⟩
def CLV_STAT_LATEATK : FieldAt := ⟨R.CLV_STAT, 5, 1⟩
def CLV_STAT_GMIN : FieldAt := ⟨R.CLV_STAT, 4, 1⟩
def CLV_STAT_IBUS : FieldAt := ⟨R.CLV_STAT, 3, 1⟩
def CLV_STAT_SHORT : FieldAt := ⟨R.CLV_STAT, 2, 1⟩
def CLV_STAT_LONG : FieldAt := ⟨R.CLV_STAT, 1, 1⟩
def CLV_STAT_ALERT : FieldAt := ⟨R.CLV_STAT, 0, 1⟩
def CLV_CFG_HZN : FieldAt := ⟨R.CLV_CFG, 24, 8⟩
def CLV_CFG_QUIET_T : FieldAt := ⟨R.CLV_CFG, 16, 8⟩
def CLV_CFG_MINT : FieldAt := ⟨R.CLV_CFG, 8, 8⟩
def CLV_CFG_HYS : FieldAt := ⟨R.CLV_CFG, 4, 4⟩
def CLV_CFG_DEFER_PRI : FieldAt := ⟨R.CLV_CFG, 0, 4⟩
def CLV_PLONG_P : FieldAt := ⟨R.CLV_PLONG, 0, 24⟩
def CLV_PIN_P : FieldAt := ⟨R.CLV_PIN, 0, 24⟩
def CLV_PAUX_P : FieldAt := ⟨R.CLV_PAUX, 0, 24⟩
def CLV_TAU_TAU_LONG : FieldAt := ⟨R.CLV_TAU, 16, 16⟩
def CLV_TAU_ETA_PT : FieldAt := ⟨R.CLV_TAU, 0, 16⟩
def CLV_IBUS_I_BUS_MAX : FieldAt := ⟨R.CLV_IBUS, 0, 24⟩
def CLV_ISNS_SCALE : FieldAt := ⟨R.CLV_ISNS, 16, 16⟩
def CLV_ISNS_EN : FieldAt := ⟨R.CLV_ISNS, 4, 1⟩
def CLV_ISNS_AUX : FieldAt := ⟨R.CLV_ISNS, 0, 4⟩
def CLV_CBUS_C_BUS : FieldAt := ⟨R.CLV_CBUS, 0, 16⟩
def CLV_VBMIN_VBUS_MIN : FieldAt := ⟨R.CLV_VBMIN, 0, 20⟩
def CLV_LIM_ATT_T : FieldAt := ⟨R.CLV_LIM, 16, 16⟩
def CLV_LIM_LREL_T : FieldAt := ⟨R.CLV_LIM, 0, 16⟩
def CLV_GMIN_G_MIN : FieldAt := ⟨R.CLV_GMIN, 0, 16⟩
def CLV_PMEAS_P : FieldAt := ⟨R.CLV_PMEAS, 0, 24⟩
def CLV_PAVG_P : FieldAt := ⟨R.CLV_PAVG, 0, 24⟩
def CLV_PPEAK_P : FieldAt := ⟨R.CLV_PPEAK, 0, 24⟩
def CLV_EAVL_E : FieldAt := ⟨R.CLV_EAVL, 0, 32⟩
def CLV_GNOW_G : FieldAt := ⟨R.CLV_GNOW, 0, 16⟩
def CLV_TWARN_T_HOT : FieldAt := ⟨R.CLV_TWARN, 16, 16⟩
def CLV_TWARN_T_WARN : FieldAt := ⟨R.CLV_TWARN, 0, 16⟩
def CLV_THYS_ROT_MIN : FieldAt := ⟨R.CLV_THYS, 16, 16⟩
def CLV_THYS_T_HYS : FieldAt := ⟨R.CLV_THYS, 0, 16⟩
def CLV_THM_TAU2 : FieldAt := ⟨R.CLV_THM, 16, 16⟩
def CLV_THM_TAU1 : FieldAt := ⟨R.CLV_THM, 0, 16⟩
def CLV_THR_R2 : FieldAt := ⟨R.CLV_THR, 16, 16⟩
def CLV_THR_R1 : FieldAt := ⟨R.CLV_THR, 0, 16⟩
def CLV_LOSS_E_SW : FieldAt := ⟨R.CLV_LOSS, 16, 16⟩
def CLV_LOSS_R_ON : FieldAt := ⟨R.CLV_LOSS, 0, 16⟩
def CLV_OPRI_PRI : FieldAt := ⟨R.CLV_OPRI, 0, 32⟩
def CLV_SLP_MEM_T : FieldAt := ⟨R.CLV_SLP, 16, 16⟩
def CLV_SLP_CORE_T : FieldAt := ⟨R.CLV_SLP, 0, 16⟩
def CLV_RCFG_LIM : FieldAt := ⟨R.CLV_RCFG, 31, 1⟩
def CLV_RCFG_ETA : FieldAt := ⟨R.CLV_RCFG, 0, 16⟩
def CLV_RMARG_MSTEP : FieldAt := ⟨R.CLV_RMARG, 20, 12⟩
def CLV_RMARG_MARGIN_MIN : FieldAt := ⟨R.CLV_RMARG, 0, 20⟩
def CLV_RIQ_DRMIN : FieldAt := ⟨R.CLV_RIQ, 16, 16⟩
def CLV_RIQ_I_Q : FieldAt := ⟨R.CLV_RIQ, 0, 16⟩
def CLV_RSTAT_K : FieldAt := ⟨R.CLV_RSTAT, 16, 16⟩
def CLV_RSTAT_MSTEPS : FieldAt := ⟨R.CLV_RSTAT, 0, 8⟩
def CLV_RPLAN_P : FieldAt := ⟨R.CLV_RPLAN, 0, 24⟩
def CLV_RILIM_I : FieldAt := ⟨R.CLV_RILIM, 0, 24⟩
def CLV_RELO_E : FieldAt := ⟨R.CLV_RELO, 0, 32⟩
def CLV_REHI_E : FieldAt := ⟨R.CLV_REHI, 0, 32⟩
def CLV_CHZ_Z : FieldAt := ⟨R.CLV_CHZ, 0, 16⟩
def CLV_PTH_T_PRED : FieldAt := ⟨R.CLV_PTH, 16, 16⟩
def CLV_PTH_T_EST : FieldAt := ⟨R.CLV_PTH, 0, 16⟩
def CLV_PHT_HOT : FieldAt := ⟨R.CLV_PHT, 31, 1⟩
def CLV_PHT_P_LOSS : FieldAt := ⟨R.CLV_PHT, 0, 16⟩
def ADC_CTRL_SNS_T : FieldAt := ⟨R.ADC_CTRL, 16, 16⟩
def ADC_CTRL_REFOE : FieldAt := ⟨R.ADC_CTRL, 5, 1⟩
def ADC_CTRL_REFSEL : FieldAt := ⟨R.ADC_CTRL, 3, 2⟩
def ADC_CTRL_SWEEP : FieldAt := ⟨R.ADC_CTRL, 2, 1⟩
def ADC_CTRL_CALEN : FieldAt := ⟨R.ADC_CTRL, 1, 1⟩
def ADC_CTRL_EN : FieldAt := ⟨R.ADC_CTRL, 0, 1⟩
def ADC_STAT_SWBUSY : FieldAt := ⟨R.ADC_STAT, 8, 1⟩
def ADC_STAT_REFRDY : FieldAt := ⟨R.ADC_STAT, 7, 1⟩
def ADC_STAT_REFUSED : FieldAt := ⟨R.ADC_STAT, 6, 1⟩
def ADC_STAT_SDONE : FieldAt := ⟨R.ADC_STAT, 5, 1⟩
def ADC_STAT_NOSPARE : FieldAt := ⟨R.ADC_STAT, 4, 1⟩
def ADC_STAT_RETIRE : FieldAt := ⟨R.ADC_STAT, 3, 1⟩
def ADC_STAT_MISMATCH : FieldAt := ⟨R.ADC_STAT, 2, 1⟩
def ADC_STAT_INJOVR : FieldAt := ⟨R.ADC_STAT, 1, 1⟩
def ADC_STAT_OVR : FieldAt := ⟨R.ADC_STAT, 0, 1⟩
def ADC_CALCFG_OFSMAX : FieldAt := ⟨R.ADC_CALCFG, 24, 8⟩
def ADC_CALCFG_GAINMAX : FieldAt := ⟨R.ADC_CALCFG, 16, 8⟩
def ADC_CALCFG_MATCH : FieldAt := ⟨R.ADC_CALCFG, 8, 8⟩
def ADC_CALCFG_INT : FieldAt := ⟨R.ADC_CALCFG, 0, 8⟩
def ADC_GSTAT_CALPOS : FieldAt := ⟨R.ADC_GSTAT, 24, 4⟩
def ADC_GSTAT_SPARE : FieldAt := ⟨R.ADC_GSTAT, 16, 4⟩
def ADC_GSTAT_RET : FieldAt := ⟨R.ADC_GSTAT, 0, 9⟩
def ADC_GMAP_MAP : FieldAt := ⟨R.ADC_GMAP, 0, 32⟩
def ADC_GTRIG_EN : FieldAt := ⟨R.ADC_GTRIG, 31, 1⟩
def ADC_GTRIG_SW : FieldAt := ⟨R.ADC_GTRIG, 30, 1⟩
def ADC_GTRIG_TSRC : FieldAt := ⟨R.ADC_GTRIG, 12, 2⟩
def ADC_GTRIG_TSEL : FieldAt := ⟨R.ADC_GTRIG, 0, 9⟩
def ADC_TDAC_CODE : FieldAt := ⟨R.ADC_TDAC, 0, 12⟩
def ADC_TEMP_VALID : FieldAt := ⟨R.ADC_TEMP, 31, 1⟩
def ADC_TEMP_T : FieldAt := ⟨R.ADC_TEMP, 0, 16⟩
def ADC_AUX_RESULT : FieldAt := ⟨R.ADC_AUX, 0, 32⟩
def ADC_SL_STATE : FieldAt := ⟨R.ADC_SL, 30, 2⟩
def ADC_SL_SP : FieldAt := ⟨R.ADC_SL, 23, 7⟩
def ADC_SL_OFSE : FieldAt := ⟨R.ADC_SL, 8, 8⟩
def ADC_SL_GERR : FieldAt := ⟨R.ADC_SL, 0, 8⟩
def ADC_SPCFG_SWTRIG : FieldAt := ⟨R.ADC_SPCFG, 31, 1⟩
def ADC_SPCFG_IIE : FieldAt := ⟨R.ADC_SPCFG, 30, 1⟩
def ADC_SPCFG_FIR : FieldAt := ⟨R.ADC_SPCFG, 16, 1⟩
def ADC_SPCFG_OSR : FieldAt := ⟨R.ADC_SPCFG, 12, 3⟩
def ADC_SPCFG_NREG : FieldAt := ⟨R.ADC_SPCFG, 8, 2⟩
def ADC_RSEQ_ENTRY : FieldAt := ⟨R.ADC_RSEQ, 0, 32⟩
def ADC_ISEQ_TSRC : FieldAt := ⟨R.ADC_ISEQ, 30, 2⟩
def ADC_ISEQ_TSEL : FieldAt := ⟨R.ADC_ISEQ, 21, 9⟩
def ADC_ISEQ_FIR : FieldAt := ⟨R.ADC_ISEQ, 20, 1⟩
def ADC_ISEQ_OSR : FieldAt := ⟨R.ADC_ISEQ, 16, 3⟩
def ADC_ISEQ_NINJ : FieldAt := ⟨R.ADC_ISEQ, 8, 2⟩
def ADC_ISEQ_MUX : FieldAt := ⟨R.ADC_ISEQ, 0, 8⟩
def ADC_K_K : FieldAt := ⟨R.ADC_K, 0, 24⟩
def ADC_OFS_OFS : FieldAt := ⟨R.ADC_OFS, 0, 21⟩
def ADC_SPSTAT_IPEND : FieldAt := ⟨R.ADC_SPSTAT, 8, 1⟩
def ADC_SPSTAT_IACT : FieldAt := ⟨R.ADC_SPSTAT, 7, 1⟩
def ADC_SPSTAT_SETTLE : FieldAt := ⟨R.ADC_SPSTAT, 6, 1⟩
def ADC_SPSTAT_STALE : FieldAt := ⟨R.ADC_SPSTAT, 5, 1⟩
def ADC_SPSTAT_IDONE : FieldAt := ⟨R.ADC_SPSTAT, 4, 1⟩
def ADC_SPSTAT_INJOVR : FieldAt := ⟨R.ADC_SPSTAT, 3, 1⟩
def ADC_SPSTAT_OVR : FieldAt := ⟨R.ADC_SPSTAT, 2, 1⟩
def ADC_SPSTAT_ENTRY : FieldAt := ⟨R.ADC_SPSTAT, 0, 2⟩
def ADC_RES0_RESULT : FieldAt := ⟨R.ADC_RES0, 0, 32⟩
def ADC_RES1_RESULT : FieldAt := ⟨R.ADC_RES1, 0, 32⟩
def ADC_RES2_RESULT : FieldAt := ⟨R.ADC_RES2, 0, 32⟩
def ADC_RES3_RESULT : FieldAt := ⟨R.ADC_RES3, 0, 32⟩
def ADC_INJR0_RESULT : FieldAt := ⟨R.ADC_INJR0, 0, 32⟩
def ADC_INJR1_RESULT : FieldAt := ⟨R.ADC_INJR1, 0, 32⟩
def ADC_INJR2_RESULT : FieldAt := ⟨R.ADC_INJR2, 0, 32⟩
def ADC_INJR3_RESULT : FieldAt := ⟨R.ADC_INJR3, 0, 32⟩
def ADC_PROG_ITEM : FieldAt := ⟨R.ADC_PROG, 14, 18⟩
def ADC_PROG_PCT : FieldAt := ⟨R.ADC_PROG, 0, 14⟩
def WMON_CFG_EN : FieldAt := ⟨R.WMON_CFG, 31, 1⟩
def WMON_CFG_FLTEN : FieldAt := ⟨R.WMON_CFG, 30, 1⟩
def WMON_CFG_SEV : FieldAt := ⟨R.WMON_CFG, 27, 3⟩
def WMON_CFG_IE : FieldAt := ⟨R.WMON_CFG, 26, 1⟩
def WMON_CFG_TRIPEN : FieldAt := ⟨R.WMON_CFG, 25, 1⟩
def WMON_CFG_ACT : FieldAt := ⟨R.WMON_CFG, 24, 1⟩
def WMON_CFG_RAIL : FieldAt := ⟨R.WMON_CFG, 18, 6⟩
def WMON_CFG_MODE : FieldAt := ⟨R.WMON_CFG, 16, 2⟩
def WMON_CFG_LMODE : FieldAt := ⟨R.WMON_CFG, 14, 2⟩
def WMON_CFG_NFILT : FieldAt := ⟨R.WMON_CFG, 10, 4⟩
def WMON_CFG_HYS : FieldAt := ⟨R.WMON_CFG, 6, 4⟩
def WMON_THR_TH : FieldAt := ⟨R.WMON_THR, 16, 10⟩
def WMON_THR_TL : FieldAt := ⟨R.WMON_THR, 0, 10⟩
def WMON_TIM_STUCK_T : FieldAt := ⟨R.WMON_TIM, 16, 16⟩
def WMON_TIM_CHAT_W : FieldAt := ⟨R.WMON_TIM, 8, 8⟩
def WMON_TIM_CHATMAX : FieldAt := ⟨R.WMON_TIM, 0, 8⟩
def WMON_CLR_CLR : FieldAt := ⟨R.WMON_CLR, 31, 1⟩
def WMON_CLR_CLRPH : FieldAt := ⟨R.WMON_CLR, 0, 7⟩
def WMON_ST_HITS : FieldAt := ⟨R.WMON_ST, 16, 16⟩
def WMON_ST_ARMED : FieldAt := ⟨R.WMON_ST, 7, 1⟩
def WMON_ST_INIT : FieldAt := ⟨R.WMON_ST, 6, 1⟩
def WMON_ST_FILT : FieldAt := ⟨R.WMON_ST, 5, 1⟩
def WMON_ST_OUT : FieldAt := ⟨R.WMON_ST, 4, 1⟩
def WMON_ST_CHATTER : FieldAt := ⟨R.WMON_ST, 3, 1⟩
def WMON_ST_STUCK : FieldAt := ⟨R.WMON_ST, 2, 1⟩
def WMON_ST_STILL : FieldAt := ⟨R.WMON_ST, 1, 1⟩
def WMON_SUM_OUT : FieldAt := ⟨R.WMON_SUM, 0, 32⟩
def WMON_STAT_CHATTER : FieldAt := ⟨R.WMON_STAT, 3, 1⟩
def WMON_STAT_STUCK : FieldAt := ⟨R.WMON_STAT, 2, 1⟩
def WMON_STAT_HIT : FieldAt := ⟨R.WMON_STAT, 1, 1⟩
def WMON_STAT_REFUSED : FieldAt := ⟨R.WMON_STAT, 0, 1⟩
def FLT_CTRL_HCORE : FieldAt := ⟨R.FLT_CTRL, 4, 2⟩
def FLT_CTRL_XF : FieldAt := ⟨R.FLT_CTRL, 0, 1⟩
def FLT_STAT_DEVICE : FieldAt := ⟨R.FLT_STAT, 6, 1⟩
def FLT_STAT_INH : FieldAt := ⟨R.FLT_STAT, 5, 1⟩
def FLT_STAT_REFUSED : FieldAt := ⟨R.FLT_STAT, 4, 1⟩
def FLT_STAT_HFAULT : FieldAt := ⟨R.FLT_STAT, 3, 1⟩
def FLT_STAT_OVF : FieldAt := ⟨R.FLT_STAT, 2, 1⟩
def FLT_STAT_ESC : FieldAt := ⟨R.FLT_STAT, 1, 1⟩
def FLT_STAT_NEW : FieldAt := ⟨R.FLT_STAT, 0, 1⟩
def FLT_QLEV_LEV : FieldAt := ⟨R.FLT_QLEV, 0, 30⟩
def FLT_NEXT_VALID : FieldAt := ⟨R.FLT_NEXT, 31, 1⟩
def FLT_NEXT_SEV : FieldAt := ⟨R.FLT_NEXT, 26, 3⟩
def FLT_NEXT_RAIL : FieldAt := ⟨R.FLT_NEXT, 16, 6⟩
def FLT_NEXT_CODE : FieldAt := ⟨R.FLT_NEXT, 0, 16⟩
def FLT_NSEQ_SEQ : FieldAt := ⟨R.FLT_NSEQ, 0, 32⟩
def FLT_ACK_RAISE : FieldAt := ⟨R.FLT_ACK, 3, 1⟩
def FLT_ACK_SEV : FieldAt := ⟨R.FLT_ACK, 0, 3⟩
def FLT_SEV0_POL : FieldAt := ⟨R.FLT_SEV0, 0, 32⟩
def FLT_SEV1_POL : FieldAt := ⟨R.FLT_SEV1, 0, 32⟩
def FLT_DEVCLR_CLR : FieldAt := ⟨R.FLT_DEVCLR, 0, 1⟩
def FLT_CNT_COUNT : FieldAt := ⟨R.FLT_CNT, 0, 32⟩
def GRN_CTRL_MSEV : FieldAt := ⟨R.GRN_CTRL, 8, 3⟩
def GRN_CTRL_MEN : FieldAt := ⟨R.GRN_CTRL, 1, 1⟩
def GRN_CTRL_FREEZE : FieldAt := ⟨R.GRN_CTRL, 0, 1⟩
def GRN_CFG_RWIN : FieldAt := ⟨R.GRN_CFG, 0, 16⟩
def GRN_STAT_PEND : FieldAt := ⟨R.GRN_STAT, 8, 7⟩
def GRN_STAT_FROZEN : FieldAt := ⟨R.GRN_STAT, 4, 1⟩
def GRN_STAT_REFUSED : FieldAt := ⟨R.GRN_STAT, 3, 1⟩
def GRN_STAT_FRZTO : FieldAt := ⟨R.GRN_STAT, 2, 1⟩
def GRN_STAT_LOST : FieldAt := ⟨R.GRN_STAT, 1, 1⟩
def GRN_HEAD_SEQ : FieldAt := ⟨R.GRN_HEAD, 0, 32⟩
def GRN_TAIL_SEQ : FieldAt := ⟨R.GRN_TAIL, 0, 32⟩
def GRN_LOST_COUNT : FieldAt := ⟨R.GRN_LOST, 0, 32⟩
def GRN_MCNT_MDROP : FieldAt := ⟨R.GRN_MCNT, 16, 16⟩
def GRN_MCNT_USED : FieldAt := ⟨R.GRN_MCNT, 0, 12⟩
def GRN_SWD_DATA : FieldAt := ⟨R.GRN_SWD, 0, 32⟩
def GRN_SWEV_SEV : FieldAt := ⟨R.GRN_SWEV, 16, 3⟩
def GRN_SWEV_EVENT : FieldAt := ⟨R.GRN_SWEV, 0, 10⟩
def NVM_CTRL_RESCAN : FieldAt := ⟨R.NVM_CTRL, 4, 1⟩
def NVM_CTRL_COMMIT : FieldAt := ⟨R.NVM_CTRL, 3, 1⟩
def NVM_CTRL_SABORT : FieldAt := ⟨R.NVM_CTRL, 2, 1⟩
def NVM_CTRL_SCRUB : FieldAt := ⟨R.NVM_CTRL, 1, 1⟩
def NVM_STAT_READY : FieldAt := ⟨R.NVM_STAT, 11, 1⟩
def NVM_STAT_RECALL : FieldAt := ⟨R.NVM_STAT, 10, 1⟩
def NVM_STAT_HELD : FieldAt := ⟨R.NVM_STAT, 9, 1⟩
def NVM_STAT_SEQEND : FieldAt := ⟨R.NVM_STAT, 8, 1⟩
def NVM_STAT_WRAP : FieldAt := ⟨R.NVM_STAT, 7, 1⟩
def NVM_STAT_CARRY : FieldAt := ⟨R.NVM_STAT, 6, 1⟩
def NVM_STAT_TIE : FieldAt := ⟨R.NVM_STAT, 5, 1⟩
def NVM_STAT_PROTW : FieldAt := ⟨R.NVM_STAT, 4, 1⟩
def NVM_STAT_UE : FieldAt := ⟨R.NVM_STAT, 3, 1⟩
def NVM_STAT_CE : FieldAt := ⟨R.NVM_STAT, 2, 1⟩
def NVM_STAT_SDONE : FieldAt := ⟨R.NVM_STAT, 1, 1⟩
def NVM_STAT_REFUSED : FieldAt := ⟨R.NVM_STAT, 0, 1⟩
def NVM_PROT_LOCK : FieldAt := ⟨R.NVM_PROT, 31, 1⟩
def NVM_PROT_BP : FieldAt := ⟨R.NVM_PROT, 0, 2⟩
def NVM_ECCADDR_ADDR : FieldAt := ⟨R.NVM_ECCADDR, 0, 32⟩
def NVM_ECCCNT_UE : FieldAt := ⟨R.NVM_ECCCNT, 16, 16⟩
def NVM_ECCCNT_CE : FieldAt := ⟨R.NVM_ECCCNT, 0, 16⟩
def NVM_CCFG_CEN : FieldAt := ⟨R.NVM_CCFG, 31, 1⟩
def NVM_CCFG_INT : FieldAt := ⟨R.NVM_CCFG, 0, 8⟩
def NVM_LCSEL_FAM : FieldAt := ⟨R.NVM_LCSEL, 8, 2⟩
def NVM_LCSEL_IDX : FieldAt := ⟨R.NVM_LCSEL, 0, 7⟩
def NVM_LCLO_VALUE : FieldAt := ⟨R.NVM_LCLO, 0, 32⟩
def NVM_LCHI_VALUE : FieldAt := ⟨R.NVM_LCHI, 0, 32⟩
def NVM_SADDR_ADDR : FieldAt := ⟨R.NVM_SADDR, 0, 18⟩
def NVM_SDATA_BYTE : FieldAt := ⟨R.NVM_SDATA, 0, 8⟩
def NVM_RWR_GO : FieldAt := ⟨R.NVM_RWR, 31, 1⟩
def NVM_RWR_RESULT : FieldAt := ⟨R.NVM_RWR, 28, 3⟩
def NVM_RWR_GRP : FieldAt := ⟨R.NVM_RWR, 16, 5⟩
def NVM_RWR_LEN : FieldAt := ⟨R.NVM_RWR, 0, 12⟩
def NVM_RWSRC_SRC : FieldAt := ⟨R.NVM_RWSRC, 0, 32⟩
def NVM_RGS_STATE : FieldAt := ⟨R.NVM_RGS, 30, 2⟩
def NVM_RGS_TIE : FieldAt := ⟨R.NVM_RGS, 29, 1⟩
def NVM_RGS_SLOT : FieldAt := ⟨R.NVM_RGS, 0, 8⟩
def NVM_RGQ_SEQ : FieldAt := ⟨R.NVM_RGQ, 0, 32⟩
def NVM_PROG_ITEM : FieldAt := ⟨R.NVM_PROG, 14, 18⟩
def NVM_PROG_PCT : FieldAt := ⟨R.NVM_PROG, 0, 14⟩
def PMB_CTRL_WP : FieldAt := ⟨R.PMB_CTRL, 8, 8⟩
def PMB_CTRL_ALEN : FieldAt := ⟨R.PMB_CTRL, 4, 1⟩
def PMB_CTRL_CFRAIL : FieldAt := ⟨R.PMB_CTRL, 3, 1⟩
def PMB_CTRL_COR : FieldAt := ⟨R.PMB_CTRL, 2, 1⟩
def PMB_CTRL_PECREQ : FieldAt := ⟨R.PMB_CTRL, 1, 1⟩
def PMB_CTRL_EN : FieldAt := ⟨R.PMB_CTRL, 0, 1⟩
def PMB_CFG_MBT : FieldAt := ⟨R.PMB_CFG, 16, 5⟩
def PMB_CFG_GF : FieldAt := ⟨R.PMB_CFG, 12, 4⟩
def PMB_CFG_SPEED : FieldAt := ⟨R.PMB_CFG, 8, 2⟩
def PMB_CFG_BASE : FieldAt := ⟨R.PMB_CFG, 3, 4⟩
def PMB_STAT_PAGE : FieldAt := ⟨R.PMB_STAT, 24, 8⟩
def PMB_STAT_CML : FieldAt := ⟨R.PMB_STAT, 16, 8⟩
def PMB_STAT_ADDR : FieldAt := ⟨R.PMB_STAT, 8, 7⟩
def PMB_STAT_REFUSED : FieldAt := ⟨R.PMB_STAT, 4, 1⟩
def PMB_STAT_MBLATE : FieldAt := ⟨R.PMB_STAT, 3, 1⟩
def PMB_STAT_VIOL : FieldAt := ⟨R.PMB_STAT, 2, 1⟩
def PMB_STAT_SDALTO : FieldAt := ⟨R.PMB_STAT, 1, 1⟩
def PMB_STAT_SCLTO : FieldAt := ⟨R.PMB_STAT, 0, 1⟩
def PMB_MBIN_FULL : FieldAt := ⟨R.PMB_MBIN, 31, 1⟩
def PMB_MBIN_RD : FieldAt := ⟨R.PMB_MBIN, 30, 1⟩
def PMB_MBIN_PECOK : FieldAt := ⟨R.PMB_MBIN, 29, 1⟩
def PMB_MBIN_LEN : FieldAt := ⟨R.PMB_MBIN, 16, 6⟩
def PMB_MBIN_PAGE : FieldAt := ⟨R.PMB_MBIN, 8, 8⟩
def PMB_MBIN_CODE : FieldAt := ⟨R.PMB_MBIN, 0, 8⟩
def PMB_MBIND_DATA : FieldAt := ⟨R.PMB_MBIND, 0, 32⟩
def PMB_MBOUT_READY : FieldAt := ⟨R.PMB_MBOUT, 31, 1⟩
def PMB_MBOUT_LEN : FieldAt := ⟨R.PMB_MBOUT, 0, 6⟩
def PMB_MBOUTD_DATA : FieldAt := ⟨R.PMB_MBOUTD, 0, 32⟩
def PMB_VCNT_COUNT : FieldAt := ⟨R.PMB_VCNT, 0, 16⟩
def PMB_OP_MARGACT : FieldAt := ⟨R.PMB_OP, 16, 1⟩
def PMB_OP_ONOFF : FieldAt := ⟨R.PMB_OP, 8, 8⟩
def PMB_OP_OPER : FieldAt := ⟨R.PMB_OP, 0, 8⟩
def PMB_MARG_HIGH : FieldAt := ⟨R.PMB_MARG, 16, 16⟩
def PMB_MARG_LOW : FieldAt := ⟨R.PMB_MARG, 0, 16⟩
def PMB_OV_OV : FieldAt := ⟨R.PMB_OV, 0, 20⟩
def PMB_OC_OC : FieldAt := ⟨R.PMB_OC, 0, 24⟩
def PMB_OT_OT : FieldAt := ⟨R.PMB_OT, 0, 16⟩
def PMB_ST_PGN : FieldAt := ⟨R.PMB_ST, 25, 1⟩
def PMB_ST_OFF : FieldAt := ⟨R.PMB_ST, 24, 1⟩
def PMB_ST_TEMP : FieldAt := ⟨R.PMB_ST, 16, 8⟩
def PMB_ST_IOUT : FieldAt := ⟨R.PMB_ST, 8, 8⟩
def PMB_ST_VOUT : FieldAt := ⟨R.PMB_ST, 0, 8⟩
def PMC_CFG_ARAEN : FieldAt := ⟨R.PMC_CFG, 11, 1⟩
def PMC_CFG_RETRY : FieldAt := ⟨R.PMC_CFG, 8, 3⟩
def PMC_CFG_GF : FieldAt := ⟨R.PMC_CFG, 4, 4⟩
def PMC_CFG_SPEED : FieldAt := ⟨R.PMC_CFG, 1, 2⟩
def PMC_CFG_EN : FieldAt := ⟨R.PMC_CFG, 0, 1⟩
def PMC_CMD_GO : FieldAt := ⟨R.PMC_CMD, 31, 1⟩
def PMC_CMD_PEC : FieldAt := ⟨R.PMC_CMD, 30, 1⟩
def PMC_CMD_CMDEN : FieldAt := ⟨R.PMC_CMD, 29, 1⟩
def PMC_CMD_ADDR : FieldAt := ⟨R.PMC_CMD, 22, 7⟩
def PMC_CMD_CMD : FieldAt := ⟨R.PMC_CMD, 14, 8⟩
def PMC_CMD_WLEN : FieldAt := ⟨R.PMC_CMD, 8, 6⟩
def PMC_CMD_RLEN : FieldAt := ⟨R.PMC_CMD, 0, 6⟩
def PMC_STAT_NACKAT : FieldAt := ⟨R.PMC_STAT, 10, 6⟩
def PMC_STAT_BUSY : FieldAt := ⟨R.PMC_STAT, 9, 1⟩
def PMC_STAT_BUS_STUCK : FieldAt := ⟨R.PMC_STAT, 8, 1⟩
def PMC_STAT_REFUSED : FieldAt := ⟨R.PMC_STAT, 7, 1⟩
def PMC_STAT_TOUT : FieldAt := ⟨R.PMC_STAT, 6, 1⟩
def PMC_STAT_PECERR : FieldAt := ⟨R.PMC_STAT, 5, 1⟩
def PMC_STAT_ARBLOST : FieldAt := ⟨R.PMC_STAT, 4, 1⟩
def PMC_STAT_NACK : FieldAt := ⟨R.PMC_STAT, 3, 1⟩
def PMC_STAT_DONE : FieldAt := ⟨R.PMC_STAT, 0, 1⟩
def PMC_BUF_DATA : FieldAt := ⟨R.PMC_BUF, 0, 32⟩
def PMC_APRI_PRI : FieldAt := ⟨R.PMC_APRI, 0, 32⟩
def PMC_ALIST_VALID : FieldAt := ⟨R.PMC_ALIST, 31, 1⟩
def PMC_ALIST_COUNT : FieldAt := ⟨R.PMC_ALIST, 16, 4⟩
def PMC_ALIST_ADDR : FieldAt := ⟨R.PMC_ALIST, 0, 7⟩
def LCP_CFG_EN : FieldAt := ⟨R.LCP_CFG, 31, 1⟩
def LCP_CFG_AMASK : FieldAt := ⟨R.LCP_CFG, 0, 4⟩
def LCP_RMLO_MASK : FieldAt := ⟨R.LCP_RMLO, 0, 32⟩
def LCP_RMHI_MASK : FieldAt := ⟨R.LCP_RMHI, 0, 31⟩
def LCP_STAT_LASTOP : FieldAt := ⟨R.LCP_STAT, 24, 8⟩
def LCP_STAT_LASTCODE : FieldAt := ⟨R.LCP_STAT, 19, 5⟩
def LCP_STAT_ALAT : FieldAt := ⟨R.LCP_STAT, 4, 4⟩
def LCP_STAT_REFUSED : FieldAt := ⟨R.LCP_STAT, 3, 1⟩
def LCP_STAT_TOUT : FieldAt := ⟨R.LCP_STAT, 2, 1⟩
def LCP_STAT_VIOL : FieldAt := ⟨R.LCP_STAT, 1, 1⟩
def LCP_VCNT1_BADCRC : FieldAt := ⟨R.LCP_VCNT1, 16, 16⟩
def LCP_VCNT1_BADSYNC : FieldAt := ⟨R.LCP_VCNT1, 8, 8⟩
def LCP_VCNT2_RSVOP : FieldAt := ⟨R.LCP_VCNT2, 16, 16⟩
def LCP_VCNT2_SHORT : FieldAt := ⟨R.LCP_VCNT2, 8, 8⟩
def LCP_VCNT3_RAILRANGE : FieldAt := ⟨R.LCP_VCNT3, 16, 16⟩
def LCP_VCNT3_LONG : FieldAt := ⟨R.LCP_VCNT3, 8, 8⟩
def LCP_VCNT3_TOUT : FieldAt := ⟨R.LCP_VCNT3, 0, 8⟩
def LCP_FHOLD0_RAILS : FieldAt := ⟨R.LCP_FHOLD0, 0, 32⟩
def LCP_FHOLD1_RAILS : FieldAt := ⟨R.LCP_FHOLD1, 0, 31⟩
def AUD_PCFG_EN : FieldAt := ⟨R.AUD_PCFG, 31, 1⟩
def AUD_PCFG_SLOTS : FieldAt := ⟨R.AUD_PCFG, 12, 4⟩
def AUD_PCFG_WLEN : FieldAt := ⟨R.AUD_PCFG, 10, 2⟩
def AUD_PCFG_DOZ : FieldAt := ⟨R.AUD_PCFG, 9, 1⟩
def AUD_PCFG_DLY : FieldAt := ⟨R.AUD_PCFG, 8, 1⟩
def AUD_PCFG_FSW : FieldAt := ⟨R.AUD_PCFG, 7, 1⟩
def AUD_PCFG_FSPOL : FieldAt := ⟨R.AUD_PCFG, 6, 1⟩
def AUD_PCFG_BPOL : FieldAt := ⟨R.AUD_PCFG, 5, 1⟩
def AUD_PCFG_FMT : FieldAt := ⟨R.AUD_PCFG, 0, 2⟩
def AUD_PSTAT_PART : FieldAt := ⟨R.AUD_PSTAT, 16, 16⟩
def AUD_PSTAT_MASTER : FieldAt := ⟨R.AUD_PSTAT, 3, 1⟩
def AUD_PSTAT_LOST : FieldAt := ⟨R.AUD_PSTAT, 2, 1⟩
def AUD_PSTAT_LONG : FieldAt := ⟨R.AUD_PSTAT, 1, 1⟩
def AUD_PSTAT_BCLKOK : FieldAt := ⟨R.AUD_PSTAT, 0, 1⟩
def AUD_GFS_FS : FieldAt := ⟨R.AUD_GFS, 0, 3⟩
def AUD_CTRL_MDIV : FieldAt := ⟨R.AUD_CTRL, 1, 2⟩
def AUD_CTRL_MCLKOE : FieldAt := ⟨R.AUD_CTRL, 0, 1⟩
def AUD_MCLKF_F : FieldAt := ⟨R.AUD_MCLKF, 0, 24⟩
def AUD_STAT_PLOST : FieldAt := ⟨R.AUD_STAT, 1, 1⟩
def AUD_STAT_REFUSED : FieldAt := ⟨R.AUD_STAT, 0, 1⟩
def AUD_CHSRC_EN : FieldAt := ⟨R.AUD_CHSRC, 31, 1⟩
def AUD_CHSRC_PORT : FieldAt := ⟨R.AUD_CHSRC, 4, 3⟩
def AUD_CHSRC_SLOT : FieldAt := ⟨R.AUD_CHSRC, 0, 4⟩
def HSP_STAT_UNDER : FieldAt := ⟨R.HSP_STAT, 1, 1⟩
def HSP_STAT_ERR : FieldAt := ⟨R.HSP_STAT, 0, 1⟩
def YDP_CTRL_STEPIM : FieldAt := ⟨R.YDP_CTRL, 2, 1⟩
def YDP_CTRL_LOCK : FieldAt := ⟨R.YDP_CTRL, 1, 1⟩
def YDP_CTRL_DIS : FieldAt := ⟨R.YDP_CTRL, 0, 1⟩
def YDP_STAT_BPHIT : FieldAt := ⟨R.YDP_STAT, 8, 4⟩
def YDP_STAT_BERR : FieldAt := ⟨R.YDP_STAT, 6, 1⟩
def YDP_STAT_BHALT : FieldAt := ⟨R.YDP_STAT, 5, 1⟩
def YDP_STAT_HALT : FieldAt := ⟨R.YDP_STAT, 0, 4⟩
def YDP_BP_ADDR : FieldAt := ⟨R.YDP_BP, 2, 30⟩
def YDP_BP_EN : FieldAt := ⟨R.YDP_BP, 0, 1⟩
def TMR_CTL_EN : FieldAt := ⟨R.TMR_CTL, 31, 1⟩
def TMR_CTL_PER : FieldAt := ⟨R.TMR_CTL, 30, 1⟩
def TMR_CTL_IE : FieldAt := ⟨R.TMR_CTL, 29, 1⟩
def TMR_CTL_FLAG : FieldAt := ⟨R.TMR_CTL, 28, 1⟩
def TMR_CTL_PRE : FieldAt := ⟨R.TMR_CTL, 0, 8⟩
def TMR_LOAD_LOAD : FieldAt := ⟨R.TMR_LOAD, 0, 32⟩
def TMR_CNT_CNT : FieldAt := ⟨R.TMR_CNT, 0, 32⟩
def TMR_TIMELO_TIME : FieldAt := ⟨R.TMR_TIMELO, 0, 32⟩
def TMR_TIMEHI_TIME : FieldAt := ⟨R.TMR_TIMEHI, 0, 16⟩
def TMR_WDCFG_EN : FieldAt := ⟨R.TMR_WDCFG, 31, 1⟩
def TMR_WDCFG_RST : FieldAt := ⟨R.TMR_WDCFG, 30, 1⟩
def TMR_WDCFG_LOCK : FieldAt := ⟨R.TMR_WDCFG, 29, 1⟩
def TMR_WDCFG_WARN : FieldAt := ⟨R.TMR_WDCFG, 16, 13⟩
def TMR_WDCFG_TIMEOUT : FieldAt := ⟨R.TMR_WDCFG, 0, 16⟩
def TMR_WDKICK_KICK : FieldAt := ⟨R.TMR_WDKICK, 0, 32⟩
def TMR_WDCNT_LEFT : FieldAt := ⟨R.TMR_WDCNT, 0, 24⟩
def TMR_STAT_REFUSED : FieldAt := ⟨R.TMR_STAT, 8, 1⟩
def TMR_STAT_WDEXP : FieldAt := ⟨R.TMR_STAT, 4, 4⟩
def TMR_STAT_WDWARN : FieldAt := ⟨R.TMR_STAT, 0, 4⟩
def GPIO_CFG_IE : FieldAt := ⟨R.GPIO_CFG, 12, 1⟩
def GPIO_CFG_EDGE : FieldAt := ⟨R.GPIO_CFG, 10, 2⟩
def GPIO_CFG_FLT : FieldAt := ⟨R.GPIO_CFG, 6, 4⟩
def GPIO_CFG_PULL : FieldAt := ⟨R.GPIO_CFG, 4, 2⟩
def GPIO_CFG_MODE : FieldAt := ⟨R.GPIO_CFG, 0, 2⟩
def GPIO_IN_IN : FieldAt := ⟨R.GPIO_IN, 0, 16⟩
def GPIO_OUT_OUT : FieldAt := ⟨R.GPIO_OUT, 0, 16⟩
def GPIO_FLAG_REFUSED : FieldAt := ⟨R.GPIO_FLAG, 16, 1⟩
def GPIO_FLAG_FLAG : FieldAt := ⟨R.GPIO_FLAG, 0, 16⟩
def GPIO_PDW_W : FieldAt := ⟨R.GPIO_PDW, 0, 16⟩
def GPIO_PD_VALID : FieldAt := ⟨R.GPIO_PD, 31, 1⟩
def GPIO_PD_PD : FieldAt := ⟨R.GPIO_PD, 0, 16⟩
end F

/-- Field tables of the SYS block. -/
def regsSYS : List RegSpec := [
  ⟨R.SYS_ID, [⟨F.SYS_ID_PART, .ro, 36963⟩, ⟨F.SYS_ID_REV, .ro, 0⟩]⟩,
  ⟨R.SYS_RSTCAUSE, [⟨F.SYS_RSTCAUSE_CAUSE, .rws, 0⟩]⟩,
  ⟨R.SYS_RST, [⟨F.SYS_RST_KEY, .wo, 0⟩, ⟨F.SYS_RST_CORE, .wo, 0⟩, ⟨F.SYS_RST_DEV, .wo, 0⟩]⟩,
  ⟨R.SYS_SUPST, [⟨F.SYS_SUPST_PFIN, .w1c, 0⟩, ⟨F.SYS_SUPST_WARN, .w1c, 0⟩, ⟨F.SYS_SUPST_OK, .ro, 0⟩]⟩,
  ⟨R.SYS_BOOT, [⟨F.SYS_BOOT_STATE, .ro, 0⟩, ⟨F.SYS_BOOT_SRC, .ro, 0⟩, ⟨F.SYS_BOOT_STRAP, .rws, 0⟩, ⟨F.SYS_BOOT_ERR, .ro, 0⟩]⟩,
  ⟨R.SYS_BOOTGO, [⟨F.SYS_BOOTGO_LEN, .wo, 0⟩]⟩,
  ⟨R.SYS_BOOTVER, [⟨F.SYS_BOOTVER_VERSION, .ro, 0⟩]⟩,
  ⟨R.SYS_CSTART, [⟨F.SYS_CSTART_ADDR, .rws, 0⟩]⟩,
  ⟨R.SYS_PWRREQ, [⟨F.SYS_PWRREQ_REQ, .rw, 0⟩]⟩,
  ⟨R.SYS_PWRST, [⟨F.SYS_PWRST_FORCED, .w1c, 0⟩, ⟨F.SYS_PWRST_DONE, .w1c, 0⟩, ⟨F.SYS_PWRST_OFF, .ro, 0⟩]⟩,
  ⟨R.SYS_STBY, [⟨F.SYS_STBY_WOKE, .w1c, 0⟩, ⟨F.SYS_STBY_GO, .w1s, 0⟩]⟩,
  ⟨R.SYS_CTRL, [⟨F.SYS_CTRL_PG, .rw, 0⟩]⟩,
  ⟨R.SYS_STAT, [⟨F.SYS_STAT_REFUSED, .w1c, 0⟩]⟩,
  ⟨R.SYS_HIRQ, [⟨F.SYS_HIRQ_HIRQ, .rw, 0⟩]⟩,
  ⟨R.SYS_TEST, [⟨F.SYS_TEST_GO, .w1s, 0⟩, ⟨F.SYS_TEST_RESULT, .ro, 0⟩, ⟨F.SYS_TEST_FSTEP, .ro, 0⟩, ⟨F.SYS_TEST_REG, .rw, 0⟩, ⟨F.SYS_TEST_TEST, .rw, 1⟩]⟩,
  ⟨R.SYS_PROG_LOAD, [⟨F.SYS_PROG_LOAD_ITEM, .ro, 0⟩, ⟨F.SYS_PROG_LOAD_PCT, .ro, 0⟩]⟩,
  ⟨R.SYS_PROG_TEST, [⟨F.SYS_PROG_TEST_ITEM, .ro, 0⟩, ⟨F.SYS_PROG_TEST_PCT, .ro, 0⟩]⟩]

/-- Field tables of the ICU block. -/
def regsICU : List RegSpec := [
  ⟨R.IC_CFG, [⟨F.IC_CFG_ETGT, .ro, 0⟩, ⟨F.IC_CFG_TGT, .rw, 0⟩, ⟨F.IC_CFG_PRI, .rw, 0⟩]⟩,
  ⟨R.IC_PEND, [⟨F.IC_PEND_PEND, .rw, 0⟩]⟩,
  ⟨R.IC_EN, [⟨F.IC_EN_EN, .rw, 0⟩]⟩,
  ⟨R.IC_SW, [⟨F.IC_SW_SW, .rw, 0⟩]⟩,
  ⟨R.IC_CPEND0, [⟨F.IC_CPEND0_VIEW, .ro, 0⟩]⟩,
  ⟨R.IC_CPEND1, [⟨F.IC_CPEND1_VIEW, .ro, 0⟩]⟩,
  ⟨R.IC_CPEND2, [⟨F.IC_CPEND2_VIEW, .ro, 0⟩]⟩,
  ⟨R.IC_CPEND3, [⟨F.IC_CPEND3_VIEW, .ro, 0⟩]⟩,
  ⟨R.IC_EOI, []⟩,
  ⟨R.IC_RPRI, [⟨F.IC_RPRI_HPEND, .ro, 31⟩, ⟨F.IC_RPRI_DEPTH, .ro, 0⟩, ⟨F.IC_RPRI_HELD, .ro, 0⟩]⟩,
  ⟨R.IC_STK, [⟨F.IC_STK_HPEND, .ro, 31⟩, ⟨F.IC_STK_DEPTH, .ro, 0⟩, ⟨F.IC_STK_HELD, .ro, 0⟩]⟩,
  ⟨R.IC_GDIS, [⟨F.IC_GDIS_MAXT, .rw, 100⟩, ⟨F.IC_GDIS_DIS, .rw, 0⟩]⟩,
  ⟨R.IC_FALLBACK, [⟨F.IC_FALLBACK_CORE, .rw, 0⟩]⟩,
  ⟨R.IC_STAT, [⟨F.IC_STAT_REFUSED, .w1c, 0⟩, ⟨F.IC_STAT_GDISTO, .w1c, 0⟩, ⟨F.IC_STAT_REDIR, .w1c, 0⟩, ⟨F.IC_STAT_EOIEMPTY, .w1c, 0⟩]⟩,
  ⟨R.IC_SEM, [⟨F.IC_SEM_GOT, .ro, 0⟩, ⟨F.IC_SEM_BUSY, .ro, 0⟩, ⟨F.IC_SEM_OWNER, .rw, 0⟩]⟩,
  ⟨R.IC_SEMREL, [⟨F.IC_SEMREL_REL, .w1c, 0⟩]⟩,
  ⟨R.IC_SEMFREE, [⟨F.IC_SEMFREE_FREE, .wo, 0⟩]⟩]

/-- Field tables of the DMA block. -/
def regsDMA : List RegSpec := [
  ⟨R.DMA_CTRL, [⟨F.DMA_CTRL_EN, .rw, 0⟩]⟩,
  ⟨R.DMA_STAT, [⟨F.DMA_STAT_REFUSED, .w1c, 0⟩]⟩,
  ⟨R.DMA_ACT, [⟨F.DMA_ACT_ACT, .ro, 0⟩]⟩,
  ⟨R.DMA_CCFG, [⟨F.DMA_CCFG_HP, .rw, 0⟩, ⟨F.DMA_CCFG_RETRY, .rw, 3⟩, ⟨F.DMA_CCFG_BURST, .rw, 7⟩, ⟨F.DMA_CCFG_SHARE, .rw, 63⟩, ⟨F.DMA_CCFG_TSRC, .rw, 0⟩, ⟨F.DMA_CCFG_TSEL, .rw, 0⟩, ⟨F.DMA_CCFG_IE, .rw, 0⟩]⟩,
  ⟨R.DMA_CCMD, [⟨F.DMA_CCMD_ADDR, .wo, 0⟩, ⟨F.DMA_CCMD_SWTRG, .wo, 0⟩, ⟨F.DMA_CCMD_ABORT, .wo, 0⟩, ⟨F.DMA_CCMD_GO, .wo, 0⟩]⟩,
  ⟨R.DMA_CSTAT, [⟨F.DMA_CSTAT_STATE, .ro, 0⟩, ⟨F.DMA_CSTAT_CODE, .ro, 0⟩, ⟨F.DMA_CSTAT_TRGPEND, .ro, 0⟩, ⟨F.DMA_CSTAT_TRGOVR, .w1c, 0⟩, ⟨F.DMA_CSTAT_MIS, .w1c, 0⟩, ⟨F.DMA_CSTAT_HALT, .w1c, 0⟩, ⟨F.DMA_CSTAT_END, .w1c, 0⟩, ⟨F.DMA_CSTAT_DONE, .w1c, 0⟩]⟩,
  ⟨R.DMA_CDESC, [⟨F.DMA_CDESC_DESC, .ro, 0⟩]⟩,
  ⟨R.DMA_CREM, [⟨F.DMA_CREM_REM, .ro, 0⟩]⟩,
  ⟨R.DMA_CERRA, [⟨F.DMA_CERRA_ADDR, .ro, 0⟩]⟩,
  ⟨R.DMA_CMISA, [⟨F.DMA_CMISA_ADDR, .ro, 0⟩]⟩,
  ⟨R.DMA_CMISC, [⟨F.DMA_CMISC_COUNT, .rw, 0⟩]⟩]

/-- Field tables of the TB block. -/
def regsTB : List RegSpec := [
  ⟨R.TB_CFG, [⟨F.TB_CFG_EXT, .rw, 0⟩, ⟨F.TB_CFG_RSEL, .rw, 0⟩]⟩,
  ⟨R.TB_STAT, [⟨F.TB_STAT_REFUSED, .w1c, 0⟩, ⟨F.TB_STAT_DLLERR, .w1c, 0⟩, ⟨F.TB_STAT_FREQERR, .w1c, 0⟩, ⟨F.TB_STAT_LOST, .w1c, 0⟩, ⟨F.TB_STAT_DLLLOCK, .ro, 0⟩, ⟨F.TB_STAT_REFOK, .ro, 0⟩, ⟨F.TB_STAT_PLLLOCK, .ro, 0⟩]⟩,
  ⟨R.TB_FREF, [⟨F.TB_FREF_F, .ro, 0⟩]⟩,
  ⟨R.TB_DLL, [⟨F.TB_DLL_STEP, .ro, 0⟩]⟩]

/-- Field tables of the PWM block. -/
def regsPWM : List RegSpec := [
  ⟨R.PWM_CFG, [⟨F.PWM_CFG_MINOFF, .rw, 4⟩, ⟨F.PWM_CFG_MINON, .rw, 4⟩, ⟨F.PWM_CFG_PAIRGUARD, .rw, 1⟩, ⟨F.PWM_CFG_CMPBM, .rw, 0⟩, ⟨F.PWM_CFG_SYNC, .rw, 1⟩, ⟨F.PWM_CFG_DSRC, .rw, 0⟩, ⟨F.PWM_CFG_EN, .rw, 0⟩]⟩,
  ⟨R.PWM_PERIOD, [⟨F.PWM_PERIOD_PEND, .ro, 0⟩, ⟨F.PWM_PERIOD_HELD, .ro, 0⟩, ⟨F.PWM_PERIOD_PERIOD, .rw, 1000⟩]⟩,
  ⟨R.PWM_DUTY, [⟨F.PWM_DUTY_VALUE, .rw, 0⟩]⟩,
  ⟨R.PWM_OFFSET, [⟨F.PWM_OFFSET_VALUE, .rw, 0⟩]⟩,
  ⟨R.PWM_CMPB, [⟨F.PWM_CMPB_VALUE, .rw, 0⟩]⟩,
  ⟨R.PWM_ACT, [⟨F.PWM_ACT_VALUE, .ro, 0⟩]⟩,
  ⟨R.PWM_CMPA, [⟨F.PWM_CMPA_VALUE, .ro, 0⟩]⟩,
  ⟨R.PWM_CNT, [⟨F.PWM_CNT_VALUE, .ro, 0⟩]⟩,
  ⟨R.PWM_EVC, [⟨F.PWM_EVC_SIE, .rw, 0⟩, ⟨F.PWM_EVC_IE, .rw, 0⟩, ⟨F.PWM_EVC_PS, .rw, 0⟩]⟩,
  ⟨R.PWM_EVF, [⟨F.PWM_EVF_EVF, .w1c, 0⟩]⟩,
  ⟨R.PWM_BLANK, [⟨F.PWM_BLANK_BLF, .rw, 8⟩, ⟨F.PWM_BLANK_BLR, .rw, 8⟩]⟩,
  ⟨R.PWM_STAT, [⟨F.PWM_STAT_RAIL, .ro, 0⟩, ⟨F.PWM_STAT_ALIGNED, .ro, 0⟩, ⟨F.PWM_STAT_SW, .ro, 0⟩, ⟨F.PWM_STAT_SAFE, .ro, 1⟩, ⟨F.PWM_STAT_TRIPD, .w1c, 0⟩, ⟨F.PWM_STAT_TRIPC, .w1c, 0⟩, ⟨F.PWM_STAT_CLAMP, .w1c, 0⟩, ⟨F.PWM_STAT_SKIP, .w1c, 0⟩, ⟨F.PWM_STAT_SLIP, .w1c, 0⟩, ⟨F.PWM_STAT_PAIR_SPLIT, .w1c, 0⟩, ⟨F.PWM_STAT_LATE, .w1c, 0⟩]⟩,
  ⟨R.PWM_RPER, [⟨F.PWM_RPER_PERIOD, .rw, 0⟩]⟩,
  ⟨R.PWM_RSYNC, [⟨F.PWM_RSYNC_NOW, .w1s, 0⟩, ⟨F.PWM_RSYNC_AUTOOFF, .rw, 1⟩, ⟨F.PWM_RSYNC_DIV, .rw, 16⟩]⟩,
  ⟨R.PWM_TRIP, [⟨F.PWM_TRIP_LEVEL, .ro, 0⟩, ⟨F.PWM_TRIP_FLT, .rw, 0⟩, ⟨F.PWM_TRIP_ACT, .rw, 1⟩, ⟨F.PWM_TRIP_POL, .rw, 0⟩, ⟨F.PWM_TRIP_EN, .rw, 0⟩, ⟨F.PWM_TRIP_RAIL, .rw, 63⟩]⟩,
  ⟨R.PWM_SAFE, [⟨F.PWM_SAFE_FORCE, .rw, 0⟩]⟩,
  ⟨R.PWM_SAFEST, [⟨F.PWM_SAFEST_CAUSE, .ro, 8⟩, ⟨F.PWM_SAFEST_ACTIVE, .ro, 65535⟩]⟩,
  ⟨R.PWM_SAFEREL, [⟨F.PWM_SAFEREL_REL, .wo, 0⟩]⟩,
  ⟨R.PWM_ERR, [⟨F.PWM_ERR_SAFE, .w1c, 0⟩, ⟨F.PWM_ERR_AUTO, .w1c, 0⟩, ⟨F.PWM_ERR_BUSY, .w1c, 0⟩, ⟨F.PWM_ERR_DSRC, .w1c, 0⟩, ⟨F.PWM_ERR_ADMIT, .w1c, 0⟩, ⟨F.PWM_ERR_RANGE, .w1c, 0⟩]⟩]

/-- Field tables of the FLK block. -/
def regsFLK : List RegSpec := [
  ⟨R.FLK_LCFG, [⟨F.FLK_LCFG_EN, .rw, 0⟩, ⟨F.FLK_LCFG_STO, .rw, 5⟩, ⟨F.FLK_LCFG_RETRY, .rw, 3⟩, ⟨F.FLK_LCFG_NPOS, .rw, 8⟩]⟩,
  ⟨R.FLK_LSTAT, [⟨F.FLK_LSTAT_REFUSED, .w1c, 0⟩, ⟨F.FLK_LSTAT_MFAIL, .w1c, 0⟩, ⟨F.FLK_LSTAT_TRAINF, .w1c, 0⟩, ⟨F.FLK_LSTAT_IDERR, .w1c, 0⟩, ⟨F.FLK_LSTAT_TOPO, .w1c, 0⟩, ⟨F.FLK_LSTAT_STATE, .ro, 0⟩]⟩,
  ⟨R.FLK_LCNT1, [⟨F.FLK_LCNT1_BAD, .rw, 0⟩, ⟨F.FLK_LCNT1_HOP, .rw, 0⟩]⟩,
  ⟨R.FLK_LCNT2, [⟨F.FLK_LCNT2_PAR, .rw, 0⟩, ⟨F.FLK_LCNT2_HELD, .rw, 0⟩]⟩,
  ⟨R.FLK_MCMD, [⟨F.FLK_MCMD_GO, .w1s, 0⟩, ⟨F.FLK_MCMD_POS, .rw, 0⟩, ⟨F.FLK_MCMD_WR, .rw, 0⟩, ⟨F.FLK_MCMD_LEN, .rw, 0⟩, ⟨F.FLK_MCMD_ADDR, .rw, 0⟩]⟩,
  ⟨R.FLK_MSTAT, [⟨F.FLK_MSTAT_RCODE, .ro, 0⟩, ⟨F.FLK_MSTAT_RESULT, .ro, 0⟩]⟩,
  ⟨R.FLK_MBUF, [⟨F.FLK_MBUF_W1, .rw, 0⟩, ⟨F.FLK_MBUF_W0, .rw, 0⟩]⟩,
  ⟨R.FLK_PCFG, [⟨F.FLK_PCFG_ILOCAL, .rw, 65535⟩]⟩,
  ⟨R.FLK_LASTC, [⟨F.FLK_LASTC_SLOT, .ro, 0⟩]⟩,
  ⟨R.FLK_LASTR, [⟨F.FLK_LASTR_SLOT, .ro, 0⟩]⟩,
  ⟨R.FLK_STAT, [⟨F.FLK_STAT_LOSTF, .w1c, 0⟩, ⟨F.FLK_STAT_UP, .ro, 0⟩]⟩]

/-- Field tables of the MICA block. -/
def regsMICA : List RegSpec := [
  ⟨R.MICA_CTRL, [⟨F.MICA_CTRL_XOPT, .rw, 0⟩, ⟨F.MICA_CTRL_REBUILD, .w1s, 0⟩, ⟨F.MICA_CTRL_ABORT, .w1s, 0⟩, ⟨F.MICA_CTRL_SURVEY, .w1s, 0⟩, ⟨F.MICA_CTRL_XSEG, .rw, 0⟩, ⟨F.MICA_CTRL_EN, .rw, 1⟩]⟩,
  ⟨R.MICA_CFG, [⟨F.MICA_CFG_SPREAD, .rw, 8⟩, ⟨F.MICA_CFG_ROT_INT, .rw, 1000⟩, ⟨F.MICA_CFG_ROT_STEP, .rw, 16⟩]⟩,
  ⟨R.MICA_AGE, [⟨F.MICA_AGE_UNIT, .rw, 256⟩]⟩,
  ⟨R.MICA_STAT, [⟨F.MICA_STAT_SBUSY, .ro, 0⟩, ⟨F.MICA_STAT_REFUSED, .w1c, 0⟩, ⟨F.MICA_STAT_DLFAIL, .w1c, 0⟩, ⟨F.MICA_STAT_CLAMPW, .w1c, 0⟩, ⟨F.MICA_STAT_SABORT, .w1c, 0⟩, ⟨F.MICA_STAT_SDONE, .w1c, 0⟩, ⟨F.MICA_STAT_RETIRE, .w1c, 0⟩, ⟨F.MICA_STAT_SEGF, .w1c, 0⟩]⟩,
  ⟨R.MICA_SSTAT, [⟨F.MICA_SSTAT_SKIP, .ro, 0⟩]⟩,
  ⟨R.MICA_USE, [⟨F.MICA_USE_U_LS, .rw, 1024⟩, ⟨F.MICA_USE_U_HS, .rw, 1024⟩]⟩,
  ⟨R.MICA_ROT, [⟨F.MICA_ROT_R_LS, .rw, 0⟩, ⟨F.MICA_ROT_R_HS, .rw, 0⟩]⟩,
  ⟨R.MICA_PROG, [⟨F.MICA_PROG_ITEM, .ro, 0⟩, ⟨F.MICA_PROG_PCT, .ro, 0⟩]⟩]

/-- Field tables of the BSL block. -/
def regsBSL : List RegSpec := [
  ⟨R.BSL_CTRL, [⟨F.BSL_CTRL_HEADMIN, .rw, 100⟩, ⟨F.BSL_CTRL_EN, .rw, 0⟩]⟩,
  ⟨R.BSL_STAT, [⟨F.BSL_STAT_REFUSED, .w1c, 0⟩, ⟨F.BSL_STAT_PGMFAIL, .w1c, 0⟩, ⟨F.BSL_STAT_LANEERR, .w1c, 0⟩, ⟨F.BSL_STAT_MISS, .w1c, 0⟩, ⟨F.BSL_STAT_HEADLOW, .w1c, 0⟩]⟩,
  ⟨R.BSL_LANEEN, [⟨F.BSL_LANEEN_EN, .rw, 65535⟩]⟩,
  ⟨R.BSL_LANEST, [⟨F.BSL_LANEST_RET, .ro, 0⟩, ⟨F.BSL_LANEST_INSV, .ro, 65535⟩]⟩,
  ⟨R.BSL_DEMAND, [⟨F.BSL_DEMAND_LIMIT, .ro, 57600⟩, ⟨F.BSL_DEMAND_DEMAND, .ro, 0⟩]⟩,
  ⟨R.BSL_MARGIN, [⟨F.BSL_MARGIN_MINRATE, .ro, 0⟩, ⟨F.BSL_MARGIN_HEAD, .ro, 0⟩]⟩,
  ⟨R.BSL_MISS, [⟨F.BSL_MISS_COUNT, .rw, 0⟩]⟩,
  ⟨R.BSL_ERR, [⟨F.BSL_ERR_DISC, .w1c, 0⟩, ⟨F.BSL_ERR_RANGE, .w1c, 0⟩, ⟨F.BSL_ERR_LANE, .w1c, 0⟩, ⟨F.BSL_ERR_ENOFF, .w1c, 0⟩, ⟨F.BSL_ERR_SEV, .w1c, 0⟩, ⟨F.BSL_ERR_BOUND, .w1c, 0⟩, ⟨F.BSL_ERR_LEVEL, .w1c, 0⟩, ⟨F.BSL_ERR_KIND, .w1c, 0⟩, ⟨F.BSL_ERR_PACK, .w1c, 0⟩, ⟨F.BSL_ERR_SUM, .w1c, 0⟩]⟩,
  ⟨R.BSL_LDEM, [⟨F.BSL_LDEM_TASKS, .ro, 0⟩, ⟨F.BSL_LDEM_DEM, .ro, 0⟩]⟩,
  ⟨R.BSL_OTASK, [⟨F.BSL_OTASK_EN, .rw, 0⟩, ⟨F.BSL_OTASK_PEND, .w1s, 0⟩, ⟨F.BSL_OTASK_INTERVAL, .rw, 0⟩, ⟨F.BSL_OTASK_PROG, .rw, 7⟩]⟩,
  ⟨R.BSL_PTASK, [⟨F.BSL_PTASK_GEN, .ro, 0⟩, ⟨F.BSL_PTASK_MISS, .ro, 0⟩, ⟨F.BSL_PTASK_LANE, .ro, 0⟩, ⟨F.BSL_PTASK_PROG_FB, .rw, 5⟩, ⟨F.BSL_PTASK_PROG, .rw, 3⟩]⟩,
  ⟨R.BSL_PDIR, [⟨F.BSL_PDIR_LEN, .rw, 0⟩, ⟨F.BSL_PDIR_ADDR, .rw, 0⟩]⟩,
  ⟨R.BSL_PCOST, [⟨F.BSL_PCOST_FMT, .rw, 0⟩, ⟨F.BSL_PCOST_KIND, .rw, 0⟩, ⟨F.BSL_PCOST_COST, .rw, 0⟩]⟩]

/-- Field tables of the SAF block. -/
def regsSAF : List RegSpec := [
  ⟨R.SAF_CTRL, [⟨F.SAF_CTRL_EN, .rw, 0⟩]⟩,
  ⟨R.SAF_STAT, [⟨F.SAF_STAT_LOCK, .w1c, 0⟩, ⟨F.SAF_STAT_LOST, .w1c, 0⟩, ⟨F.SAF_STAT_SQDONE, .w1c, 0⟩, ⟨F.SAF_STAT_UNDER, .w1c, 0⟩, ⟨F.SAF_STAT_SHORT, .w1c, 0⟩, ⟨F.SAF_STAT_CEIL, .w1c, 0⟩]⟩,
  ⟨R.SAF_ERR, [⟨F.SAF_ERR_NOPLAN, .w1c, 0⟩, ⟨F.SAF_ERR_SLEW, .w1c, 0⟩, ⟨F.SAF_ERR_VRANGE, .w1c, 0⟩, ⟨F.SAF_ERR_TRACK, .w1c, 0⟩, ⟨F.SAF_ERR_DEPTH, .w1c, 0⟩, ⟨F.SAF_ERR_PORT, .w1c, 0⟩, ⟨F.SAF_ERR_MAPALL, .w1c, 0⟩, ⟨F.SAF_ERR_MAPGRP, .w1c, 0⟩, ⟨F.SAF_ERR_MAPFULL, .w1c, 0⟩]⟩,
  ⟨R.SAF_GCFG, [⟨F.SAF_GCFG_PORTS, .rw, 0⟩, ⟨F.SAF_GCFG_DEPTH, .rw, 1024⟩]⟩,
  ⟨R.SAF_GSTAT, [⟨F.SAF_GSTAT_STATE, .ro, 0⟩]⟩,
  ⟨R.SAF_GFRAME, [⟨F.SAF_GFRAME_FRAME, .ro, 0⟩]⟩,
  ⟨R.SAF_GCNT, [⟨F.SAF_GCNT_LOSS, .rw, 0⟩, ⟨F.SAF_GCNT_PART, .rw, 0⟩]⟩,
  ⟨R.SAF_CHMAP, [⟨F.SAF_CHMAP_MUTE, .rw, 0⟩, ⟨F.SAF_CHMAP_MAPEN, .rw, 0⟩, ⟨F.SAF_CHMAP_RAIL, .rw, 0⟩]⟩,
  ⟨R.SAF_FSG, [⟨F.SAF_FSG_FS_GAIN, .rw, 0⟩]⟩,
  ⟨R.SAF_LGAIN, [⟨F.SAF_LGAIN_LGAIN, .rw, 4096⟩]⟩,
  ⟨R.SAF_RCFG, [⟨F.SAF_RCFG_REL_EN, .rw, 0⟩, ⟨F.SAF_RCFG_CG, .rw, 0⟩, ⟨F.SAF_RCFG_TP, .rw, 0⟩]⟩,
  ⟨R.SAF_VMIN, [⟨F.SAF_VMIN_VALUE, .rw, 0⟩]⟩,
  ⟨R.SAF_VMAX, [⟨F.SAF_VMAX_VALUE, .rw, 0⟩]⟩,
  ⟨R.SAF_VDROP, [⟨F.SAF_VDROP_VALUE, .rw, 0⟩]⟩,
  ⟨R.SAF_MARGIN, [⟨F.SAF_MARGIN_VALUE, .rw, 0⟩]⟩,
  ⟨R.SAF_SLEW, [⟨F.SAF_SLEW_SR_DOWN, .rw, 48⟩, ⟨F.SAF_SLEW_SR_UP, .rw, 96⟩]⟩,
  ⟨R.SAF_HOLD, [⟨F.SAF_HOLD_REL_TAU, .rw, 0⟩, ⟨F.SAF_HOLD_HOLD_T, .rw, 0⟩]⟩,
  ⟨R.SAF_BLIND, [⟨F.SAF_BLIND_VALUE, .rw, 0⟩]⟩,
  ⟨R.SAF_RSTAT, [⟨F.SAF_RSTAT_LEVEL, .ro, 0⟩, ⟨F.SAF_RSTAT_HZN, .ro, 0⟩, ⟨F.SAF_RSTAT_UNDER, .w1c, 0⟩, ⟨F.SAF_RSTAT_RECOMP, .ro, 0⟩, ⟨F.SAF_RSTAT_EPOCH, .ro, 0⟩]⟩,
  ⟨R.SAF_WRISE, [⟨F.SAF_WRISE_W_EFF, .ro, 0⟩, ⟨F.SAF_WRISE_W_RISE, .ro, 0⟩]⟩,
  ⟨R.SAF_KNOTLO, [⟨F.SAF_KNOTLO_KNOT, .ro, 0⟩]⟩,
  ⟨R.SAF_KNOTHI, [⟨F.SAF_KNOTHI_KNOT, .ro, 0⟩]⟩,
  ⟨R.SAF_RCNT1, [⟨F.SAF_RCNT1_SHORT, .rw, 0⟩, ⟨F.SAF_RCNT1_CEIL, .rw, 0⟩]⟩,
  ⟨R.SAF_RCNT2, [⟨F.SAF_RCNT2_UNDER, .rw, 0⟩, ⟨F.SAF_RCNT2_SQUASH, .rw, 0⟩]⟩]

/-- Field tables of the RAIL block. -/
def regsRAIL : List RegSpec := [
  ⟨R.RAIL_CTRL, [⟨F.RAIL_CTRL_EN, .rw, 0⟩, ⟨F.RAIL_CTRL_REF, .w1c, 0⟩, ⟨F.RAIL_CTRL_STATE, .ro, 0⟩]⟩,
  ⟨R.RAIL_LCFG, [⟨F.RAIL_LCFG_XL, .rw, 0⟩, ⟨F.RAIL_LCFG_MISS_SEV, .rw, 3⟩, ⟨F.RAIL_LCFG_PRIO, .rw, 0⟩, ⟨F.RAIL_LCFG_N_FB, .rw, 3⟩, ⟨F.RAIL_LCFG_N, .rw, 1⟩, ⟨F.RAIL_LCFG_VPROG_FB, .rw, 2⟩, ⟨F.RAIL_LCFG_VPROG, .rw, 0⟩]⟩,
  ⟨R.RAIL_LCMD, [⟨F.RAIL_LCMD_FB, .w1s, 0⟩, ⟨F.RAIL_LCMD_RET, .w1s, 0⟩]⟩,
  ⟨R.RAIL_LCOEF, [⟨F.RAIL_LCOEF_ICOEF, .rw, 3072⟩, ⟨F.RAIL_LCOEF_VCOEF, .rw, 3072⟩]⟩,
  ⟨R.RAIL_ILIM, [⟨F.RAIL_ILIM_I, .rw, 0⟩]⟩,
  ⟨R.RAIL_ISINK, [⟨F.RAIL_ISINK_I, .rw, 0⟩]⟩,
  ⟨R.RAIL_CRAIL, [⟨F.RAIL_CRAIL_VFF_EN, .rw, 1⟩, ⟨F.RAIL_CRAIL_SFF_EN, .rw, 1⟩, ⟨F.RAIL_CRAIL_C, .rw, 0⟩]⟩,
  ⟨R.RAIL_DLIM, [⟨F.RAIL_DLIM_DMAX, .rw, 61440⟩, ⟨F.RAIL_DLIM_DMIN, .rw, 0⟩]⟩,
  ⟨R.RAIL_FEV, [⟨F.RAIL_FEV_SEV, .rw, 1⟩, ⟨F.RAIL_FEV_LIMIT, .rw, 1048575⟩]⟩,
  ⟨R.RAIL_FEI, [⟨F.RAIL_FEI_SEV, .rw, 1⟩, ⟨F.RAIL_FEI_LIMIT, .rw, 65535⟩]⟩,
  ⟨R.RAIL_FET, [⟨F.RAIL_FET_I_TIME, .rw, 100⟩, ⟨F.RAIL_FET_V_TIME, .rw, 100⟩]⟩,
  ⟨R.RAIL_SRC, [⟨F.RAIL_SRC_FSCALE, .rw, 0⟩, ⟨F.RAIL_SRC_FIN, .rw, 0⟩, ⟨F.RAIL_SRC_MIX, .rw, 0⟩, ⟨F.RAIL_SRC_SRC, .rw, 1⟩]⟩,
  ⟨R.RAIL_VSET, [⟨F.RAIL_VSET_VALUE, .rw, 0⟩]⟩,
  ⟨R.RAIL_FLOOR, [⟨F.RAIL_FLOOR_VALUE, .rw, 0⟩]⟩,
  ⟨R.RAIL_CEIL, [⟨F.RAIL_CEIL_VALUE, .rw, 1048575⟩]⟩,
  ⟨R.RAIL_LSTAT, [⟨F.RAIL_LSTAT_FB, .ro, 0⟩, ⟨F.RAIL_LSTAT_FEI, .w1c, 0⟩, ⟨F.RAIL_LSTAT_FEV, .w1c, 0⟩, ⟨F.RAIL_LSTAT_VMISS, .ro, 0⟩]⟩,
  ⟨R.RAIL_IREF, [⟨F.RAIL_IREF_I, .ro, 0⟩]⟩,
  ⟨R.RAIL_ILIMF, [⟨F.RAIL_ILIMF_I, .ro, 0⟩]⟩,
  ⟨R.RAIL_OPT, [⟨F.RAIL_OPT_FBDR, .ro, 0⟩, ⟨F.RAIL_OPT_PROFILE, .rw, 0⟩]⟩,
  ⟨R.RAIL_DIS, [⟨F.RAIL_DIS_DIS_T, .rw, 50⟩, ⟨F.RAIL_DIS_VEND, .rw, 4096⟩]⟩,
  ⟨R.RAIL_DISI, [⟨F.RAIL_DISI_MODE, .rw, 0⟩, ⟨F.RAIL_DISI_IDIS, .rw, 0⟩]⟩,
  ⟨R.RAIL_DERATE, [⟨F.RAIL_DERATE_F, .rw, 16384⟩]⟩,
  ⟨R.RAIL_FSTAT, [⟨F.RAIL_FSTAT_CODE, .ro, 0⟩, ⟨F.RAIL_FSTAT_DISC, .rw, 0⟩, ⟨F.RAIL_FSTAT_LATCHED, .ro, 0⟩, ⟨F.RAIL_FSTAT_HAND, .ro, 0⟩, ⟨F.RAIL_FSTAT_RESP, .ro, 7⟩]⟩,
  ⟨R.RAIL_FCLR, [⟨F.RAIL_FCLR_CLR, .wo, 0⟩]⟩]

/-- Field tables of the POOL block. -/
def regsPOOL : List RegSpec := [
  ⟨R.POOL_CFG, [⟨F.POOL_CFG_EN, .rw, 0⟩, ⟨F.POOL_CFG_DRAIN_MAX, .rw, 50⟩, ⟨F.POOL_CFG_STEER_DEAD, .rw, 20⟩]⟩,
  ⟨R.POOL_STAT, [⟨F.POOL_STAT_BANDERR, .w1c, 0⟩, ⟨F.POOL_STAT_LOSTMV, .w1c, 0⟩, ⟨F.POOL_STAT_CONFF, .w1c, 0⟩, ⟨F.POOL_STAT_DRAINF, .w1c, 0⟩, ⟨F.POOL_STAT_CANCEL, .w1c, 0⟩, ⟨F.POOL_STAT_ADMREF, .w1c, 0⟩, ⟨F.POOL_STAT_REFUSED, .w1c, 0⟩]⟩,
  ⟨R.POOL_LREQ, [⟨F.POOL_LREQ_GO, .w1s, 0⟩, ⟨F.POOL_LREQ_SPEC, .rw, 0⟩, ⟨F.POOL_LREQ_EPOCH, .rw, 0⟩, ⟨F.POOL_LREQ_OP, .rw, 0⟩, ⟨F.POOL_LREQ_PHASE, .rw, 0⟩]⟩,
  ⟨R.POOL_LRES, [⟨F.POOL_LRES_BUSY, .ro, 0⟩, ⟨F.POOL_LRES_RESULT, .ro, 0⟩, ⟨F.POOL_LRES_PHASE, .ro, 0⟩]⟩,
  ⟨R.POOL_PCFG, [⟨F.POOL_PCFG_LEND, .rw, 0⟩, ⟨F.POOL_PCFG_GUEST, .rw, 63⟩, ⟨F.POOL_PCFG_HOME, .rw, 0⟩, ⟨F.POOL_PCFG_I_ZERO, .rw, 256⟩]⟩,
  ⟨R.POOL_PSTAT, [⟨F.POOL_PSTAT_WSHARE, .ro, 0⟩, ⟨F.POOL_PSTAT_STEERUNK, .ro, 0⟩, ⟨F.POOL_PSTAT_RAIL, .ro, 0⟩, ⟨F.POOL_PSTAT_EPOCH, .ro, 0⟩, ⟨F.POOL_PSTAT_SW, .ro, 0⟩, ⟨F.POOL_PSTAT_STATE, .ro, 0⟩]⟩,
  ⟨R.POOL_PFACT, [⟨F.POOL_PFACT_F_CLV, .ro, 32768⟩, ⟨F.POOL_PFACT_F, .ro, 0⟩]⟩,
  ⟨R.POOL_RCFG, [⟨F.POOL_RCFG_AUTO, .rw, 0⟩, ⟨F.POOL_RCFG_SPEC, .rw, 0⟩, ⟨F.POOL_RCFG_RETHOME, .rw, 1⟩, ⟨F.POOL_RCFG_LIN, .rw, 0⟩, ⟨F.POOL_RCFG_LOUT, .rw, 0⟩, ⟨F.POOL_RCFG_NMAX, .rw, 4⟩, ⟨F.POOL_RCFG_NMIN, .rw, 1⟩, ⟨F.POOL_RCFG_DWELL, .rw, 10⟩]⟩,
  ⟨R.POOL_RTIM, [⟨F.POOL_RTIM_DRAIN_T, .rw, 20⟩, ⟨F.POOL_RTIM_JOIN_T, .rw, 20⟩, ⟨F.POOL_RTIM_ADD_T, .rw, 10⟩, ⟨F.POOL_RTIM_SHED_T, .rw, 50⟩]⟩,
  ⟨R.POOL_RLEAD, [⟨F.POOL_RLEAD_ADD_LEAD, .rw, 200⟩]⟩,
  ⟨R.POOL_RSTAT, [⟨F.POOL_RSTAT_NACT, .ro, 0⟩, ⟨F.POOL_RSTAT_NMOV, .ro, 0⟩, ⟨F.POOL_RSTAT_BAND, .ro, 0⟩, ⟨F.POOL_RSTAT_SHORTPH, .w1c, 0⟩, ⟨F.POOL_RSTAT_NOPH, .w1c, 0⟩, ⟨F.POOL_RSTAT_BANDERR, .w1c, 0⟩]⟩]

/-- Field tables of the CLV block. -/
def regsCLV : List RegSpec := [
  ⟨R.CLV_CTRL, [⟨F.CLV_CTRL_STEPEN, .rw, 31⟩, ⟨F.CLV_CTRL_LEND, .rw, 1⟩, ⟨F.CLV_CTRL_XB, .rw, 0⟩, ⟨F.CLV_CTRL_EN, .rw, 0⟩]⟩,
  ⟨R.CLV_STAT, [⟨F.CLV_STAT_LEVEL, .ro, 0⟩, ⟨F.CLV_STAT_REFUSED, .w1c, 0⟩, ⟨F.CLV_STAT_SENSE, .w1c, 0⟩, ⟨F.CLV_STAT_LATEATK, .w1c, 0⟩, ⟨F.CLV_STAT_GMIN, .w1c, 0⟩, ⟨F.CLV_STAT_IBUS, .w1c, 0⟩, ⟨F.CLV_STAT_SHORT, .w1c, 0⟩, ⟨F.CLV_STAT_LONG, .w1c, 0⟩, ⟨F.CLV_STAT_ALERT, .w1c, 0⟩]⟩,
  ⟨R.CLV_CFG, [⟨F.CLV_CFG_HZN, .rw, 40⟩, ⟨F.CLV_CFG_QUIET_T, .rw, 50⟩, ⟨F.CLV_CFG_MINT, .rw, 5⟩, ⟨F.CLV_CFG_HYS, .rw, 5⟩, ⟨F.CLV_CFG_DEFER_PRI, .rw, 8⟩]⟩,
  ⟨R.CLV_PLONG, [⟨F.CLV_PLONG_P, .rw, 16777215⟩]⟩,
  ⟨R.CLV_PIN, [⟨F.CLV_PIN_P, .rw, 16777215⟩]⟩,
  ⟨R.CLV_PAUX, [⟨F.CLV_PAUX_P, .rw, 0⟩]⟩,
  ⟨R.CLV_TAU, [⟨F.CLV_TAU_TAU_LONG, .rw, 1000⟩, ⟨F.CLV_TAU_ETA_PT, .rw, 62259⟩]⟩,
  ⟨R.CLV_IBUS, [⟨F.CLV_IBUS_I_BUS_MAX, .rw, 16777215⟩]⟩,
  ⟨R.CLV_ISNS, [⟨F.CLV_ISNS_SCALE, .rw, 0⟩, ⟨F.CLV_ISNS_EN, .rw, 0⟩, ⟨F.CLV_ISNS_AUX, .rw, 0⟩]⟩,
  ⟨R.CLV_CBUS, [⟨F.CLV_CBUS_C_BUS, .rw, 0⟩]⟩,
  ⟨R.CLV_VBMIN, [⟨F.CLV_VBMIN_VBUS_MIN, .rw, 0⟩]⟩,
  ⟨R.CLV_LIM, [⟨F.CLV_LIM_ATT_T, .rw, 2000⟩, ⟨F.CLV_LIM_LREL_T, .rw, 200⟩]⟩,
  ⟨R.CLV_GMIN, [⟨F.CLV_GMIN_G_MIN, .rw, 8192⟩]⟩,
  ⟨R.CLV_PMEAS, [⟨F.CLV_PMEAS_P, .ro, 0⟩]⟩,
  ⟨R.CLV_PAVG, [⟨F.CLV_PAVG_P, .ro, 0⟩]⟩,
  ⟨R.CLV_PPEAK, [⟨F.CLV_PPEAK_P, .ro, 0⟩]⟩,
  ⟨R.CLV_EAVL, [⟨F.CLV_EAVL_E, .ro, 0⟩]⟩,
  ⟨R.CLV_GNOW, [⟨F.CLV_GNOW_G, .ro, 32768⟩]⟩,
  ⟨R.CLV_TWARN, [⟨F.CLV_TWARN_T_HOT, .rw, 7680⟩, ⟨F.CLV_TWARN_T_WARN, .rw, 6400⟩]⟩,
  ⟨R.CLV_THYS, [⟨F.CLV_THYS_ROT_MIN, .rw, 100⟩, ⟨F.CLV_THYS_T_HYS, .rw, 640⟩]⟩,
  ⟨R.CLV_THM, [⟨F.CLV_THM_TAU2, .rw, 2000⟩, ⟨F.CLV_THM_TAU1, .rw, 500⟩]⟩,
  ⟨R.CLV_THR, [⟨F.CLV_THR_R2, .rw, 4096⟩, ⟨F.CLV_THR_R1, .rw, 2048⟩]⟩,
  ⟨R.CLV_LOSS, [⟨F.CLV_LOSS_E_SW, .rw, 200⟩, ⟨F.CLV_LOSS_R_ON, .rw, 128⟩]⟩,
  ⟨R.CLV_OPRI, [⟨F.CLV_OPRI_PRI, .rw, 0⟩]⟩,
  ⟨R.CLV_SLP, [⟨F.CLV_SLP_MEM_T, .rw, 0⟩, ⟨F.CLV_SLP_CORE_T, .rw, 0⟩]⟩,
  ⟨R.CLV_RCFG, [⟨F.CLV_RCFG_LIM, .rw, 1⟩, ⟨F.CLV_RCFG_ETA, .rw, 58982⟩]⟩,
  ⟨R.CLV_RMARG, [⟨F.CLV_RMARG_MSTEP, .rw, 410⟩, ⟨F.CLV_RMARG_MARGIN_MIN, .rw, 2048⟩]⟩,
  ⟨R.CLV_RIQ, [⟨F.CLV_RIQ_DRMIN, .rw, 8192⟩, ⟨F.CLV_RIQ_I_Q, .rw, 0⟩]⟩,
  ⟨R.CLV_RSTAT, [⟨F.CLV_RSTAT_K, .ro, 16384⟩, ⟨F.CLV_RSTAT_MSTEPS, .ro, 0⟩]⟩,
  ⟨R.CLV_RPLAN, [⟨F.CLV_RPLAN_P, .ro, 0⟩]⟩,
  ⟨R.CLV_RILIM, [⟨F.CLV_RILIM_I, .ro, 0⟩]⟩,
  ⟨R.CLV_RELO, [⟨F.CLV_RELO_E, .ro, 0⟩]⟩,
  ⟨R.CLV_REHI, [⟨F.CLV_REHI_E, .ro, 0⟩]⟩,
  ⟨R.CLV_CHZ, [⟨F.CLV_CHZ_Z, .rw, 8000⟩]⟩,
  ⟨R.CLV_PTH, [⟨F.CLV_PTH_T_PRED, .ro, 0⟩, ⟨F.CLV_PTH_T_EST, .ro, 0⟩]⟩,
  ⟨R.CLV_PHT, [⟨F.CLV_PHT_HOT, .ro, 0⟩, ⟨F.CLV_PHT_P_LOSS, .ro, 0⟩]⟩]

/-- Field tables of the ADC block. -/
def regsADC : List RegSpec := [
  ⟨R.ADC_CTRL, [⟨F.ADC_CTRL_SNS_T, .rw, 50⟩, ⟨F.ADC_CTRL_REFOE, .rw, 0⟩, ⟨F.ADC_CTRL_REFSEL, .rw, 0⟩, ⟨F.ADC_CTRL_SWEEP, .w1s, 0⟩, ⟨F.ADC_CTRL_CALEN, .rw, 1⟩, ⟨F.ADC_CTRL_EN, .rw, 0⟩]⟩,
  ⟨R.ADC_STAT, [⟨F.ADC_STAT_SWBUSY, .ro, 0⟩, ⟨F.ADC_STAT_REFRDY, .ro, 0⟩, ⟨F.ADC_STAT_REFUSED, .w1c, 0⟩, ⟨F.ADC_STAT_SDONE, .w1c, 0⟩, ⟨F.ADC_STAT_NOSPARE, .w1c, 0⟩, ⟨F.ADC_STAT_RETIRE, .w1c, 0⟩, ⟨F.ADC_STAT_MISMATCH, .w1c, 0⟩, ⟨F.ADC_STAT_INJOVR, .w1c, 0⟩, ⟨F.ADC_STAT_OVR, .w1c, 0⟩]⟩,
  ⟨R.ADC_CALCFG, [⟨F.ADC_CALCFG_OFSMAX, .rw, 32⟩, ⟨F.ADC_CALCFG_GAINMAX, .rw, 20⟩, ⟨F.ADC_CALCFG_MATCH, .rw, 8⟩, ⟨F.ADC_CALCFG_INT, .rw, 10⟩]⟩,
  ⟨R.ADC_GSTAT, [⟨F.ADC_GSTAT_CALPOS, .ro, 15⟩, ⟨F.ADC_GSTAT_SPARE, .ro, 8⟩, ⟨F.ADC_GSTAT_RET, .ro, 0⟩]⟩,
  ⟨R.ADC_GMAP, [⟨F.ADC_GMAP_MAP, .ro, 1985229328⟩]⟩,
  ⟨R.ADC_GTRIG, [⟨F.ADC_GTRIG_EN, .rw, 0⟩, ⟨F.ADC_GTRIG_SW, .w1s, 0⟩, ⟨F.ADC_GTRIG_TSRC, .rw, 0⟩, ⟨F.ADC_GTRIG_TSEL, .rw, 0⟩]⟩,
  ⟨R.ADC_TDAC, [⟨F.ADC_TDAC_CODE, .rw, 0⟩]⟩,
  ⟨R.ADC_TEMP, [⟨F.ADC_TEMP_VALID, .ro, 0⟩, ⟨F.ADC_TEMP_T, .ro, 0⟩]⟩,
  ⟨R.ADC_AUX, [⟨F.ADC_AUX_RESULT, .ro, 0⟩]⟩,
  ⟨R.ADC_SL, [⟨F.ADC_SL_STATE, .ro, 0⟩, ⟨F.ADC_SL_SP, .ro, 0⟩, ⟨F.ADC_SL_OFSE, .ro, 0⟩, ⟨F.ADC_SL_GERR, .ro, 0⟩]⟩,
  ⟨R.ADC_SPCFG, [⟨F.ADC_SPCFG_SWTRIG, .w1s, 0⟩, ⟨F.ADC_SPCFG_IIE, .rw, 0⟩, ⟨F.ADC_SPCFG_FIR, .rw, 0⟩, ⟨F.ADC_SPCFG_OSR, .rw, 2⟩, ⟨F.ADC_SPCFG_NREG, .rw, 0⟩]⟩,
  ⟨R.ADC_RSEQ, [⟨F.ADC_RSEQ_ENTRY, .rw, 0⟩]⟩,
  ⟨R.ADC_ISEQ, [⟨F.ADC_ISEQ_TSRC, .rw, 0⟩, ⟨F.ADC_ISEQ_TSEL, .rw, 0⟩, ⟨F.ADC_ISEQ_FIR, .rw, 0⟩, ⟨F.ADC_ISEQ_OSR, .rw, 0⟩, ⟨F.ADC_ISEQ_NINJ, .rw, 0⟩, ⟨F.ADC_ISEQ_MUX, .rw, 0⟩]⟩,
  ⟨R.ADC_K, [⟨F.ADC_K_K, .rw, 0⟩]⟩,
  ⟨R.ADC_OFS, [⟨F.ADC_OFS_OFS, .rw, 0⟩]⟩,
  ⟨R.ADC_SPSTAT, [⟨F.ADC_SPSTAT_IPEND, .ro, 0⟩, ⟨F.ADC_SPSTAT_IACT, .ro, 0⟩, ⟨F.ADC_SPSTAT_SETTLE, .ro, 1⟩, ⟨F.ADC_SPSTAT_STALE, .ro, 1⟩, ⟨F.ADC_SPSTAT_IDONE, .w1c, 0⟩, ⟨F.ADC_SPSTAT_INJOVR, .w1c, 0⟩, ⟨F.ADC_SPSTAT_OVR, .w1c, 0⟩, ⟨F.ADC_SPSTAT_ENTRY, .ro, 0⟩]⟩,
  ⟨R.ADC_RES0, [⟨F.ADC_RES0_RESULT, .ro, 0⟩]⟩,
  ⟨R.ADC_RES1, [⟨F.ADC_RES1_RESULT, .ro, 0⟩]⟩,
  ⟨R.ADC_RES2, [⟨F.ADC_RES2_RESULT, .ro, 0⟩]⟩,
  ⟨R.ADC_RES3, [⟨F.ADC_RES3_RESULT, .ro, 0⟩]⟩,
  ⟨R.ADC_INJR0, [⟨F.ADC_INJR0_RESULT, .ro, 0⟩]⟩,
  ⟨R.ADC_INJR1, [⟨F.ADC_INJR1_RESULT, .ro, 0⟩]⟩,
  ⟨R.ADC_INJR2, [⟨F.ADC_INJR2_RESULT, .ro, 0⟩]⟩,
  ⟨R.ADC_INJR3, [⟨F.ADC_INJR3_RESULT, .ro, 0⟩]⟩,
  ⟨R.ADC_PROG, [⟨F.ADC_PROG_ITEM, .ro, 0⟩, ⟨F.ADC_PROG_PCT, .ro, 0⟩]⟩]

/-- Field tables of the WMON block. -/
def regsWMON : List RegSpec := [
  ⟨R.WMON_CFG, [⟨F.WMON_CFG_EN, .rw, 0⟩, ⟨F.WMON_CFG_FLTEN, .rw, 0⟩, ⟨F.WMON_CFG_SEV, .rw, 1⟩, ⟨F.WMON_CFG_IE, .rw, 0⟩, ⟨F.WMON_CFG_TRIPEN, .rw, 0⟩, ⟨F.WMON_CFG_ACT, .rw, 1⟩, ⟨F.WMON_CFG_RAIL, .rw, 63⟩, ⟨F.WMON_CFG_MODE, .rw, 0⟩, ⟨F.WMON_CFG_LMODE, .rw, 0⟩, ⟨F.WMON_CFG_NFILT, .rw, 5⟩, ⟨F.WMON_CFG_HYS, .rw, 2⟩]⟩,
  ⟨R.WMON_THR, [⟨F.WMON_THR_TH, .rw, 1023⟩, ⟨F.WMON_THR_TL, .rw, 0⟩]⟩,
  ⟨R.WMON_TIM, [⟨F.WMON_TIM_STUCK_T, .rw, 0⟩, ⟨F.WMON_TIM_CHAT_W, .rw, 0⟩, ⟨F.WMON_TIM_CHATMAX, .rw, 8⟩]⟩,
  ⟨R.WMON_CLR, [⟨F.WMON_CLR_CLR, .wo, 0⟩, ⟨F.WMON_CLR_CLRPH, .rw, 0⟩]⟩,
  ⟨R.WMON_ST, [⟨F.WMON_ST_HITS, .rw, 0⟩, ⟨F.WMON_ST_ARMED, .ro, 0⟩, ⟨F.WMON_ST_INIT, .ro, 0⟩, ⟨F.WMON_ST_FILT, .ro, 0⟩, ⟨F.WMON_ST_OUT, .ro, 0⟩, ⟨F.WMON_ST_CHATTER, .w1c, 0⟩, ⟨F.WMON_ST_STUCK, .w1c, 0⟩, ⟨F.WMON_ST_STILL, .w1c, 0⟩]⟩,
  ⟨R.WMON_SUM, [⟨F.WMON_SUM_OUT, .ro, 0⟩]⟩,
  ⟨R.WMON_STAT, [⟨F.WMON_STAT_CHATTER, .w1c, 0⟩, ⟨F.WMON_STAT_STUCK, .w1c, 0⟩, ⟨F.WMON_STAT_HIT, .w1c, 0⟩, ⟨F.WMON_STAT_REFUSED, .w1c, 0⟩]⟩]

/-- Field tables of the FLT block. -/
def regsFLT : List RegSpec := [
  ⟨R.FLT_CTRL, [⟨F.FLT_CTRL_HCORE, .rw, 0⟩, ⟨F.FLT_CTRL_XF, .rw, 0⟩]⟩,
  ⟨R.FLT_STAT, [⟨F.FLT_STAT_DEVICE, .ro, 0⟩, ⟨F.FLT_STAT_INH, .ro, 0⟩, ⟨F.FLT_STAT_REFUSED, .w1c, 0⟩, ⟨F.FLT_STAT_HFAULT, .w1c, 0⟩, ⟨F.FLT_STAT_OVF, .w1c, 0⟩, ⟨F.FLT_STAT_ESC, .w1c, 0⟩, ⟨F.FLT_STAT_NEW, .w1c, 0⟩]⟩,
  ⟨R.FLT_QLEV, [⟨F.FLT_QLEV_LEV, .ro, 0⟩]⟩,
  ⟨R.FLT_NEXT, [⟨F.FLT_NEXT_VALID, .ro, 0⟩, ⟨F.FLT_NEXT_SEV, .ro, 0⟩, ⟨F.FLT_NEXT_RAIL, .ro, 0⟩, ⟨F.FLT_NEXT_CODE, .ro, 0⟩]⟩,
  ⟨R.FLT_NSEQ, [⟨F.FLT_NSEQ_SEQ, .ro, 0⟩]⟩,
  ⟨R.FLT_ACK, [⟨F.FLT_ACK_RAISE, .wo, 0⟩, ⟨F.FLT_ACK_SEV, .wo, 0⟩]⟩,
  ⟨R.FLT_SEV0, [⟨F.FLT_SEV0_POL, .rw, 824390229⟩]⟩,
  ⟨R.FLT_SEV1, [⟨F.FLT_SEV1_POL, .rw, 348465⟩]⟩,
  ⟨R.FLT_DEVCLR, [⟨F.FLT_DEVCLR_CLR, .wo, 0⟩]⟩,
  ⟨R.FLT_CNT, [⟨F.FLT_CNT_COUNT, .rw, 0⟩]⟩]

/-- Field tables of the GRN block. -/
def regsGRN : List RegSpec := [
  ⟨R.GRN_CTRL, [⟨F.GRN_CTRL_MSEV, .rw, 1⟩, ⟨F.GRN_CTRL_MEN, .rw, 1⟩, ⟨F.GRN_CTRL_FREEZE, .rw, 0⟩]⟩,
  ⟨R.GRN_CFG, [⟨F.GRN_CFG_RWIN, .rw, 1000⟩]⟩,
  ⟨R.GRN_STAT, [⟨F.GRN_STAT_PEND, .ro, 0⟩, ⟨F.GRN_STAT_FROZEN, .ro, 0⟩, ⟨F.GRN_STAT_REFUSED, .w1c, 0⟩, ⟨F.GRN_STAT_FRZTO, .w1c, 0⟩, ⟨F.GRN_STAT_LOST, .w1c, 0⟩]⟩,
  ⟨R.GRN_HEAD, [⟨F.GRN_HEAD_SEQ, .ro, 0⟩]⟩,
  ⟨R.GRN_TAIL, [⟨F.GRN_TAIL_SEQ, .ro, 0⟩]⟩,
  ⟨R.GRN_LOST, [⟨F.GRN_LOST_COUNT, .rw, 0⟩]⟩,
  ⟨R.GRN_MCNT, [⟨F.GRN_MCNT_MDROP, .rw, 0⟩, ⟨F.GRN_MCNT_USED, .ro, 0⟩]⟩,
  ⟨R.GRN_SWD, [⟨F.GRN_SWD_DATA, .rw, 0⟩]⟩,
  ⟨R.GRN_SWEV, [⟨F.GRN_SWEV_SEV, .wo, 0⟩, ⟨F.GRN_SWEV_EVENT, .wo, 0⟩]⟩]

/-- Field tables of the NVMC block. -/
def regsNVMC : List RegSpec := [
  ⟨R.NVM_CTRL, [⟨F.NVM_CTRL_RESCAN, .w1s, 0⟩, ⟨F.NVM_CTRL_COMMIT, .w1s, 0⟩, ⟨F.NVM_CTRL_SABORT, .w1s, 0⟩, ⟨F.NVM_CTRL_SCRUB, .w1s, 0⟩]⟩,
  ⟨R.NVM_STAT, [⟨F.NVM_STAT_READY, .ro, 0⟩, ⟨F.NVM_STAT_RECALL, .ro, 1⟩, ⟨F.NVM_STAT_HELD, .ro, 0⟩, ⟨F.NVM_STAT_SEQEND, .w1c, 0⟩, ⟨F.NVM_STAT_WRAP, .w1c, 0⟩, ⟨F.NVM_STAT_CARRY, .w1c, 0⟩, ⟨F.NVM_STAT_TIE, .w1c, 0⟩, ⟨F.NVM_STAT_PROTW, .w1c, 0⟩, ⟨F.NVM_STAT_UE, .w1c, 0⟩, ⟨F.NVM_STAT_CE, .w1c, 0⟩, ⟨F.NVM_STAT_SDONE, .w1c, 0⟩, ⟨F.NVM_STAT_REFUSED, .w1c, 0⟩]⟩,
  ⟨R.NVM_PROT, [⟨F.NVM_PROT_LOCK, .w1s, 0⟩, ⟨F.NVM_PROT_BP, .rwl, 0⟩]⟩,
  ⟨R.NVM_ECCADDR, [⟨F.NVM_ECCADDR_ADDR, .ro, 0⟩]⟩,
  ⟨R.NVM_ECCCNT, [⟨F.NVM_ECCCNT_UE, .rw, 0⟩, ⟨F.NVM_ECCCNT_CE, .rw, 0⟩]⟩,
  ⟨R.NVM_CCFG, [⟨F.NVM_CCFG_CEN, .rw, 1⟩, ⟨F.NVM_CCFG_INT, .rw, 60⟩]⟩,
  ⟨R.NVM_LCSEL, [⟨F.NVM_LCSEL_FAM, .rw, 0⟩, ⟨F.NVM_LCSEL_IDX, .rw, 0⟩]⟩,
  ⟨R.NVM_LCLO, [⟨F.NVM_LCLO_VALUE, .ro, 0⟩]⟩,
  ⟨R.NVM_LCHI, [⟨F.NVM_LCHI_VALUE, .ro, 0⟩]⟩,
  ⟨R.NVM_SADDR, [⟨F.NVM_SADDR_ADDR, .rw, 0⟩]⟩,
  ⟨R.NVM_SDATA, [⟨F.NVM_SDATA_BYTE, .wo, 0⟩]⟩,
  ⟨R.NVM_RWR, [⟨F.NVM_RWR_GO, .w1s, 0⟩, ⟨F.NVM_RWR_RESULT, .ro, 0⟩, ⟨F.NVM_RWR_GRP, .rw, 0⟩, ⟨F.NVM_RWR_LEN, .rw, 0⟩]⟩,
  ⟨R.NVM_RWSRC, [⟨F.NVM_RWSRC_SRC, .rw, 0⟩]⟩,
  ⟨R.NVM_RGS, [⟨F.NVM_RGS_STATE, .ro, 0⟩, ⟨F.NVM_RGS_TIE, .ro, 0⟩, ⟨F.NVM_RGS_SLOT, .ro, 0⟩]⟩,
  ⟨R.NVM_RGQ, [⟨F.NVM_RGQ_SEQ, .ro, 0⟩]⟩,
  ⟨R.NVM_PROG, [⟨F.NVM_PROG_ITEM, .ro, 0⟩, ⟨F.NVM_PROG_PCT, .ro, 0⟩]⟩]

/-- Field tables of the PMB block. -/
def regsPMB : List RegSpec := [
  ⟨R.PMB_CTRL, [⟨F.PMB_CTRL_WP, .rw, 0⟩, ⟨F.PMB_CTRL_ALEN, .rw, 1⟩, ⟨F.PMB_CTRL_CFRAIL, .rw, 0⟩, ⟨F.PMB_CTRL_COR, .rw, 0⟩, ⟨F.PMB_CTRL_PECREQ, .rw, 0⟩, ⟨F.PMB_CTRL_EN, .rw, 0⟩]⟩,
  ⟨R.PMB_CFG, [⟨F.PMB_CFG_MBT, .rw, 5⟩, ⟨F.PMB_CFG_GF, .rw, 5⟩, ⟨F.PMB_CFG_SPEED, .rw, 1⟩, ⟨F.PMB_CFG_BASE, .rw, 8⟩]⟩,
  ⟨R.PMB_STAT, [⟨F.PMB_STAT_PAGE, .ro, 0⟩, ⟨F.PMB_STAT_CML, .w1c, 0⟩, ⟨F.PMB_STAT_ADDR, .ro, 0⟩, ⟨F.PMB_STAT_REFUSED, .w1c, 0⟩, ⟨F.PMB_STAT_MBLATE, .w1c, 0⟩, ⟨F.PMB_STAT_VIOL, .w1c, 0⟩, ⟨F.PMB_STAT_SDALTO, .w1c, 0⟩, ⟨F.PMB_STAT_SCLTO, .w1c, 0⟩]⟩,
  ⟨R.PMB_MBIN, [⟨F.PMB_MBIN_FULL, .rw, 0⟩, ⟨F.PMB_MBIN_RD, .ro, 0⟩, ⟨F.PMB_MBIN_PECOK, .ro, 0⟩, ⟨F.PMB_MBIN_LEN, .ro, 0⟩, ⟨F.PMB_MBIN_PAGE, .ro, 0⟩, ⟨F.PMB_MBIN_CODE, .ro, 0⟩]⟩,
  ⟨R.PMB_MBIND, [⟨F.PMB_MBIND_DATA, .ro, 0⟩]⟩,
  ⟨R.PMB_MBOUT, [⟨F.PMB_MBOUT_READY, .w1s, 0⟩, ⟨F.PMB_MBOUT_LEN, .rw, 0⟩]⟩,
  ⟨R.PMB_MBOUTD, [⟨F.PMB_MBOUTD_DATA, .rw, 0⟩]⟩,
  ⟨R.PMB_VCNT, [⟨F.PMB_VCNT_COUNT, .rw, 0⟩]⟩,
  ⟨R.PMB_OP, [⟨F.PMB_OP_MARGACT, .ro, 0⟩, ⟨F.PMB_OP_ONOFF, .rw, 24⟩, ⟨F.PMB_OP_OPER, .rw, 0⟩]⟩,
  ⟨R.PMB_MARG, [⟨F.PMB_MARG_HIGH, .rw, 0⟩, ⟨F.PMB_MARG_LOW, .rw, 0⟩]⟩,
  ⟨R.PMB_OV, [⟨F.PMB_OV_OV, .rw, 1048575⟩]⟩,
  ⟨R.PMB_OC, [⟨F.PMB_OC_OC, .rw, 16777215⟩]⟩,
  ⟨R.PMB_OT, [⟨F.PMB_OT_OT, .rw, 32767⟩]⟩,
  ⟨R.PMB_ST, [⟨F.PMB_ST_PGN, .ro, 1⟩, ⟨F.PMB_ST_OFF, .ro, 1⟩, ⟨F.PMB_ST_TEMP, .w1c, 0⟩, ⟨F.PMB_ST_IOUT, .w1c, 0⟩, ⟨F.PMB_ST_VOUT, .w1c, 0⟩]⟩]

/-- Field tables of the PMC block. -/
def regsPMC : List RegSpec := [
  ⟨R.PMC_CFG, [⟨F.PMC_CFG_ARAEN, .rw, 0⟩, ⟨F.PMC_CFG_RETRY, .rw, 3⟩, ⟨F.PMC_CFG_GF, .rw, 5⟩, ⟨F.PMC_CFG_SPEED, .rw, 1⟩, ⟨F.PMC_CFG_EN, .rw, 0⟩]⟩,
  ⟨R.PMC_CMD, [⟨F.PMC_CMD_GO, .w1s, 0⟩, ⟨F.PMC_CMD_PEC, .rw, 0⟩, ⟨F.PMC_CMD_CMDEN, .rw, 0⟩, ⟨F.PMC_CMD_ADDR, .rw, 0⟩, ⟨F.PMC_CMD_CMD, .rw, 0⟩, ⟨F.PMC_CMD_WLEN, .rw, 0⟩, ⟨F.PMC_CMD_RLEN, .rw, 0⟩]⟩,
  ⟨R.PMC_STAT, [⟨F.PMC_STAT_NACKAT, .ro, 0⟩, ⟨F.PMC_STAT_BUSY, .ro, 0⟩, ⟨F.PMC_STAT_BUS_STUCK, .w1c, 0⟩, ⟨F.PMC_STAT_REFUSED, .w1c, 0⟩, ⟨F.PMC_STAT_TOUT, .w1c, 0⟩, ⟨F.PMC_STAT_PECERR, .w1c, 0⟩, ⟨F.PMC_STAT_ARBLOST, .w1c, 0⟩, ⟨F.PMC_STAT_NACK, .w1c, 0⟩, ⟨F.PMC_STAT_DONE, .w1c, 0⟩]⟩,
  ⟨R.PMC_BUF, [⟨F.PMC_BUF_DATA, .rw, 0⟩]⟩,
  ⟨R.PMC_APRI, [⟨F.PMC_APRI_PRI, .rw, 0⟩]⟩,
  ⟨R.PMC_ALIST, [⟨F.PMC_ALIST_VALID, .ro, 0⟩, ⟨F.PMC_ALIST_COUNT, .ro, 0⟩, ⟨F.PMC_ALIST_ADDR, .ro, 0⟩]⟩]

/-- Field tables of the LCP block. -/
def regsLCP : List RegSpec := [
  ⟨R.LCP_CFG, [⟨F.LCP_CFG_EN, .rw, 0⟩, ⟨F.LCP_CFG_AMASK, .rw, 3⟩]⟩,
  ⟨R.LCP_RMLO, [⟨F.LCP_RMLO_MASK, .rw, 0⟩]⟩,
  ⟨R.LCP_RMHI, [⟨F.LCP_RMHI_MASK, .rw, 0⟩]⟩,
  ⟨R.LCP_STAT, [⟨F.LCP_STAT_LASTOP, .ro, 0⟩, ⟨F.LCP_STAT_LASTCODE, .ro, 0⟩, ⟨F.LCP_STAT_ALAT, .ro, 0⟩, ⟨F.LCP_STAT_REFUSED, .w1c, 0⟩, ⟨F.LCP_STAT_TOUT, .w1c, 0⟩, ⟨F.LCP_STAT_VIOL, .w1c, 0⟩]⟩,
  ⟨R.LCP_VCNT1, [⟨F.LCP_VCNT1_BADCRC, .rw, 0⟩, ⟨F.LCP_VCNT1_BADSYNC, .rw, 0⟩]⟩,
  ⟨R.LCP_VCNT2, [⟨F.LCP_VCNT2_RSVOP, .rw, 0⟩, ⟨F.LCP_VCNT2_SHORT, .rw, 0⟩]⟩,
  ⟨R.LCP_VCNT3, [⟨F.LCP_VCNT3_RAILRANGE, .rw, 0⟩, ⟨F.LCP_VCNT3_LONG, .rw, 0⟩, ⟨F.LCP_VCNT3_TOUT, .rw, 0⟩]⟩,
  ⟨R.LCP_FHOLD0, [⟨F.LCP_FHOLD0_RAILS, .ro, 0⟩]⟩,
  ⟨R.LCP_FHOLD1, [⟨F.LCP_FHOLD1_RAILS, .ro, 0⟩]⟩]

/-- Field tables of the AUD block. -/
def regsAUD : List RegSpec := [
  ⟨R.AUD_PCFG, [⟨F.AUD_PCFG_EN, .rw, 0⟩, ⟨F.AUD_PCFG_SLOTS, .rw, 7⟩, ⟨F.AUD_PCFG_WLEN, .rw, 1⟩, ⟨F.AUD_PCFG_DOZ, .rw, 0⟩, ⟨F.AUD_PCFG_DLY, .rw, 1⟩, ⟨F.AUD_PCFG_FSW, .rw, 0⟩, ⟨F.AUD_PCFG_FSPOL, .rw, 0⟩, ⟨F.AUD_PCFG_BPOL, .rw, 0⟩, ⟨F.AUD_PCFG_FMT, .rw, 2⟩]⟩,
  ⟨R.AUD_PSTAT, [⟨F.AUD_PSTAT_PART, .rw, 0⟩, ⟨F.AUD_PSTAT_MASTER, .ro, 0⟩, ⟨F.AUD_PSTAT_LOST, .ro, 0⟩, ⟨F.AUD_PSTAT_LONG, .w1c, 0⟩, ⟨F.AUD_PSTAT_BCLKOK, .ro, 0⟩]⟩,
  ⟨R.AUD_GFS, [⟨F.AUD_GFS_FS, .rw, 1⟩]⟩,
  ⟨R.AUD_CTRL, [⟨F.AUD_CTRL_MDIV, .rw, 0⟩, ⟨F.AUD_CTRL_MCLKOE, .rw, 0⟩]⟩,
  ⟨R.AUD_MCLKF, [⟨F.AUD_MCLKF_F, .ro, 0⟩]⟩,
  ⟨R.AUD_STAT, [⟨F.AUD_STAT_PLOST, .w1c, 0⟩, ⟨F.AUD_STAT_REFUSED, .w1c, 0⟩]⟩,
  ⟨R.AUD_CHSRC, [⟨F.AUD_CHSRC_EN, .rw, 1⟩, ⟨F.AUD_CHSRC_PORT, .rw, 0⟩, ⟨F.AUD_CHSRC_SLOT, .rw, 0⟩]⟩]

/-- Field tables of the HSP block. -/
def regsHSP : List RegSpec := [
  ⟨R.HSP_STAT, [⟨F.HSP_STAT_UNDER, .w1c, 0⟩, ⟨F.HSP_STAT_ERR, .w1c, 0⟩]⟩]

/-- Field tables of the YDP block. -/
def regsYDP : List RegSpec := [
  ⟨R.YDP_CTRL, [⟨F.YDP_CTRL_STEPIM, .rw, 0⟩, ⟨F.YDP_CTRL_LOCK, .w1s, 0⟩, ⟨F.YDP_CTRL_DIS, .rws, 0⟩]⟩,
  ⟨R.YDP_STAT, [⟨F.YDP_STAT_BPHIT, .w1c, 0⟩, ⟨F.YDP_STAT_BERR, .w1c, 0⟩, ⟨F.YDP_STAT_BHALT, .ro, 0⟩, ⟨F.YDP_STAT_HALT, .ro, 0⟩]⟩,
  ⟨R.YDP_BP, [⟨F.YDP_BP_ADDR, .rw, 0⟩, ⟨F.YDP_BP_EN, .rw, 0⟩]⟩]

/-- Field tables of the TMR block. -/
def regsTMR : List RegSpec := [
  ⟨R.TMR_CTL, [⟨F.TMR_CTL_EN, .rw, 0⟩, ⟨F.TMR_CTL_PER, .rw, 0⟩, ⟨F.TMR_CTL_IE, .rw, 0⟩, ⟨F.TMR_CTL_FLAG, .w1c, 0⟩, ⟨F.TMR_CTL_PRE, .rw, 0⟩]⟩,
  ⟨R.TMR_LOAD, [⟨F.TMR_LOAD_LOAD, .rw, 0⟩]⟩,
  ⟨R.TMR_CNT, [⟨F.TMR_CNT_CNT, .ro, 0⟩]⟩,
  ⟨R.TMR_TIMELO, [⟨F.TMR_TIMELO_TIME, .ro, 0⟩]⟩,
  ⟨R.TMR_TIMEHI, [⟨F.TMR_TIMEHI_TIME, .ro, 0⟩]⟩,
  ⟨R.TMR_WDCFG, [⟨F.TMR_WDCFG_EN, .rwl, 0⟩, ⟨F.TMR_WDCFG_RST, .rwl, 1⟩, ⟨F.TMR_WDCFG_LOCK, .w1s, 0⟩, ⟨F.TMR_WDCFG_WARN, .rwl, 0⟩, ⟨F.TMR_WDCFG_TIMEOUT, .rwl, 1000⟩]⟩,
  ⟨R.TMR_WDKICK, [⟨F.TMR_WDKICK_KICK, .wo, 0⟩]⟩,
  ⟨R.TMR_WDCNT, [⟨F.TMR_WDCNT_LEFT, .ro, 0⟩]⟩,
  ⟨R.TMR_STAT, [⟨F.TMR_STAT_REFUSED, .w1c, 0⟩, ⟨F.TMR_STAT_WDEXP, .w1c, 0⟩, ⟨F.TMR_STAT_WDWARN, .w1c, 0⟩]⟩]

/-- Field tables of the GPIO block. -/
def regsGPIO : List RegSpec := [
  ⟨R.GPIO_CFG, [⟨F.GPIO_CFG_IE, .rw, 0⟩, ⟨F.GPIO_CFG_EDGE, .rw, 0⟩, ⟨F.GPIO_CFG_FLT, .rw, 0⟩, ⟨F.GPIO_CFG_PULL, .rw, 0⟩, ⟨F.GPIO_CFG_MODE, .rw, 0⟩]⟩,
  ⟨R.GPIO_IN, [⟨F.GPIO_IN_IN, .ro, 0⟩]⟩,
  ⟨R.GPIO_OUT, [⟨F.GPIO_OUT_OUT, .rw, 0⟩]⟩,
  ⟨R.GPIO_FLAG, [⟨F.GPIO_FLAG_REFUSED, .w1c, 0⟩, ⟨F.GPIO_FLAG_FLAG, .w1c, 0⟩]⟩,
  ⟨R.GPIO_PDW, [⟨F.GPIO_PDW_W, .rw, 100⟩]⟩,
  ⟨R.GPIO_PD, [⟨F.GPIO_PD_VALID, .ro, 0⟩, ⟨F.GPIO_PD_PD, .ro, 0⟩]⟩]

/-- The field tables of block number `n` of R25. -/
def blockRegs (n : Nat) : List RegSpec :=
  match n with
  | 0 => regsSYS
  | 1 => regsICU
  | 2 => regsDMA
  | 3 => regsTB
  | 4 => regsPWM
  | 5 => regsFLK
  | 6 => regsMICA
  | 7 => regsBSL
  | 8 => regsSAF
  | 9 => regsRAIL
  | 10 => regsPOOL
  | 11 => regsCLV
  | 12 => regsADC
  | 13 => regsWMON
  | 14 => regsFLT
  | 15 => regsGRN
  | 16 => regsNVMC
  | 17 => regsPMB
  | 18 => regsPMC
  | 19 => regsLCP
  | 20 => regsAUD
  | 21 => regsHSP
  | 22 => regsYDP
  | 23 => regsTMR
  | 24 => regsGPIO
  | _ => []

/-- The address of instance `i` of a register (R6). -/
def RegAt.addr (r : RegAt) (i : Nat) : Nat := r.base + r.stride * i

/-- Whether an address is one of the register's instances. -/
def RegAt.covers (r : RegAt) (a : Nat) : Bool :=
  decide (r.base ≤ a) && decide ((a - r.base) / r.stride < r.count) &&
    decide ((a - r.base) % r.stride % 4 = 0) && decide ((a - r.base) % r.stride / 4 < r.sub)

/-- The instance number an address names in the register. -/
def RegAt.inst (r : RegAt) (a : Nat) : Nat := (a - r.base) / r.stride

/-- The block number of a peripheral address (R25). -/
def blockOf (a : Nat) : Nat := (a - 0x40000000) / 0x10000

/-- The register an address names, if the manual defines one there. -/
def regSpecAt (a : Nat) : Option RegSpec := (blockRegs (blockOf a)).find? (fun r => r.reg.covers a)

/-- Reset word of a field table. -/
def fieldsReset : List FieldSpec → Nat
  | [] => 0
  | f :: t => f.reset * 2 ^ f.fld.lo + fieldsReset t

/-- Reset words that differ from one instance to the next, or that the manual gives outside the field table:
HOME and the current rail of a phase, CHSRC of a channel, the ROM program directory of R117, the slice states of R272,
the fixed initial pointers of R323 and the supplies above their warning levels (log entry 48). -/
def specialReset (a : Nat) : Option Nat :=
  if R.POOL_PCFG.covers a then
    let p := R.POOL_PCFG.inst a
    some (63 * 2 ^ 24 + min (p / 2) 62 * 2 ^ 16 + 256)
  else if R.POOL_PSTAT.covers a then some (min (R.POOL_PSTAT.inst a / 2) 62 * 2 ^ 8)
  else if R.AUD_CHSRC.covers a then
    let c := R.AUD_CHSRC.inst a
    some (2 ^ 31 + c / 8 * 16 + c % 8)
  else if R.BSL_PCOST.covers a then
    match R.BSL_PCOST.inst a with
    | 0 => some (64 * 2 ^ 16)
    | 1 => some (2 ^ 28 + 56 * 2 ^ 16)
    | 2 => some (40 * 2 ^ 16)
    | 3 => some (2 ^ 26 + 24 * 2 ^ 16)
    | 4 => some (2 ^ 28 + 2 ^ 26 + 22 * 2 ^ 16)
    | 5 => some (2 ^ 26 + 18 * 2 ^ 16)
    | 6 => some (2 * 2 ^ 26 + 48 * 2 ^ 16)
    | _ => some 0
  else if a = R.SYS_ID.base then some (0x9063 * 2 ^ 16 + Config.siliconRev.toNat)
  else if a = R.GRN_HEAD.base then some 0xFFFFFFFF
  else if a = R.SYS_SUPST.base then some 0x7F
  else if R.ADC_SL.covers a then
    let i := R.ADC_SL.inst a
    some (if i % 9 = 8 then 2 ^ 30 + 127 * 2 ^ 23 else (i / 9 * 8 + i % 9) * 2 ^ 23)
  else none

/-- The value every peripheral register holds at cold reset: the field table's, or the special one. -/
def resetWord (a : Nat) : Word :=
  match specialReset a with
  | some n => BitVec.ofNat 32 n
  | none =>
    match regSpecAt a with
    | some r => BitVec.ofNat 32 (fieldsReset r.fields)
    | none => 0

end Sys2Proof.Machine
end

