-- ==== Sys2Proof/Machine/State.lean ====
section
/-! DEFINITION. The state of the part as plain data: the queue of waiting commands, the register bank, the
memories, time, and the internal state the spec gives each block beside its registers. -/
namespace Sys2Proof.Machine

/-- Reasons for a step to stop with a fault. No meaning of this model stops with one: a bus error, a refused
write or a protocol violation is an effect of the part on its own state. Safe. -/
inductive Fault where
  /-- Kept for the interface; raised by nobody. -/
  | none
deriving DecidableEq, Repr

/-- Reasons for refusing a command. -/
inductive Refusal where
  /-- A row of the table whose meaning is not written; raised by exec's own arm only. Safe: the step stops. -/
  | notModelled (mnemonic : String)
deriving DecidableEq, Repr

/-! ## Faults and Garnet (R301 to R330) -/

/-- A Garnet record before it has its sequence number (R320). -/
structure GRec where
  code : Nat
  source : Nat
  sev : Nat
  esc : Bool := false
  osev : Nat := 0
  ts : Nat := 0
  tbl : Bool := false
  qovf : Bool := false
  hnd : Bool := false
  data0 : Nat := 0
  data1 : Nat := 0
  data2 : Nat := 0
  /-- The model's own number of the record, by which a fault-queue entry finds its SEQ. -/
  tag : Nat := 0
  repeats : Nat := 0
deriving DecidableEq, Repr

/-- Garnet beside its registers and its ring in memory (R323 to R329). -/
structure Garnet where
  /-- Input queue of R324, oldest first, at most 64. -/
  queue : List GRec := []
  /-- Records lost since the last record of code 0x3C02 (R324). -/
  lostSince : Nat := 0
  /-- The newest record written to the ring, for the repeat rule of R325. -/
  newest : Option GRec := none
  /-- Freeze buffer of R326, oldest first, at most 64. -/
  buffer : List GRec := []
  /-- GRN_SWD words of each initiator (R327), key 4 * initiator + k. -/
  swd : Store (BitVec 32) := []
  /-- Copies waiting for the NVM log region, oldest first, at most 64 (R328, R329): the record and its SEQ. -/
  mirror : List (GRec × Nat) := []
  /-- Number given to the next record. -/
  nextTag : Nat := 0
deriving DecidableEq, Repr

/-- An entry of a fault queue (R310, R314). -/
structure FaultEntry where
  code : Nat
  rail : Nat
  sev : Nat
  tag : Nat
  seq : Nat := 0
  applied : Bool := false
  /-- Rails on which the entry is only a record, judged when it was raised (R313, R317). -/
  mute : List Nat := []
  /-- SOURCE of its record, and the lane of a LANELOSS entry. -/
  source : Nat := 0
  lane : Nat := 0
deriving DecidableEq, Repr

/-- LIMIT responses in force on a rail, and the latches it holds (R305, R308, R311). -/
structure RailFault where
  /-- A LIMIT response other than LANELOSS is in force. -/
  limit : Bool := false
  /-- LANELOSS responses in force, and the lanes they are for (R203). -/
  laneLoss : Bool := false
  lossLanes : List Nat := []
  /-- Code of the most severe response of the rail's own, a DEVICE response apart (R308). -/
  ownCode : Nat := 0
  /-- A latched fault other than a DEVICE fault. -/
  latch : Bool := false
  /-- The DEVICE latch of R308. -/
  deviceLatch : Bool := false
  /-- The rail's discharge in progress is active (R306). -/
  activeDis : Bool := false
  /-- A TRIP or LATCH response of the rail's own is in force (R311). -/
  trip : Bool := false
  /-- VEND of the discharge in progress (R306). -/
  vend : Nat := 0
deriving DecidableEq, Repr

/-- The fault manager beside its registers. -/
structure FaultMgr where
  /-- All queued entries, in raising order. -/
  queue : List FaultEntry := []
  rails : Store RailFault := []
  /-- The fault that raised the DEVICE response in force was SUPPLY (R308). -/
  bySupply : Bool := false
deriving DecidableEq, Repr

/-! ## Timebase and PWM (R155 to R181) -/

/-- A PERIOD write before admission: value, writer, and the register's address (R162). -/
structure PendPeriod where
  value : Nat
  who : Initiator
  addr : Nat
deriving DecidableEq, Repr

/-- One phase counter beside its registers. -/
structure PwmPhase where
  /-- The counter, 0 to L - 1. -/
  cnt : Nat := 0
  /-- PERIOD in force (L less any lengthening of R168). -/
  period : Nat := 1000
  /-- DUTY in force. -/
  duty : Nat := 0
  /-- OFFSET in force. -/
  offset : Nat := 0
  /-- CMPB tick in force, or none for the period. -/
  cmpb : Nat := 0
  /-- Computed at the snapshot, in force from the wrap (R163): L, PERIOD, CMPA, CMPB tick. -/
  nextL : Nat := 1000
  nextPeriod : Nat := 1000
  nextCmpa : Nat := 0
  nextCmpb : Nat := 0
  /-- A PERIOD accepted into the shadow and not yet transferred (R165). -/
  perNew : Bool := false
  /-- Snapshots since that acceptance (R165). -/
  perSnaps : Nat := 0
  /-- A DUTY landed in the shadow since that acceptance (R165). -/
  dutySince : Bool := false
  /-- Tick at which a DUTY landed last, since the last snapshot (R166). -/
  dutyAt : Option Nat := none
  /-- The PERIOD write that admission is deciding (R162). -/
  pendPeriod : Option PendPeriod := none
  /-- A snapshot of the present period has been taken: the counter is in the lock window. -/
  locked : Bool := false
  /-- Early error of R168, in ticks. -/
  err : Nat := 0
  /-- Prescaler counts of the four events (R171). -/
  psZero : Nat := 0
  psPeriod : Nat := 0
  psCmpa : Nat := 0
  psCmpb : Nat := 0
  /-- The PWM pin is high. -/
  pin : Bool := false
  /-- Fraction of a tick, in 1/32, at which the delay line placed the pin's last falling edge at CMPA (R159, R160). -/
  frac : Nat := 0
  /-- Blanking windows open (R174). -/
  blank : Nat := 0
  /-- The present period is limited cycle by cycle, and the run's fault has been raised (R175). -/
  limited : Bool := false
  limitRun : Bool := false
  /-- Switching is permitted by the pool and starts at the next ZERO (R169). -/
  start : Bool := false
deriving DecidableEq, Repr

/-- Rail synchronisation (R167, R168). -/
structure RailSync where
  /-- ZEROs of the origin-defining phase since the last periodic sync event. -/
  zeros : Nat := 0
  /-- The lead phase when the last ZERO was taken, to see it change (R79). -/
  lead : Option Nat := none
  /-- Divide-by-N count of the voltage task (R79). -/
  div : Nat := 0
deriving DecidableEq, Repr

/-- A write of PWM_SAFEREL of the present tick (R180): its tick, writer and value, the lanes it released, and whether it was refused. -/
structure SafeRel where
  tick : Nat
  who : Initiator
  value : Word
  lanes : List Nat
  refused : Bool
deriving DecidableEq, Repr

/-- The timebase beside its registers. -/
structure Timebase where
  /-- Ticks of TBCLK counted by the timebase since cold reset: the timestamp counter counts one in 64 (R399). -/
  ticks : Nat := 0
  /-- A relock after a TB_CFG write is in progress (R156). -/
  relocking : Bool := false
  /-- Timebase loss has been declared and the reference has not recovered (R157). -/
  lossNow : Bool := false
  /-- Releases of safe state written in the tick of the newest one (R180). -/
  released : List SafeRel := []
  /-- Basalt is halted through the YDP (DBGHALT of R177). -/
  dbgHalt : Bool := false
  /-- The boot image has not been accepted (BOOT of R177). -/
  boot : Bool := true
deriving DecidableEq, Repr

/-! ## Phase pool (R224 to R248) -/

/-- What a move of a phase does when it ends (R236). -/
inductive MoveEnd where
  | park | join | clearPark
deriving DecidableEq, Repr

/-- A move in progress. -/
structure Move where
  /-- The move changes the current rail through STEERING. -/
  steer : Bool
  /-- The steering leads to the guest rail. -/
  toGuest : Bool
  ending : MoveEnd
  /-- Admission has not decided yet: the phase stays where it was (R236). -/
  waiting : Bool := false
  /-- The move answers POOL_LREQ (R245). -/
  request : Bool := false
  /-- Demand reserved under R236, in lane-ops/s. -/
  reserved : Nat := 0
  /-- Plan epoch a speculative move carries until it starts (R243). -/
  epoch : Option Nat := none
  /-- Transitions taken without a record, oldest first: they are recorded if the move does not complete (R228). -/
  trail : List (Nat × Nat) := []
deriving DecidableEq, Repr

/-- One phase in the pool, beside its registers. -/
structure PoolPhase where
  /-- Ramp value of R232. -/
  ramp : Nat := 0
  move : Option Move := none
  /-- Consecutive accepted reports below I_ZERO after F reached 0 (R228). -/
  low : Nat := 0
  /-- The open of R238 has been confirmed; a further wait of STEER_DEAD has closed the switch. -/
  openConf : Bool := false
  closed : Bool := false
  settled : Bool := false
  /-- The STEER field the command carries: 0, 1 home, 2 guest, 3 both open. -/
  steerCmd : Nat := 0
  /-- An accepted report of the present epoch exists, and it has ILIM = 0 and SEGF = 0 (R229). -/
  reported : Bool := false
  ready : Bool := false
  /-- A report of the present epoch has arrived outside STEERING: a loop may receive it (R83, R235). -/
  inLoop : Bool := false
  /-- The rail before the last STEERING (R234). -/
  oldRail : Nat := 63
  /-- Newest report of the present epoch (R93): current, stage temperature, and whether it arrived since the last dispatch. -/
  imeas : Int := 0
  fresh : Bool := false
  temp : Int := 0
  /-- Newest report attributed to a rail, whichever (R234): its current and the rail. -/
  repI : Int := 0
  repRail : Nat := 63
  /-- Ticks the phase has switched before its present stretch, and where that began (R443). -/
  swAcc : Nat := 0
  swFrom : Nat := 0
deriving DecidableEq, Repr

/-- Add and shed bookkeeping of a rail (R240 to R243). Times are ticks of the timebase. -/
structure PoolRail where
  addHeld : Option Nat := none
  shedHeld : Option Nat := none
  lastAdd : Option Nat := none
  lastShed : Option Nat := none
  /-- A speculative add not yet started: plan epoch at issue. -/
  spec : Option Nat := none
deriving DecidableEq, Repr

/-- A speculative request taken through POOL_LREQ that waits for its start (R243, R244). -/
structure PoolReq where
  phase : Nat
  op : Nat
  epoch : Nat
deriving DecidableEq, Repr

structure Pool where
  phases : Store PoolPhase := []
  rails : Store PoolRail := []
  request : Option PoolReq := none
deriving DecidableEq, Repr

/-! ## Basalt (R78 to R120, R142 to R154) -/

/-- A triggered invocation that has not been dispatched. -/
structure Ready where
  task : Task
  gen : Nat
  deadline : Nat
  lane : Nat
deriving DecidableEq, Repr

/-- A running invocation with its registers and private copy (R80, R142, R151). -/
structure Run where
  task : Task
  gen : Nat
  deadline : Nat
  /-- Slot of the program, its format (1 block floating-point), COST, and its extent in LPM. -/
  slot : Nat
  fmt : Nat
  cost : Nat
  /-- Lane-ops used so far (R100). -/
  used : Nat := 1
  /-- Next instruction word in the slot (0 based). -/
  ip : Nat := 0
  /-- The program ran at least one instruction that came as a command. -/
  stepped : Bool := false
  /-- acc0 to acc7, d0 to d15, p0 to p3. -/
  acc : Store Int := []
  d : Store (BitVec 32) := []
  p : Store Nat := []
  /-- p0 and p1 as set at dispatch. -/
  base : Nat := 0
  coef : Nat := 0
  /-- Input ports 0 to 15 as sampled at dispatch, widened under R143. -/
  ports : Store (BitVec 32) := []
  /-- The rail whose profile and limits the task uses. -/
  rail : Nat := 63
  /-- LSM words stored, by word index (R151). -/
  writes : Store (Option (BitVec 32)) := []
  /-- Values emitted to ports 16 to 19. -/
  duty : Option Int := none
  width : Option (BitVec 32) := none
  iref : Option Int := none
  vset : Option Int := none
  /-- Operands of the last FERR (R148). -/
  ferr : Option (Int × Int) := none
  /-- Bands and entry of the last GW executed (R208). -/
  gw : Option (Nat × Nat × Nat) := none
  /-- Dispatch data the commit needs: SETP and whether the report was fresh. -/
  setp : Nat := 0
  fresh : Bool := false
  /-- The sink limit in force, RAIL_CRAIL's enables and the following-error limit as they stood at dispatch: a write of them
  applies from the next dispatch. -/
  sink : Nat := 0
  sff : Bool := false
  vff : Bool := false
  feLim : Nat := 0
deriving DecidableEq, Repr

/-- One lane. -/
structure Lane where
  run : Option Run := none
  /-- A suspended optional invocation (R82). -/
  held : Option Run := none
  /-- Lane-ops executed and busy time in the present interval (R106). -/
  ops : Nat := 0
  /-- A self-check is running (BSL_LANEEN). -/
  check : Bool := false
deriving DecidableEq, Repr

/-- The voltage task and the set-point of a rail. -/
structure BslRail where
  gen : Nat := 0
  lane : Nat := 0
  placed : Bool := false
  /-- Previous SETP (R86) and the tick of the previous dispatch. -/
  setp : Nat := 0
  last : Nat := 0
  /-- Target after clamping, held while a follow input has no valid value (R84). -/
  target : Option Nat := none
  /-- VSET committed (R88). -/
  vset : Nat := 0
  /-- Following-error count of the voltage task and whether its fault was raised (R115, R116). -/
  ferr : Nat := 0
  ferrRaised : Bool := false
  /-- No invocation since the rail entered its present state (port 14). -/
  first : Bool := true
  /-- VRAIL at entry to SOFTSTART is SETP's start (R87). -/
  soft : Bool := false
  /-- Bands of the task's last committed GW (R208). -/
  bprev : Nat := 0
  tprev : Nat := 0
  /-- A request of RAIL_LCMD.RET waits for admission, and who wrote it (R104). -/
  retPend : Option Initiator := none
  /-- The hold in ARMING of R77 has been recorded. -/
  noPlan : Bool := false
  /-- RAIL_ILIM, RAIL_ISINK and RAIL_DERATE.F as of the last voltage-task dispatch, from which a write of them applies. -/
  ilim : Nat := 0
  isink : Nat := 0
  derate : Nat := 16384
  /-- Re-admission has told the rail to shut, and it has not reached OFF since (R38). -/
  shut : Bool := false
  /-- The rail's OPT load-band hint, which OSCAN refreshes (R117). -/
  hint : Word := 0
deriving DecidableEq, Repr

/-- A current task beside BSL_PTASK. -/
structure BslPhase where
  gen : Nat := 0
  placed : Bool := false
  ferr : Nat := 0
  ferrRaised : Bool := false
  first : Bool := true
  bprev : Nat := 0
  tprev : Nat := 0
  /-- OPT entry last selected for the phase (R201, R203). -/
  sel : Option Nat := none
  /-- Width codes last committed. -/
  width : BitVec 32 := 0
deriving DecidableEq, Repr

structure Basalt where
  ready : List Ready := []
  lanes : Store Lane := []
  rails : Store BslRail := []
  phases : Store BslPhase := []
  /-- Generation of each optional task (R113). -/
  optGens : Store Nat := []
  /-- Re-admission runs (R38). -/
  readmit : Bool := false
  /-- The last update of the live margin found HEAD below its threshold (R106). -/
  headLow : Bool := false
deriving DecidableEq, Repr

/-! ## Saffron (R42 to R77) -/

/-- A knot (R59). -/
structure Knot where
  v : Nat
  epoch : Nat
  ceil : Bool
  short : Bool
  slope : Int
  k : Int
deriving DecidableEq, Repr

/-- A run of frames over VMAX or short of the need (R53, R61): first frame, length, peak, and whether clip guard was on when it
began (SAF_RCFG.CG takes effect on the next run). -/
structure FrameRun where
  first : Int
  len : Nat
  peak : Nat
  guard : Bool
deriving DecidableEq, Repr

/-- The settings of a rail that R76 lets Saffron use from the next entry to TRACK only. -/
structure PlanCfg where
  tp : Bool
  relEn : Bool
  vmin : Nat
  vmax : Nat
  srUp : Nat
  srDown : Nat
  holdT : Nat
  relTau : Nat
deriving DecidableEq, Repr

/-- The plan of one rail. Hull values are in 1/256 RV. -/
structure Plan where
  /-- The settings in use since the last plan start (R76); none while the rail has no plan. -/
  cfg : Option PlanCfg := none
  /-- Tick of the last squash: another one of that tick is of the same moment (R69). -/
  squashAt : Option Nat := none
  fifo : List Knot := []
  /-- The knot in force, consumed last. -/
  cur : Option Knot := none
  /-- Next knot to produce. -/
  nextK : Int := 0
  /-- Last frame whose hull has been computed, with the values back from it, newest first (those of frames that the
  output has left behind by more than 16 are dropped). -/
  hullT : Int := -1
  hull : List Int := []
  hold : Nat := 0
  ceilRun : Option FrameRun := none
  shortRun : Option FrameRun := none
  /-- Frames of recent shortfall and ceiling, for the knots' flags: (frame, ceiling, shortfall). -/
  marks : List (Int × Bool × Bool) := []
  /-- gain_eff of each channel and V_DROP + margin at the last completed plan (R65). -/
  gainAt : Store (Option Nat) := []
  addAt : Nat := 0
  /-- Guarded trajectory value of the last frame, in 1/256 RV, and the run of frames in which it falls short (R65). -/
  guarded : Option Nat := none
  guardRun : Option FrameRun := none
  /-- The trajectory of the rest of the frame in which a recompute completed, in RV (R69). -/
  finish : Option Nat := none
  /-- A seed is held until the recompute completes (R64), or the first new knot is held (R64). -/
  seed : Option Nat := none
  heldKnot : Bool := false
  underrun : Bool := false
  /-- The missing knot whose underrun was counted last (R58). -/
  lacking : Option Int := none
deriving DecidableEq, Repr

/-- One rail group beside its registers. -/
structure Group where
  /-- Index of the newest input frame stored. -/
  inFrame : Int := -1
  /-- Last complete frame before a loss (R72). -/
  lastComplete : Int := -1
  /-- Candidate frames counted while acquiring (R73). -/
  cand : Nat := 0
  /-- Period of the candidate frame 0, in ticks (R365). -/
  candPeriod : Nat := 0
  /-- Missing syncs in a row (R71). -/
  missing : Nat := 0
  /-- Frame period measured last, and tick of the last sync and of the present output frame. -/
  period : Nat := 0
  lastSync : Nat := 0
  outStart : Nat := 0
  /-- The newest sync of the master was on time and ended a complete frame, so it steers the frame counter (R44). -/
  steer : Bool := false
  /-- The group has entered LOST and not locked since: its audio ends at `lastComplete` (R72). -/
  lost : Bool := false
  /-- The buffered audio was discarded: zeros until the new timeline (R75). -/
  silent : Bool := true
  /-- A depth change waits for the next frame sync (R75). -/
  depthRestart : Bool := false
  /-- A change of timeline master: ACQUIRE at its next sync, while the buffered frames play on (R370). -/
  handover : Bool := false
  /-- BCLK stopped inside the frame in progress, which is counted already (R364, log entry 50). -/
  stopped : Bool := false
  /-- The frame in progress is stored already, and a sync inside it was missing (R71, R367). -/
  judged : Bool := false
deriving DecidableEq, Repr

/-- A channel's silence up to a safe frame (R67, R68): the frame from which it counts again. -/
structure Chan where
  zeroed : Bool := false
  safeAt : Option Int := none
  /-- The 3 frames of delay behind the look-ahead buffer (R14): the LAB words of the output frame now leaving and of the next
  three, as they were read from the buffer. -/
  pipe : List Word := [0, 0, 0, 0]
  /-- Budget-limiter gain applied to the channel, 32,768 = 1.0. -/
  gain : Nat := 32768
  /-- Attenuation requests of clip guard: frame and cap (32,768 = 1.0). -/
  caps : List (Int × Nat) := []
deriving DecidableEq, Repr

/-- An audio port beside its registers (R366): missing or partial frames in a row, and complete ones in a row while LOST. -/
structure AudPort where
  missing : Nat := 0
  good : Nat := 0
  /-- BCLK stopped inside the frame in progress, which is counted already (log entry 50). -/
  stopped : Bool := false
  /-- The frame in progress is judged already, and a sync inside it was missing (R366). -/
  judged : Bool := false
  /-- The frame the port sends, slot by slot (R367); none is a slot left at high impedance (R362). -/
  sent : List (Option Word) := []
  /-- Where BCLK stopped inside that frame, the bits of it that were shifted out (R368). -/
  shifted : Option Nat := none
deriving DecidableEq, Repr

structure Saffron where
  plans : Store Plan := []
  groups : Store Group := []
  chans : Store Chan := []
  ports : Store AudPort := []
deriving DecidableEq, Repr

/-! ## The fabric (R18 to R24) -/

/-- The reply to the newest fabric access: what the initiator sees. -/
structure BusReply where
  data : BitVec 64 := 0
  error : Bool := false
deriving DecidableEq, Repr

/-! ## Flint and Mica (R182 to R223) -/

/-- What one of Mica's transactions belongs to: bring-up's configuration (R200), a rewrite of a source that changed (R201), a job, or
the survey. -/
inductive MicaWork where
  | config | rewrite | job | survey
deriving DecidableEq, Repr

/-- A job of Mica on a stage's management channel: to read its fault list (R215), rebuild a side (R216), rotate (R217). -/
inductive MicaJob where
  | faults (p : Nat)
  | rebuild (p : Nat) (low : Bool)
  | rotate (p : Nat)
deriving DecidableEq, Repr

/-- The management transaction a lane carries (R196, R197). -/
structure FlkTrans where
  /-- A raw transaction of FLK_MCMD; else one of Mica's. -/
  raw : Bool
  work : MicaWork := .config
  pos : Nat
  wr : Bool
  addr : Nat
  len : Nat
  /-- Words to write. -/
  data : List Nat
  tag : Nat
  /-- Words sent so far, and retries taken. -/
  sent : Nat := 0
  tries : Nat := 0
deriving DecidableEq, Repr

/-- One lane beside its registers. -/
structure FlkLane where
  /-- Frame count of SEQ, and the tag of the next transaction. -/
  seq : Nat := 0
  tag : Nat := 0
  trans : Option FlkTrans := none
  /-- Step of the configuration that bring-up has reached (R200). -/
  bring : Nat := 0
  /-- Faults that SEGFN of the stage being configured gave, and the usable counts staged for it. -/
  faults : Nat := 0
  stagedHs : Nat := 0
  stagedLs : Nat := 0
  /-- The last transaction started was a raw one: Mica's is next (R197). -/
  rawLast : Bool := false
  /-- Symbols 1 to 69 of the frame sent last. -/
  sent : List Byte := []
  /-- Mica's jobs on the lane, the one under way first, and the step it has reached. -/
  jobs : List MicaJob := []
  step : Nat := 0
  /-- Order and usable count of the rebuild under way, as formed when it began. -/
  order : List Nat := []
  usable : Nat := 0
  /-- Words of the response so far, and whether one of its frames was not valid (R197). -/
  resp : List Nat := []
  broken : Bool := false
deriving DecidableEq, Repr

/-- What was last written to a stage (R201): STO, default width codes, ILOCAL. -/
structure StageCfg where
  sto : Nat
  hs : Nat
  ls : Nat
  ilocal : Nat
deriving DecidableEq, Repr

structure Flint where
  lanes : Store FlkLane := []
  stages : Store (Option StageCfg) := []
deriving DecidableEq, Repr

/-- The segments of a side lit since its codes or its rotation last changed (R218): width code, rotation offset and usable count in
force, and the ticks for which they were lit. -/
structure Glow where
  w : Nat := 0
  r : Nat := 0
  u : Nat := 0
  ticks : Nat := 0
deriving DecidableEq, Repr

/-- Mica beside its registers. -/
structure Mica where
  /-- Place in the survey's order of the stage being surveyed, and the step its survey has reached. -/
  survey : Option Nat := none
  surveyStep : Nat := 0
  /-- Ticks of a phase's switching up to which its rotation intervals are counted (R217). -/
  rotSw : Store Nat := []
  /-- Lit time of each segment in ticks, key 2048 * phase + 1024 * side + segment, but for the stretch that runs (R218). -/
  lit : Store Nat := []
  glow : Store Glow := []
  /-- Sides that MICA_CTRL.REBUILD has still to rebuild, as 2 * phase + side. -/
  due : List Nat := []
  /-- Lighting order last downloaded, by 2 * phase + side. -/
  orders : Store (List Nat) := []
deriving DecidableEq, Repr

/-! ## Clove (R249 to R269). Its live quantities are exact numbers; the registers show them rounded down. -/

/-- Clove's state of one rail. -/
structure CloveRail where
  /-- Factor of the limit of R263 at the last tick. -/
  limit : Rat := 1
  /-- Correction factor K of R252. -/
  k : Rat := 1
  /-- Fraction of a mJ carried in the energy counter (R250). -/
  carry : Rat := 0
  /-- The rail was in TRACK at the last tick. -/
  track : Bool := false
deriving DecidableEq, Repr

/-- Clove's state of one phase: thermal states of R261 and the tick of the last rotation asked for (R262). -/
structure ClovePhase where
  theta1 : Rat := 0
  theta2 : Rat := 0
  rotAt : Option Nat := none
  /-- A rotation step is asked for and not yet taken. -/
  rotate : Bool := false
deriving DecidableEq, Repr

structure Clove where
  pavg : Rat := 0
  /-- Tick of the last evaluation, and the required gains q of its bins, from bin 0 (R258). -/
  tickAt : Nat := 0
  q : List Nat := []
  /-- CLV_CTRL.STEPEN as of the last tick, from which a write of it applies. -/
  stepen : Nat := 31
  rails : Store CloveRail := []
  phases : Store ClovePhase := []
  /-- Consecutive quiet ticks (R254). -/
  quiet : Nat := 0
  /-- The bus slice gives no valid conversion (R269). -/
  noBus : Bool := false
deriving DecidableEq, Repr

/-! ## Sensing (R271 to R300) -/

/-- One sense point beside its registers. -/
structure SensePoint where
  /-- Newest valid MUX 0 code, and its value in RV under the scaling at its result (R277). -/
  code : Int := 0
  rv : Nat := 0
  /-- Tick of the newest valid MUX 0 result (R290). -/
  lastValid : Nat := 0
  /-- Words still to discard after a restart (R274). -/
  drop : Nat := 2
  /-- Words whose filter window still holds a moment without reference (R276). -/
  bad : Nat := 0
  /-- The reference was not ready at some moment since the last word (R276). -/
  unready : Bool := true
  /-- Modulator clock of the newest trigger, and whether software gave it (R283). -/
  trig : Option (Nat × Bool) := none
  /-- Regular entry in progress and results it has delivered (R278). -/
  entry : Nat := 0
  done : Nat := 0
  /-- Injected entry in progress, with the ADC_ISEQ word the sequence runs under (R279, R283). -/
  inj : Option (Nat × BitVec 32) := none
deriving DecidableEq, Repr

/-- A handover in progress (R284): kept words and code sums of the serving slice and of the spare. -/
structure Handover where
  pos : Nat
  drop : Nat
  nServe : Nat := 0
  sumServe : Int := 0
  nSpare : Nat := 0
  sumSpare : Int := 0
deriving DecidableEq, Repr

/-- One slice group beside its registers. -/
structure SliceGroup where
  /-- Position of the next rotation step. -/
  next : Nat := 0
  step : Option Handover := none
  /-- A rotation step has fallen due and waits (R255, R288). -/
  due : Bool := false
  /-- A test-DAC code written during calibration (R285). -/
  tdac : Option Nat := none
deriving DecidableEq, Repr

/-- One window monitor beside its registers. -/
structure Monitor where
  /-- Newest samples first, at most 15. -/
  samples : List Bool := []
  /-- Samples left of the initial phase (R294). -/
  init : Nat := 0
  /-- Last raw sample, and raw transitions in the present chatter window (R298). -/
  raw : Option Bool := none
  trans : Nat := 0
  force : Bool := false
  /-- The present run of the filtered output has been reported stuck (R297). -/
  stuck : Bool := false
  /-- Sample in which the newest clear was written, and whether it cleared OUT (R299). -/
  clearAt : Option (Nat × Bool) := none
deriving DecidableEq, Repr

/-- Offset and gain corrections of a slice, in codes and ppm (R285). -/
structure SliceCal where
  ofs : Int := 0
  gain : Int := 0
deriving DecidableEq, Repr

structure Adc where
  points : Store SensePoint := []
  cal : Store SliceCal := []
  groups : Store SliceGroup := []
  /-- Tick of the newest valid result of each AUX input (R84). -/
  auxTime : Store Nat := []
  /-- The sweep's group and the rotation steps it has taken there (R287). -/
  sweep : Option (Nat × Nat) := none
  monitors : Store Monitor := []
deriving DecidableEq, Repr

/-! ## Two-wire ports (R331 to R358) -/

/-- A read of a manufacturer command that waits for the program's answer (R352): the bytes of the transaction so far, the
read address among them, and what the controller will take. -/
structure PmbWait where
  crc : List Byte
  count : Nat
deriving DecidableEq, Repr

/-- The PMBus target port beside its registers. -/
structure Pmb where
  /-- The address in use (R332), 64 + straps 0 at first (log entry 58). -/
  address : Nat := 64
  /-- Bytes the port acknowledged in the newest transaction, its address first. -/
  acked : Nat := 0
  /-- Bytes the port sent in the newest transaction. -/
  sent : List Byte := []
  /-- PMB_ALERT_N is asserted. -/
  alert : Bool := false
  /-- STATUS_BYTE.BUSY of each page. -/
  busy : Store Bool := []
  /-- Margin in force or asked for while the rail does not regulate: 0 off, 1 low, 2 high (R342). -/
  margin : Store Nat := []
  wait : Option PmbWait := none
deriving DecidableEq, Repr

/-- The two-wire controller port beside its registers. -/
structure Pmc where
  /-- SDA stayed low after a bus clear, which is repeated (R356). -/
  stuck : Bool := false
  /-- The alert list, head first (R357). -/
  alist : List Nat := []
  /-- PMC_CMD of the transaction in progress, the bytes that the port sends in it, and its retries so far (R354, R355). -/
  cmd : Word := 0
  sent : List Byte := []
  tries : Nat := 0
deriving DecidableEq, Repr

/-! ## Load command ports (R371 to R382) -/

/-- One port beside its registers. -/
structure LcpPort where
  /-- The response that the next burst carries, as CODE, RAIL and DATA; none stands for IDLE (R373). -/
  answer : Option (Nat × Nat × Nat) := none
  /-- The response frame sent in the newest burst, 48 bits. -/
  sent : BitVec 48 := 0
deriving DecidableEq, Repr

/-! ## Supervisory cores, interrupts and timers (R121 to R141, R384 to R404) -/

/-- Core states. A core held in reset (R460) and one whose domain is down are both OFF. -/
inductive CoreState where
  | run | wait | retention | halt | lockup | off
deriving DecidableEq, Repr

/-- One supervisory core: its programmer's model (R122 to R138) and what stands behind it. -/
structure Core where
  st : CoreState := .off
  pc : Word := 0
  /-- g0 to g31. -/
  g : Store Word := []
  ps : Word := 1
  epc : Word := 0
  eps : Word := 0
  ecause : Word := 0
  eaddr : Word := 0
  evbase : Word := 0
  scr0 : Word := 0
  scr1 : Word := 0
  /-- Instructions retired since reset. -/
  iret : Nat := 0
  /-- Holding copies of IRETHI and TIMEHI (R138). -/
  iretHi : Option Word := none
  timeHi : Option Word := none
  /-- Addresses of posted stores that failed and whose bus error has not returned, oldest first (R131). -/
  flight : List Word := []
  /-- Bus errors that have returned and wait for a boundary (R131, R134). -/
  held : List Word := []
  /-- A STEP is in progress: the core halts after one instruction or entry (R476). -/
  stepping : Bool := false
  /-- Breakpoints are ignored for the next instruction (R476). -/
  skipBp : Bool := false
  /-- Watchdog: µs left at tick `wdAt`, and whether the first half of a kick has been written (R400). -/
  wdLeft : Nat := 0
  wdAt : Nat := 0
  wdKey : Bool := false
deriving DecidableEq, Repr

structure Icu where
  /-- WAIT bit of each semaphore (R403). -/
  semWait : BitVec 32 := 0
  /-- Sources being redirected, whose episode has been recorded (R395). -/
  redirected : List Nat := []
deriving DecidableEq, Repr

/-! ## DMA engine (R406 to R425) -/

/-- A descriptor as fetched: word 0, LEN, SRC, DST, pattern, NEXT (R406). -/
structure DmaDesc where
  ctl : Nat := 0
  len : Nat := 0
  src : Nat := 0
  dst : Nat := 0
  pattern : Nat := 0
  next : Nat := 0
deriving DecidableEq, Repr

/-- What the channel's next beat is. -/
inductive DmaStage where
  | fetch | data | readback | status
deriving DecidableEq, Repr

/-- One channel beside its registers. -/
structure DmaChan where
  /-- First descriptor of the chain. -/
  first : Nat := 0
  stage : DmaStage := .fetch
  /-- Beats of the descriptor fetched, and the words they gave. -/
  words : List Nat := []
  desc : DmaDesc := {}
  fetched : Bool := false
  /-- Bytes read on the source side, and bytes written or compared on the destination side. -/
  srcDone : Nat := 0
  dstDone : Nat := 0
  /-- Funnel (R414). -/
  funnel : List Byte := []
  /-- The write of the last byte, for the read-back: address and size (R410). -/
  lastAddr : Nat := 0
  lastSize : Nat := 1
  /-- The beat at hand has been retried this often (R416). -/
  retries : Nat := 0
  /-- A byte of this descriptor differed. -/
  differs : Bool := false
  /-- A byte has differed since the channel was started. -/
  missed : Bool := false
  /-- Beats left in the burst; none between bursts (R418). -/
  burst : Option Nat := none
  /-- Ticks of the burst's first beat and of its newest one (R420). -/
  burstAt : Nat := 0
  lastAt : Nat := 0
  /-- Tick up to which the spacing of R420 runs. -/
  spacedTill : Option Nat := none
  /-- Beats watched while waiting, and the promotion of R419. -/
  watched : Nat := 0
  promoted : Bool := false
  /-- State before parking, and whether the channel is draining for a domain (R422). -/
  before : Nat := 0
  draining : Bool := false
deriving DecidableEq, Repr

structure Dma where
  chans : Store DmaChan := []
  /-- Channel granted last at each level, for the round robin (R418). -/
  lastLow : Nat := 31
  lastHigh : Nat := 31
deriving DecidableEq, Repr

/-! ## Non-volatile memory (R427 to R448) -/

/-- Outcome of a record write that RECORD_WRITE_DONE reports (R438): RESULT, group, slot and SEQ. -/
structure RecordResult where
  result : Nat
  grp : Nat
  slot : Nat
  seq : Nat
deriving DecidableEq, Repr

structure Nvm where
  /-- Bits in error of each 8-byte group, by group index (R429). Only the world brings errors. -/
  errs : Store Nat := []
  /-- Directory entries as last read, by group (R436). -/
  dir : Store (Nat × Nat) := []
  /-- Committed lifetime counters, key 256 * family + i (R443, R446). -/
  counters : Store Nat := []
  /-- Newest record of the counter groups, key 2 * family, and + 1 for the high pair (R444): slot and SEQ. -/
  newest : Store (Option (Nat × Nat)) := []
  /-- CLV_REL of each rail, and switching ticks of each phase, taken into the gathered increments (R443). -/
  energyAt : Store Nat := []
  swTaken : Store Nat := []
  rwr : Option RecordResult := none
  /-- Groups that the scrub in progress has read (R442). -/
  scrubbed : Nat := 0
  /-- Groups that recall found uncorrectable, whose faults wait for its end (R439). -/
  found : List Nat := []
deriving DecidableEq, Repr

/-! ## Power, boot and the outside (R448 to R480) -/

structure Sys where
  /-- The power-failing condition persists (R452). -/
  failing : Bool := false
  /-- Value of ADDR2 to ADDR0 as last sampled (R332, log entry 58). -/
  straps : Nat := 0
  /-- Domains whose power-down, and whose power-up, is under way (R455). -/
  drains : List Nat := []
  ups : List Nat := []
  /-- A domain's drain was ended by R423. -/
  forced : List Nat := []
  /-- The device is in standby (R457). -/
  standby : Bool := false
  /-- A cold reset is in force and has not been released (R450). -/
  inReset : Bool := false
  /-- It is a power-on reset, and these supplies are below their reset levels, as bits of SYS_SUPST.OK (R450, R488). -/
  por : Bool := false
  low : List Nat := []
  /-- VIOP is of the 3.3 V class (R484). -/
  viop33 : Bool := false
  /-- Load offset of a PMBus host image (R467). -/
  offset : Nat := 0
  /-- Length of the image being loaded, which a host gave or the header holds. -/
  imageLen : Nat := 0
  /-- The boot ROM has read the header and sections of the image and reads its bytes (R465): blocks read so far. -/
  loading : Bool := false
  blocks : Nat := 0
  /-- The boot ROM has stopped after a rejected image (R466). -/
  stopped : Bool := false
  /-- TEST and REG of the self-test in progress (R480). -/
  testing : Option (Nat × Nat) := none
  /-- Its steps completed so far (R40). -/
  steps : Nat := 0
  /-- Banks of core memory (0 to 15) and shared buffer memory (16 to 27) in retention (R268). -/
  asleep : List Nat := []
deriving DecidableEq, Repr

/-- The host SPI port beside its registers (R468, R469). -/
structure Hsp where
  /-- UNDER and ERR of the previous frame, and a write of it still in progress. -/
  under : Bool := false
  err : Bool := false
  /-- The status byte and the data bytes sent in the newest frame. -/
  status : Byte := 0
  sent : List Byte := []
deriving DecidableEq, Repr

/-- The reply of the debug port to its newest request: status, and data of a read (R474). -/
structure Ydp where
  status : Nat := 0
  data : Option Word := none
deriving DecidableEq, Repr

/-- The boundary-scan TAP: its instruction (R479). -/
structure Tap where
  ir : Nat := 2
deriving DecidableEq, Repr


/-- Everything of the part but its memories and the queue of waiting commands. -/
structure Part where
  /-- Peripheral registers by address; an unlisted one holds its reset value. -/
  regs : Store Word := []
  tb : Timebase := {}
  /-- The model's own counter of free values drawn (log entry 2). -/
  free : Nat := 0
  bus : BusReply := {}
  /-- Holding copies of high words, key 2^32 * initiator + address of the high word (R11). -/
  holding : Store Word := []
  grn : Garnet := {}
  flt : FaultMgr := {}
  pwm : Store PwmPhase := []
  sync : Store RailSync := []
  /-- Filtered level of each trip pin; a pin not yet seen is taken as high (log entry 36). -/
  trips : Store Bool := []
  pool : Pool := {}
  bsl : Basalt := {}
  saf : Saffron := {}
  flk : Flint := {}
  mica : Mica := {}
  /-- Increments of lifetime counters gathered since the last commit, key 256 * family + counter (R443). -/
  life : Store Nat := []
  clv : Clove := {}
  adc : Adc := {}
  pmb : Pmb := {}
  pmc : Pmc := {}
  lcp : Store LcpPort := []
  cores : Store Core := [(0, { st := .run })]
  icu : Icu := {}
  /-- Tick of the timebase to which TMR_CNT of each timer belongs (R398). -/
  timers : Store Nat := []
  dma : Dma := {}
  nvm : Nvm := {}
  sys : Sys := {}
  hsp : Hsp := {}
  ydp : Ydp := {}
  tap : Tap := {}
deriving DecidableEq, Repr

/-- The machine: the queue of commands that wait, first in first out, the memories of R22 and the part. -/
structure State where
  pending : List Instr := []
  mem : List Host.Cell := []
  part : Part := {}
deriving DecidableEq, Repr

/-- The machine right after power-on reset: every register at its reset value, the cause POR recorded (R458), the memories
with nothing listed, no command waiting. -/
def State.reset : State := { part := { regs := [(R.SYS_RSTCAUSE.base, 1)] } }

end Sys2Proof.Machine
end

