-- ==== Sys2Proof/Machine/Ops.lean ====
section
/-! DEFINITION. Named operations every block uses: the register bank, memory, time, free values, Garnet records,
raising a fault. -/
namespace Sys2Proof.Machine

/-! ## The register bank -/

/-- The word a peripheral register holds. -/
def Part.word (m : Part) (a : Nat) : Word := Store.get (resetWord a) m.regs a

/-- Put a word into a peripheral register. -/
def Part.setWord (m : Part) (a : Nat) (w : Word) : Part := { m with regs := m.regs.set (resetWord a) a w }

/-- A bit field of a word. -/
def bitsOf (w : Word) (lo width : Nat) : Nat := w.toNat / 2 ^ lo % 2 ^ width

/-- A word with one bit field replaced (the value taken modulo the field's range). -/
def withBits (w : Word) (lo width v : Nat) : Word :=
  BitVec.ofNat 32 (w.toNat - bitsOf w lo width * 2 ^ lo + v % 2 ^ width * 2 ^ lo)

/-- A field of instance `i` of a register. -/
def Part.get (m : Part) (f : FieldAt) (i : Nat) : Nat := bitsOf (m.word (f.reg.addr i)) f.lo f.width

/-- Put a value into a field of instance `i`. -/
def Part.put (m : Part) (f : FieldAt) (i v : Nat) : Part :=
  m.setWord (f.reg.addr i) (withBits (m.word (f.reg.addr i)) f.lo f.width v)

/-- A one-bit field is 1. -/
def Part.is (m : Part) (f : FieldAt) (i : Nat) : Bool := m.get f i != 0

/-- A number read as two's complement of `w` bits. -/
def toSigned (w n : Nat) : Int := if n % 2 ^ w < 2 ^ (w - 1) then (n % 2 ^ w : Nat) else ((n % 2 ^ w : Nat) : Int) - 2 ^ w

/-- The two's complement bits of an integer in `w` bits. -/
def ofSigned (w : Nat) (i : Int) : Nat := (i % (2 ^ w : Int)).toNat

/-- A field read as two's complement. -/
def Part.getS (m : Part) (f : FieldAt) (i : Nat) : Int := toSigned f.width (m.get f i)

/-- Bit `b` of a field that holds one bit per unit. -/
def Part.bit (m : Part) (f : FieldAt) (i b : Nat) : Bool := m.get f i / 2 ^ b % 2 == 1

/-- Set or clear bit `b` of such a field. -/
def Part.putBit (m : Part) (f : FieldAt) (i b : Nat) (v : Bool) : Part :=
  if m.bit f i b = v then m
  else m.put f i (if v then m.get f i + 2 ^ b else m.get f i - 2 ^ b)

/-- Increment a counter field, saturating at its highest value. -/
def Part.bump (m : Part) (f : FieldAt) (i : Nat) : Part :=
  if m.get f i + 1 < 2 ^ f.width then m.put f i (m.get f i + 1) else m

/-- An integer held between two bounds. -/
def clampInt (lo hi v : Int) : Int := if v < lo then lo else if hi < v then hi else v

/-- Saturation to `w` bits signed. -/
def satS (w : Nat) (v : Int) : Int := clampInt (-(2 ^ (w - 1))) (2 ^ (w - 1) - 1) v

/-- A rail voltage saturated under R2. -/
def satRV (v : Int) : Nat := (clampInt 0 0xFFFFF v).toNat

/-! ## Register writes by field type (R5, R7) -/

/-- A field of a word that is being written. -/
def fieldOf (v : Word) (f : FieldAt) : Nat := bitsOf v f.lo f.width

/-- What a write of `v` does to one field. An RWL field is written as RW: its block asks its lock first (R9). -/
def writeField (v w : Word) (f : FieldSpec) : Word :=
  let new := fieldOf v f.fld
  let old := fieldOf w f.fld
  match f.kind with
  | .rw | .rws | .rwl => withBits w f.fld.lo f.fld.width new
  | .ro | .wo => w
  | .w1c => withBits w f.fld.lo f.fld.width (old - (old &&& new))
  | .w1s => withBits w f.fld.lo f.fld.width (old ||| new)

/-- A write by field types alone; an undefined offset ignores it (R7, R25). -/
def Part.plainWrite (m : Part) (a : Nat) (v : Word) : Part :=
  match regSpecAt a with
  | none => m
  | some r => m.setWord a (r.fields.foldl (writeField v) (m.word a))

/-- A write gives the field of instance `i` another value. -/
def Part.changes (m : Part) (f : FieldAt) (i : Nat) (v : Word) : Bool := fieldOf v f != m.get f i

/-- Progress of a long operation (R40). -/
def Part.setProg (m : Part) (r : RegAt) (item done total : Nat) : Part :=
  m.setWord r.base (BitVec.ofNat 32 (item * 2 ^ 14 + 10000 * done / total))

/-! ## Per-instance state -/

def Part.pwmAt (m : Part) (p : Nat) : PwmPhase := m.pwm.get {} p
def Part.setPwm (m : Part) (p : Nat) (x : PwmPhase) : Part := { m with pwm := m.pwm.set {} p x }
def Part.poolAt (m : Part) (p : Nat) : PoolPhase := m.pool.phases.get {} p
def Part.setPool (m : Part) (p : Nat) (x : PoolPhase) : Part :=
  { m with pool := { m.pool with phases := m.pool.phases.set {} p x } }
def Part.poolRail (m : Part) (r : Nat) : PoolRail := m.pool.rails.get {} r
def Part.setPoolRail (m : Part) (r : Nat) (x : PoolRail) : Part :=
  { m with pool := { m.pool with rails := m.pool.rails.set {} r x } }
def Part.bslRail (m : Part) (r : Nat) : BslRail := m.bsl.rails.get {} r
def Part.setBslRail (m : Part) (r : Nat) (x : BslRail) : Part :=
  { m with bsl := { m.bsl with rails := m.bsl.rails.set {} r x } }
def Part.bslPhase (m : Part) (p : Nat) : BslPhase := m.bsl.phases.get {} p
def Part.setBslPhase (m : Part) (p : Nat) (x : BslPhase) : Part :=
  { m with bsl := { m.bsl with phases := m.bsl.phases.set {} p x } }
def Part.lane (m : Part) (l : Nat) : Lane := m.bsl.lanes.get {} l
def Part.setLane (m : Part) (l : Nat) (x : Lane) : Part :=
  { m with bsl := { m.bsl with lanes := m.bsl.lanes.set {} l x } }
def Part.plan (m : Part) (r : Nat) : Plan := m.saf.plans.get {} r
def Part.setPlan (m : Part) (r : Nat) (x : Plan) : Part :=
  { m with saf := { m.saf with plans := m.saf.plans.set {} r x } }
def Part.group (m : Part) (g : Nat) : Group := m.saf.groups.get {} g
def Part.setGroup (m : Part) (g : Nat) (x : Group) : Part :=
  { m with saf := { m.saf with groups := m.saf.groups.set {} g x } }
def Part.chan (m : Part) (c : Nat) : Chan := m.saf.chans.get {} c
def Part.setChan (m : Part) (c : Nat) (x : Chan) : Part :=
  { m with saf := { m.saf with chans := m.saf.chans.set {} c x } }
def Part.railFault (m : Part) (r : Nat) : RailFault := m.flt.rails.get {} r
def Part.setRailFault (m : Part) (r : Nat) (x : RailFault) : Part :=
  { m with flt := { m.flt with rails := m.flt.rails.set {} r x } }
def Part.syncAt (m : Part) (r : Nat) : RailSync := m.sync.get {} r
def Part.setSync (m : Part) (r : Nat) (x : RailSync) : Part := { m with sync := m.sync.set {} r x }

/-- Apply an operation for each number of a list, in order. -/
def Part.each (m : Part) (l : List Nat) (f : Nat → Part → Part) : Part := l.foldl (fun m i => f i m) m

/-- All rails, phases, lanes. -/
def allRails : List Nat := List.range 63
def allPhases : List Nat := List.range 128
def allLanes : List Nat := List.range 16

/-! ## Time and free values -/

/-- TBCLK in kHz for the selected reference (R155). -/
def Part.kHz (m : Part) : Nat :=
  match m.get F.TB_CFG_RSEL 0 with
  | 0 => 491520
  | 1 => 451584
  | _ => 500000

/-- The 48-bit Garnet timestamp counter (R399). -/
def Part.timestamp (m : Part) : Nat := m.tb.ticks / 64 % 2 ^ 48

/-- At least `us` microseconds lie between tick `t` and now. -/
def Part.elapsed (m : Part) (t us : Nat) : Bool := decide (us * m.kHz ≤ (m.tb.ticks - t) * 1000)

/-- Draw a fresh free word (log entry 2). -/
def Part.freeWord (m : Part) : Word × Part := (Config.freeWord m.free, { m with free := m.free + 1 })

/-- Draw a fresh free bit (log entry 2). -/
def Part.freeBit (m : Part) : Bool × Part := (Config.freeBit m.free, { m with free := m.free + 1 })

/-! ## Triggers of DMA channels (R411) -/

/-- A trigger of a channel: a channel in WAITTRG takes it and runs; otherwise it is latched, or dropped where one is latched
already. -/
def Part.dmaLatch (m : Part) (n : Nat) : Part :=
  if m.get F.DMA_CSTAT_STATE n = 2 then m.put F.DMA_CSTAT_STATE n 3
  else if m.is F.DMA_CSTAT_TRGPEND n then m.put F.DMA_CSTAT_TRGOVR n 1 else m.put F.DMA_CSTAT_TRGPEND n 1

/-- A trigger source fires: each channel that selects it is triggered. -/
def Part.dmaTrigger (m : Part) (src sel : Nat) : Part :=
  m.each (List.range 32) (fun n m =>
    if m.get F.DMA_CCFG_TSRC n = src && m.get F.DMA_CCFG_TSEL n = sel then m.dmaLatch n else m)

/-! ## Memory -/

/-- What an unlisted byte of memory reads as: the boot ROM's contents, 0 elsewhere (log entry 1). -/
def memDefault (a : Nat) : Byte := if a < 0x10000 then Config.bootRom a else 0

abbrev Mem := List Host.Cell

/-- One byte. -/
def Mem.byte (mem : Mem) (a : Nat) : Byte := Store.get (memDefault a) mem a

/-- Store one byte. -/
def Mem.setByte (mem : Mem) (a : Nat) (b : Byte) : Mem := Store.set (memDefault a) mem a b

/-- `n` bytes from `a` as a little-endian number. -/
def Mem.read (mem : Mem) (a : Nat) : Nat → Nat
  | 0 => 0
  | n + 1 => (Mem.byte mem a).toNat + 256 * Mem.read mem (a + 1) n

/-- Store the low `n` bytes of a number, little-endian. -/
def Mem.write (mem : Mem) (a v : Nat) : Nat → Mem
  | 0 => mem
  | n + 1 => Mem.write (Mem.setByte mem a (BitVec.ofNat 8 v)) (a + 1) (v / 256) n

/-- A 32-bit word of memory. -/
def Mem.word (mem : Mem) (a : Nat) : Word := BitVec.ofNat 32 (Mem.read mem a 4)

/-- Fill `n` bytes with one value. -/
def Mem.fill (mem : Mem) (a : Nat) (b : Byte) : Nat → Mem
  | 0 => mem
  | n + 1 => Mem.fill (Mem.setByte mem a b) (a + 1) b n

/-- The memory is in its one canonical form. -/
def Memory.wf (mem : Mem) : Bool := Store.wf memDefault mem

/-- What a command's meaning answers. -/
abbrev Out := Host.Outcome State Fault Refusal

/-- Carry an operation on the part over to the machine. -/
def State.lift (s : State) (f : Part → Part) : State := { s with part := f s.part }

/-- A power domain of R454 is off. -/
def Part.domainOff (m : Part) (d : Nat) : Bool := m.bit F.SYS_PWRST_OFF 0 d

/-! ## Garnet records (R319 to R324, R502) -/

/-- SOURCE of an instance: kind and index (R321). -/
def srcOf (kind idx : Nat) : Nat := kind * 2 ^ 13 + idx
def srcRail (r : Nat) : Nat := if r = 63 then 0 else srcOf 1 r
def srcPhase (p : Nat) : Nat := srcOf 2 p
def srcLane (n : Nat) : Nat := srcOf 3 n

/-- Index of a fabric initiator (R321 kind 4). -/
def initIndex : Initiator → Nat
  | .core c => c.val
  | .dma => 4
  | .hsp => 5
  | .pmb => 6
  | .ydp => 7

def srcInit (i : Initiator) : Nat := srcOf 4 (initIndex i)

/-- Block numbers of R25 as they stand in codes (R302). -/
def codeOf (block num : Nat) : Nat := block * 1024 + num

/-- Rank of a record for displacement: events lowest, DEVICE highest (R324). -/
def recRank (sev : Nat) : Nat := if sev = 7 then 0 else sev + 1

/-- Take out the newest record of this rank (the list is newest first). -/
def dropRank (n : Nat) : List GRec → List GRec
  | [] => []
  | r :: t => if recRank r.sev = n then t else r :: dropRank n t

/-- Take out the newest record of the lowest rank (the list is oldest first). -/
def dropLowest (q : List GRec) : List GRec :=
  match q with
  | [] => []
  | x :: t => (dropRank (t.foldl (fun a r => min a (recRank r.sev)) (recRank x.sev)) q.reverse).reverse

/-- One more record lost (R324). -/
def Part.countLost (m : Part) : Part :=
  let m := { m with grn := { m.grn with lostSince := m.grn.lostSince + 1 } }
  (m.bump F.GRN_LOST_COUNT 0).put F.GRN_STAT_LOST 0 1

/-- Hand Garnet a record: it enters the input queue, or the rules of a full queue apply (R324). -/
def Part.submit (m : Part) (r : GRec) : Part :=
  let r := { r with ts := m.timestamp, tbl := m.tb.lossNow, tag := m.grn.nextTag }
  let m := { m with grn := { m.grn with nextTag := m.grn.nextTag + 1 } }
  if m.grn.queue.length < 64 then { m with grn := { m.grn with queue := m.grn.queue ++ [r] } }
  else if r.sev = 5 then
    ({ m with grn := { m.grn with queue := dropLowest m.grn.queue ++ [r] } }).countLost
  else m.countLost

/-- Record an event (SEV 7). -/
def Part.event (m : Part) (code source : Nat) (d0 : Nat := 0) (d1 : Nat := 0) (d2 : Nat := 0) : Part :=
  m.submit { code := code, source := source, sev := 7, data0 := d0, data1 := d1, data2 := d2 }

/-- Record a refused register write: the offset in its block and the value (R319, R502). -/
def Part.refusedWrite (m : Part) (i : Initiator) (addr : Nat) (v : Word) : Part :=
  m.event (codeOf (blockOf addr) 0) (srcInit i) (addr % 0x10000) v.toNat

/-- The field of one instance, as a field of a single register. -/
def FieldAt.at (f : FieldAt) (i : Nat) : FieldAt := ⟨⟨f.reg.addr i, 4, 1, 1⟩, f.lo, f.width⟩

/-- Refuse a register write: set the block's flag and record it. -/
def Part.refuse (m : Part) (flag : FieldAt) (i : Initiator) (addr : Nat) (v : Word) : Part :=
  (m.put flag 0 1).refusedWrite i addr v

/-- Record a change of state of an instance (R502 number 0x001). -/
def Part.stateEvent (m : Part) (block source old new : Nat) (d1 : Nat := 0) : Part :=
  m.event (codeOf block 1) source (old * 256 + new) d1

/-! ## Raising a fault (R303, R310, R312, R314) -/

/-- Rail state codes of RAIL_CTRL.STATE. -/
def railOff : Nat := 0
def railArming : Nat := 1
def railSoftstart : Nat := 2
def railTrack : Nat := 3
def railHold : Nat := 4
def railFollow : Nat := 5
def railFallback : Nat := 6
def railFaulted : Nat := 7
def railDischarge : Nat := 8

def Part.railState (m : Part) (r : Nat) : Nat := m.get F.RAIL_CTRL_STATE r

/-- The rail is in one of the states in which its voltage task runs (R78). -/
def Part.regulating (m : Part) (r : Nat) : Bool :=
  m.railState r = railSoftstart || m.railState r = railTrack || m.railState r = railHold ||
  m.railState r = railFollow || m.railState r = railFallback

/-- Every rail is in OFF (R32). -/
def Part.allOff (m : Part) : Bool := allRails.all (fun r => m.railState r = railOff)

/-- Policy `k` of FLT_SEV0 and FLT_SEV1 (R303). -/
def Part.policy (m : Part) (k : Nat) : Nat :=
  (if k < 8 then m.get F.FLT_SEV0_POL 0 else m.get F.FLT_SEV1_POL 0) / 2 ^ (4 * (k % 8)) % 8

/-- A queued entry waits that names the rail, or the device, with LIMIT or above. -/
def Part.queuedOn (m : Part) (r sevMin : Nat) : Bool :=
  m.flt.queue.any (fun e => !e.applied && (e.rail = r || e.rail = 63) && decide (sevMin ≤ e.sev))

/-- The rail is in handling (R301), or a fault of it has resolved to LIMIT or above (R317). -/
def Part.inHandling (m : Part) (r : Nat) : Bool :=
  m.railState r != railOff && (m.is F.RAIL_FSTAT_HAND r || m.queuedOn r 2)

/-- Whether a fault on the rail (63: the device) escalates (R312). -/
def Part.escalates (m : Part) (r : Nat) : Bool :=
  if r < 63 then m.inHandling r
  else (!m.allOff) && allRails.all (fun q => m.railState q = railOff || m.inHandling q)

/-- The resolved severity (R312). -/
def Part.resolve (m : Part) (r sev : Nat) : Nat :=
  if sev = 5 then 5 else if m.escalates r then min (sev + 1) 4 else sev

/-- Entries of one severity in the queues (R314). -/
def Part.queueFill (m : Part) (sev : Nat) : Nat := (m.flt.queue.filter (fun e => e.sev = sev)).length

/-- The rails on which a fault of resolved severity `sev` is only a record: its rail in OFF (R317), or, for LIMIT, a rail in
DISCHARGE or FAULTED (R313). -/
def Part.muted (m : Part) (rail sev : Nat) : List Nat :=
  let settled := fun r => m.railState r = railDischarge || m.railState r = railFaulted
  if rail < 63 then (if m.railState rail = railOff || (decide (sev ≤ 2) && settled rail) then [rail] else [])
  else if sev = 2 then allRails.filter settled
  else []

/-- Queue a resolved fault with its record. -/
def Part.enqueueFault (m : Part) (code rail sev osev source : Nat) (d1 d2 : Nat) (ovf : Bool) (lane : Nat := 0) : Part :=
  let tag := m.grn.nextTag
  let esc := decide (sev ≠ osev)
  let mute := m.muted rail sev
  let m := m.submit { code := code, source := source, sev := sev, esc := esc, osev := osev, qovf := ovf,
                      data0 := rail, data1 := d1, data2 := d2 }
  let m := if esc then m.put F.FLT_STAT_ESC 0 1 else m
  let m := if 1 ≤ sev then m.put F.FLT_STAT_NEW 0 1 else m
  let m := m.bump F.FLT_CNT_COUNT sev
  if ovf then m
  else { m with flt := { m.flt with queue := m.flt.queue ++ [{ code := code, rail := rail, sev := sev, tag := tag,
                                                                  mute := mute, source := source, lane := lane }] } }

/-- A latched PMBus status bit is set; PMB_ALERT_N is asserted where it was 0 (R346, R347). -/
def Part.pmbLatch (m : Part) (f : FieldAt) (i b : Nat) : Part :=
  if m.bit f i b then m
  else
    let m := m.putBit f i b true
    if m.is F.PMB_CTRL_ALEN 0 then { m with pmb := { m.pmb with alert := true } } else m

/-- PMBus status bits that raising a fault sets (R346). -/
def Part.pmbOnFault (m : Part) (code rail : Nat) : Part :=
  if code = 0xA400 then m.pmbLatch F.PMB_ST_VOUT rail 1
  else if code = 0x9C04 then m.pmbLatch F.PMB_ST_VOUT rail 0
  else if code = 0x9C05 then m.pmbLatch F.PMB_ST_IOUT rail 3
  else if code = 0xC000 then m.pmbLatch F.PMB_STAT_CML 0 4
  else if code = 0xE800 || code = 0xDC00 || code = 0xB801 then m.pmbLatch F.PMB_STAT_CML 0 3
  else m

/-- Raise a fault of configured severity `sev` on a rail, or on the device (rail 63): resolve it, record it and
queue it. A fault that finds its queue full is recorded with the overflow flag and raises QOVF (R314), which waits at
the head of the DEVICE queue as every DEVICE fault does (log entry 8). `lane` is the lane of a LANELOSS. -/
def Part.raise (m : Part) (code rail sev source : Nat) (d1 : Nat := 0) (d2 : Nat := 0) (lane : Nat := 0) : Part :=
  let m := m.pmbOnFault code rail
  let rs := m.resolve rail sev
  if m.queueFill rs < 16 then m.enqueueFault code rail rs sev source d1 d2 false lane
  else
    let m := m.enqueueFault code rail rs sev source d1 d2 true
    if rs = 5 then m
    else
      let m := m.put F.FLT_STAT_OVF 0 1
      m.enqueueFault 0xB800 63 5 5 0 0 0 (decide (16 ≤ m.queueFill 5))

end Sys2Proof.Machine
end

