-- ==== Sys2Proof/Machine/Phases.lean ====
section
/-! DEFINITION. Phase states, the lead phase, offsets, rail synchronisation, trips, safe state and the loss of a
phase (R167 to R180, R225, R228, R230, R246): what several blocks do to phases. -/
namespace Sys2Proof.Machine

/-- Phase state codes of POOL_PSTAT.STATE (R228). -/
def phParked : Nat := 0
def phActive : Nat := 1
def phDraining : Nat := 2
def phZero : Nat := 3
def phSteering : Nat := 4
def phJoining : Nat := 5
def phRetired : Nat := 6
def phTripped : Nat := 7

def Part.phState (m : Part) (p : Nat) : Nat := m.get F.POOL_PSTAT_STATE p

/-- A phase switches only in ACTIVE, DRAINING and JOINING (R29). -/
def switchingState (st : Nat) : Bool := st = 1 || st = 2 || st = 5

def Part.switches (m : Part) (p : Nat) : Bool := switchingState (m.phState p)

/-- The current rail of a phase (R225). -/
def Part.phRail (m : Part) (p : Nat) : Nat := m.get F.POOL_PSTAT_RAIL p

/-- The lead phase of a rail: its lowest-numbered phase in ACTIVE (R79). -/
def Part.leadPhase (m : Part) (r : Nat) : Option Nat :=
  allPhases.find? (fun p => m.phRail p = r && m.phState p = phActive)

/-- The origin-defining phase: the lead phase, or the lowest-numbered switching phase (R167). -/
def Part.originPhase (m : Part) (r : Nat) : Option Nat :=
  match m.leadPhase r with
  | some p => some p
  | none => allPhases.find? (fun p => m.phRail p = r && m.switches p)

/-- Phases of a rail in ACTIVE or JOINING (R170, R240). -/
def Part.feeding (m : Part) (r : Nat) : List Nat :=
  allPhases.filter (fun p => m.phRail p = r && (m.phState p = phActive || m.phState p = phJoining))

/-- A phase is on a lane (R12). -/
def laneOf (p : Nat) : Nat := p / 8
def lanePhases (n : Nat) : List Nat := (List.range 8).map (fun i => 8 * n + i)

/-- Put the counts of POOL_RSTAT in order. -/
def Part.recount (m : Part) (r : Nat) : Part :=
  if r < 63 then
    let on := allPhases.filter (fun p => m.phRail p = r)
    let act := (on.filter (fun p => m.phState p = phActive)).length
    let mov := (on.filter (fun p => let st := m.phState p
      st = phDraining || st = phZero || st = phSteering || st = phJoining)).length
    (m.put F.POOL_RSTAT_NACT r act).put F.POOL_RSTAT_NMOV r mov
  else m

/-- A value lands in an OFFSET shadow. -/
def Part.landOffset (m : Part) (p v : Nat) : Part := m.put F.PWM_OFFSET_VALUE p v

/-- Automatic offsets of a rail (R170). -/
def Part.autoOffsets (m : Part) (r : Nat) : Part :=
  if r < 63 && m.is F.PWM_RSYNC_AUTOOFF r then
    let on := m.feeding r
    let n := on.length
    m.each (List.range n) (fun k m => m.landOffset (on.getD k 0) (k * (65536 / n)))
  else m

/-- Length and PERIOD of the period that the counter is in: at a wrap whose ZERO has not been taken yet, those that the snapshot
computed (R163). -/
def Part.lenNow (m : Part) (p : Nat) : Nat :=
  let x := m.pwmAt p
  if x.locked && x.cnt = 0 then x.nextL else m.get F.PWM_ACT_VALUE p
def Part.periodNow (m : Part) (p : Nat) : Nat :=
  let x := m.pwmAt p
  if x.locked && x.cnt = 0 then x.nextPeriod else x.period

/-- The early error of phase `p` on its rail: ticks, modulo PERIOD, by which its next ZERO precedes its target (R168). -/
def Part.earlyError (m : Part) (p : Nat) : Nat :=
  match m.originPhase (m.phRail p) with
  | none => 0
  | some o =>
    if o = p then 0
    else
      let x := m.pwmAt p
      let y := m.pwmAt o
      let per := m.periodNow p
      let offP := x.offset * per / 65536
      let offO := y.offset * m.periodNow o / 65536
      let target : Int := (offP : Int) - offO - y.cnt
      let next : Int := (m.lenNow p : Int) - x.cnt
      ((target - next) % (max per 1 : Nat)).toNat

/-- A rail sync event: each switching phase with SYNC = 1 measures its early error, and a SYNC of 0 ends a correction (R168). -/
def Part.railSync (m : Part) (r : Nat) : Part :=
  m.each (allPhases.filter (fun p => m.phRail p = r && m.switches p))
    (fun p m => m.setPwm p { m.pwmAt p with err := if m.is F.PWM_CFG_SYNC p then m.earlyError p else 0 })

/-- PWM_STAT.ALIGNED: the next ZERO equals the target, and the rail has an origin (R169). -/
def Part.aligned (m : Part) (p : Nat) : Bool := (m.originPhase (m.phRail p)).isSome && m.earlyError p = 0

/-- F of a phase: the lower of the ramp value and Clove's factor while it switches (R230). -/
def Part.refreshF (m : Part) (p : Nat) : Part :=
  m.put F.POOL_PFACT_F p
    (if m.switches p then min (m.poolAt p).ramp (m.get F.POOL_PFACT_F_CLV p) else 0)

/-- Discard the invocations of a task, waiting or running, without counting them as missed (R114). -/
def Part.dropTask (m : Part) (t : Task) : Part :=
  let m := { m with bsl := { m.bsl with ready := m.bsl.ready.filter (fun x => x.task ≠ t) } }
  m.each allLanes (fun l m =>
    match (m.lane l).run with
    | some x => if x.task = t then m.setLane l { m.lane l with run := none } else m
    | none => m)

/-- A lane runs an invocation of the task. -/
def Part.taskRunning (m : Part) (t : Task) : Bool :=
  allLanes.any (fun l => match (m.lane l).run with
    | some x => x.task = t
    | none => false)

def currTask (p : Nat) : Task := .curr (Fin.ofNat 128 p)
def voltTask (r : Nat) : Task := .volt (Fin.ofNat 63 r)

/-! ## Where a survey stands (R219, R220) -/

/-- The phase at a place of the survey's order: lanes 0, 8, 1, 9, ..., positions in order. -/
def surveyPhase (k : Nat) : Nat :=
  let l := k / 8
  8 * (l / 2 + 8 * (l % 2)) + k % 8

/-- A stage takes part in a survey: its phase is PARKED, its lane UP, and the ring has it. -/
def Part.surveyable (m : Part) (p : Nat) : Bool :=
  m.phState p = phParked && m.bit F.FLK_STAT_UP 0 (laneOf p) && decide (p % 8 < m.get F.FLK_LCFG_NPOS (laneOf p))

/-- The stage of the phase is being surveyed. -/
def Part.surveying (m : Part) (p : Nat) : Bool :=
  match m.mica.survey with
  | some k => surveyPhase k = p && m.surveyable p
  | none => false

/-- Entries of the stage under survey whose results are recorded at a step of its survey: both reads of a side give 512 each. -/
def surveyRecorded (step : Nat) : Nat := if step ≤ 4 then 512 * (step - 2) else 1024 + 512 * (step - 6)

/-- Go on from place `k` to the next stage that takes part; the others' entries count as completed and as skipped. `fuel` bounds the
places left. -/
def Part.surveyFrom (m : Part) : Nat → Nat → Part
  | 0, _ =>
    let m := { m with mica := { m.mica with survey := none } }
    (((m.put F.MICA_CTRL_SURVEY 0 0).put F.MICA_STAT_SBUSY 0 0).put F.MICA_STAT_SDONE 0 1)
  | fuel + 1, k =>
    let p := surveyPhase k
    if m.surveyable p then
      ({ m with mica := { m.mica with survey := some k, surveyStep := 0 } }).setProg R.MICA_PROG (2048 * p) (2048 * k) 262144
    else
      let m := m.put F.MICA_SSTAT_SKIP 0 (m.get F.MICA_SSTAT_SKIP 0 + 2048)
      Part.surveyFrom (m.setProg R.MICA_PROG (2048 * p + 2047) (2048 * (k + 1)) 262144) fuel (k + 1)

/-- The survey of the stage at place `k` ends early: the entries without a result are skipped, and the next stage follows (R220). -/
def Part.surveySkip (m : Part) (k : Nat) : Part :=
  let m := m.put F.MICA_SSTAT_SKIP 0 (m.get F.MICA_SSTAT_SKIP 0 + (2048 - surveyRecorded m.mica.surveyStep))
  (m.setProg R.MICA_PROG (2048 * surveyPhase k + 2047) (2048 * (k + 1)) 262144).surveyFrom (127 - k) (k + 1)

/-- The stage under survey may have dropped out, or its phase starts: its remaining entries are skipped (R220). -/
def Part.surveyLook (m : Part) : Part :=
  match m.mica.survey with
  | some k => if m.surveyable (surveyPhase k) then m else m.surveySkip k
  | none => m

/-- The phase enters a state. `log` says whether the transition is recorded (R228). A phase that starts switching begins with a
following-error count of 0, of which the spec says nothing (DESIGN CHOICE, log entry 109). A rail whose lead phase changes restarts
its divide-by-N count at the next ZERO of the new one (R79). -/
def Part.setPhase (m : Part) (p st : Nat) (log : Bool) : Part :=
  let old := m.phState p
  let r := m.phRail p
  let lead := m.leadPhase r
  let m := m.put F.POOL_PSTAT_STATE p st
  let m := m.put F.PWM_STAT_SW p (if switchingState st then 1 else 0)
  let m :=
    if switchingState old && !switchingState st then
      let m := m.setPool p { m.poolAt p with swAcc := (m.poolAt p).swAcc + (m.tb.ticks - (m.poolAt p).swFrom) }
      (m.setPwm p { m.pwmAt p with pin := false, blank := 0, err := 0, limited := false, limitRun := false }).dropTask
        (currTask p)
    else if switchingState st && !switchingState old then
      let m := m.setPool p { m.poolAt p with swFrom := m.tb.ticks }
      let m := m.setPwm p { m.pwmAt p with start := true, psZero := 0, psPeriod := 0, psCmpa := 0, psCmpb := 0 }
      m.setBslPhase p { m.bslPhase p with first := true, ferr := 0, ferrRaised := false }
    else m
  let m := (m.refreshF p).surveyLook
  let m := if log then m else match (m.poolAt p).move with
    | some mv => m.setPool p { m.poolAt p with move := some { mv with trail := mv.trail ++ [(old, st)] } }
    | none => m
  let m := m.recount r
  let m := if (old = phActive || old = phJoining) = (st = phActive || st = phJoining) then m else m.autoOffsets r
  let m := if m.leadPhase r = lead then m else (m.setSync r { m.syncAt r with lead := none }).railSync r
  if log then m.stateEvent 10 (srcPhase p) old st else m

/-- A phase's move ends: the request it answers, if any, gets its outcome (R245). The transitions of a move that does not complete
are recorded here, as none of them had been (R228, log entry 16). -/
def Part.endMove (m : Part) (p result : Nat) : Part :=
  match (m.poolAt p).move with
  | none => m
  | some mv =>
    let m := m.setPool p { m.poolAt p with move := none }
    let m := if result = 0 then m else mv.trail.foldl (fun m q => m.stateEvent 10 (srcPhase p) q.1 q.2) m
    if mv.request then
      (((m.put F.POOL_LRES_RESULT 0 result).put F.POOL_LRES_BUSY 0 0).put F.POOL_LREQ_GO 0 0)
    else m

/-- A rule or the lane ends the move of a phase that feeds its rail: the phase is ACTIVE there again, and parks where the rail is in
OFF meanwhile (R228, R237, R247). -/
def Part.backToActive (m : Part) (p result : Nat) : Part :=
  let m := (m.setPhase p phActive true).endMove p result
  if m.railState (m.phRail p) = railOff then m.setPhase p phParked true else m

/-- Phase-loss handling on the rail the phase fed, if it fed one (R246). -/
def Part.phaseLoss (m : Part) (p r : Nat) (fed : Bool) : Part :=
  let m := m.endMove p 5
  if fed && r < 63 && m.railState r != railOff && (m.feeding r).isEmpty then
    m.raise 0xA401 r (m.policy 7) (srcRail r)
  else m

/-- The phase enters TRIPPED from a switching state or from STEERING, with its phase-loss handling (R228, R246). -/
def Part.tripPhase (m : Part) (p : Nat) : Part :=
  (m.setPhase p phTripped true).phaseLoss p (m.phRail p) (m.switches p)

/-- The phase is retired (R37, R228). -/
def Part.retirePhase (m : Part) (p : Nat) : Part :=
  if m.phState p = phRetired then m
  else (m.setPhase p phRetired true).phaseLoss p (m.phRail p) (m.switches p)

/-! ## Safe state (R177 to R180) -/

/-- Bits of PWM_SAFEST.CAUSE. -/
def causeTbLoss : Nat := 0
def causeDbgHalt : Nat := 1
def causeDevice : Nat := 2
def causeBoot : Nat := 3

/-- Lane `n` is in safe state. -/
def Part.laneSafe (m : Part) (n : Nat) : Bool := m.bit F.PWM_SAFEST_ACTIVE 0 n

/-- A cause of safe state holds for lane `n` (R177). -/
def Part.causeHolds (m : Part) (n : Nat) : Bool :=
  m.get F.PWM_SAFEST_CAUSE 0 != 0 || m.bit F.PWM_SAFE_FORCE 0 n

/-- One lane enters safe state: its switching phases enter TRIPPED (R178). -/
def Part.laneEntersSafe (m : Part) (n : Nat) : Part :=
  let m := m.putBit F.PWM_SAFEST_ACTIVE 0 n true
  m.each (lanePhases n) (fun p m =>
    let m := m.put F.PWM_STAT_SAFE p 1
    if m.switches p then m.tripPhase p else m)

/-- Releases of this tick that a cause which arises in it undoes: the lanes stay in safe state, and the write is refused (R180). -/
def Part.releasesUndone (m : Part) : Part :=
  m.tb.released.foldl (fun m x =>
    let back := x.lanes.filter (fun n => m.causeHolds n && !m.laneSafe n)
    if x.tick != m.tb.ticks || back.isEmpty then m
    else
      let m := m.each back (fun n m => (m.laneEntersSafe n).each (lanePhases n) (fun p m => m.setPwm p { m.pwmAt p with pin := false }))
      let m := { m with tb := { m.tb with released := m.tb.released.map (fun y => if y = x then { y with refused := true } else y) } }
      if x.refused then m else m.refuse F.PWM_ERR_SAFE x.who R.PWM_SAFEREL.base x.value) m

/-- Lanes with a cause enter safe state; every rail not in OFF raises the safe-state fault once for the entry (R178). -/
def Part.enterSafe (m : Part) : Part :=
  let m := m.releasesUndone
  let lanes := allLanes.filter (fun n => m.causeHolds n && !m.laneSafe n)
  if lanes.isEmpty then m
  else
    let m := m.each lanes (fun n m => m.laneEntersSafe n)
    m.each (allRails.filter (fun r => m.railState r != railOff))
      (fun r m => m.raise 0x9002 r (m.policy 4) (srcRail r))

/-- A device-wide cause begins, or ends. -/
def Part.setCause (m : Part) (c : Nat) (v : Bool) : Part := (m.putBit F.PWM_SAFEST_CAUSE 0 c v).enterSafe

/-! ## Trips (R173 to R176) -/

/-- A trip input is active and enabled and guards the phase (R173). -/
def Part.tripActive (m : Part) (p n : Nat) : Bool :=
  m.is F.PWM_TRIP_EN n && m.is F.PWM_TRIP_LEVEL n &&
    (m.get F.PWM_TRIP_RAIL n = 63 || m.get F.PWM_TRIP_RAIL n = m.phRail p)

/-- A window monitor routed as a trip is active and guards the phase (R296). -/
def Part.monTripActive (m : Part) (p k : Nat) : Bool :=
  m.is F.WMON_CFG_EN k && m.is F.WMON_CFG_TRIPEN k && m.is F.WMON_ST_OUT k &&
    (m.get F.WMON_CFG_RAIL k = 63 || m.get F.WMON_CFG_RAIL k = m.phRail p)

/-- Some active trip with the given ACT guards the phase. -/
def Part.guardActive (m : Part) (p act : Nat) : Bool :=
  (List.range 16).any (fun n => m.tripActive p n && m.get F.PWM_TRIP_ACT n = act) ||
  (List.range 96).any (fun k => m.monTripActive p k && m.get F.WMON_CFG_ACT k = act)

/-- Cycle-by-cycle limiting of a phase: the on-time ends, and the run raises its fault once (R175). -/
def Part.limitCycle (m : Part) (p : Nat) : Part :=
  let x := m.pwmAt p
  let falls := x.pin && decide (0 < m.get F.PWM_BLANK_BLF p)
  let m := m.setPwm p { x with pin := false, limited := true, limitRun := true, blank := if falls then x.blank + 1 else x.blank }
  let m := m.put F.PWM_STAT_TRIPC p 1
  if x.limitRun then m else m.raise 0x9000 (m.phRail p) (m.policy 2) (srcPhase p)

/-- The active trips act on one phase (R175). A phase trip prevails over limiting (R176). -/
def Part.tripActs (m : Part) (p : Nat) : Part :=
  if !m.switches p then m
  else if m.guardActive p 1 then
    let r := m.phRail p
    let m := m.put F.PWM_STAT_TRIPD p 1
    (m.tripPhase p).raise 0x9001 r (m.policy 3) (srcPhase p)
  else if m.guardActive p 0 && (m.pwmAt p).pin then m.limitCycle p
  else m

/-- The active trips act on every phase that is outside its blanking windows (R174). -/
def Part.tripsAct (m : Part) : Part :=
  m.each allPhases (fun p m => if m.switches p && (m.pwmAt p).blank = 0 then m.tripActs p else m)

end Sys2Proof.Machine
end

