-- ==== Sys2Proof/Machine/Admission.lean ====
section
/-! DEFINITION. Demand, admission, placement, lanes and re-admission (R36 to R38, R89, R100 to R113). -/
namespace Sys2Proof.Machine

/-- Slot of the voltage program the rail runs: its fallback program in FALLBACK (R101). -/
def Part.voltSlot (m : Part) (r : Nat) : Nat :=
  if m.railState r = railFallback then m.get F.RAIL_LCFG_VPROG_FB r else m.get F.RAIL_LCFG_VPROG r

/-- Voltage-task divider N of the rail. -/
def Part.voltN (m : Part) (r : Nat) : Nat :=
  2 ^ (if m.railState r = railFallback then m.get F.RAIL_LCFG_N_FB r else m.get F.RAIL_LCFG_N r)

/-- Slot of the current program of a phase that feeds rail `r`. -/
def Part.currSlot (m : Part) (p r : Nat) : Nat :=
  if m.railState r = railFallback then m.get F.BSL_PTASK_PROG_FB p else m.get F.BSL_PTASK_PROG p

def Part.slotCost (m : Part) (i : Nat) : Nat := m.get F.BSL_PCOST_COST i

/-- The admitted frequency of a phase is TBCLK over the lower of the PERIOD in force and one accepted into the shadow (R162). -/
def Part.admittedPeriod (m : Part) (p : Nat) : Nat :=
  let x := m.pwmAt p
  if x.perNew then min x.period (m.get F.PWM_PERIOD_PERIOD p) else x.period

/-- COST times f_sw, in lane-ops/s (R101). -/
def rateOf (kHz cost period : Nat) : Rat := (cost * kHz * 1000 : Rat) / (max period 1 : Nat)

/-- Demand of the current task of a phase on a rail, at a period. -/
def Part.currDemand (m : Part) (p r period : Nat) : Rat := rateOf m.kHz (m.slotCost (m.currSlot p r)) period

/-- Demand of a task (R101), with what a move in progress has reserved (R236). -/
def Part.taskDemand (m : Part) : Task → Rat
  | .volt r =>
    match m.leadPhase r with
    | some p => rateOf m.kHz (m.slotCost (m.voltSlot r)) (m.admittedPeriod p) / (m.voltN r : Nat)
    | none => 0
  | .curr p =>
    let own := if m.switches p then m.currDemand p (m.phRail p) (m.admittedPeriod p) else 0
    match (m.poolAt p).move with
    | some mv => max own (mv.reserved : Nat)
    | none => own
  | .opt _ => 0

/-- The tasks demand is summed over: rails not in OFF with a lead phase, and phases that switch or have demand reserved. -/
def Part.demandTasks (m : Part) : List Task :=
  ((List.finRange 63).filter (fun (r : Fin 63) => m.railState r != railOff && m.railState r != railArming &&
      (m.leadPhase r).isSome)).map Task.volt ++
  ((List.finRange 128).filter (fun (p : Fin 128) => m.switches p ||
      (match (m.poolAt p).move with
       | some mv => decide (0 < mv.reserved)
       | none => false))).map Task.curr

def Part.demand (m : Part) : Rat := (m.demandTasks.map m.taskDemand).foldl (· + ·) 0

/-- Lanes in service. -/
def Part.lanesIn (m : Part) : List Nat := allLanes.filter (fun l => m.bit F.BSL_LANEST_INSV 0 l)

/-- The admission limit of condition 1 of R102, in lane-ops/s. -/
def Part.limit (m : Part) : Rat := (360000000 * m.lanesIn.length : Nat)

/-- A demand in units of 100 k lane-ops/s, rounded up. -/
def inUnits (x : Rat) : Nat := (x / 100000).ceil.toNat

/-- The lane a task is placed on, if it is placed. -/
def Part.placeOf (m : Part) : Task → Option Nat
  | .volt r => if (m.bslRail r).placed then some (m.bslRail r).lane else none
  | .curr p => if (m.bslPhase p).placed then some (m.get F.BSL_PTASK_LANE p) else none
  | .opt _ => none

/-- Place a task on a lane, or take it off. An invocation that waits goes with its task (R111). -/
def Part.place (m : Part) (t : Task) (l : Option Nat) : Part :=
  let m := match l with
    | some l => { m with bsl := { m.bsl with ready := m.bsl.ready.map (fun x => if x.task = t then { x with lane := l } else x) } }
    | none => m
  match t, l with
  | .volt r, some l => m.setBslRail r { m.bslRail r with placed := true, lane := l }
  | .volt r, none => m.setBslRail r { m.bslRail r with placed := false }
  | .curr p, some l => (m.setBslPhase p { m.bslPhase p with placed := true }).put F.BSL_PTASK_LANE p l
  | .curr p, none => m.setBslPhase p { m.bslPhase p with placed := false }
  | .opt _, _ => m

/-- Placed demand of a lane. -/
def Part.laneLoad (m : Part) (l : Nat) : Rat :=
  ((m.demandTasks.filter (fun t => m.placeOf t = some l)).map m.taskDemand).foldl (· + ·) 0

/-- The least-loaded lane of a load list, lowest number on a tie. -/
def leastLoaded : List (Nat × Rat) → Option Nat
  | [] => none
  | (l, x) :: t =>
    match leastLoaded t with
    | none => some l
    | some l' => if (t.find? (fun q => q.1 = l')).elim true (fun q => decide (x ≤ q.2)) then some l else some l'

/-- Kind and number of a task, for the order of R81 and R103: voltage tasks first, lower numbers first. -/
def taskOrder : Task → Nat
  | .volt r => r.val
  | .curr p => 64 + p.val
  | .opt j => 256 + j.val

/-- `a` is placed before `b`: decreasing demand, then the order of R103. -/
def Part.placedBefore (m : Part) (a b : Task) : Bool :=
  decide (m.taskDemand b < m.taskDemand a) ||
  (decide (m.taskDemand a = m.taskDemand b) && decide (taskOrder a ≤ taskOrder b))

/-- Fresh placement of R103 over the lanes in service. The loads rise as tasks are put down. -/
def Part.freshOn (m : Part) : List Task → List (Nat × Rat) → List (Task × Nat)
  | [], _ => []
  | t :: ts, loads =>
    match leastLoaded loads with
    | none => []
    | some l =>
      (t, l) :: Part.freshOn m ts (loads.map (fun q => if q.1 = l then (l, q.2 + m.taskDemand t) else q))

/-- Load of a lane under a placement. -/
def Part.loadUnder (m : Part) (pl : List (Task × Nat)) (l : Nat) : Rat :=
  ((pl.filter (fun q => q.2 = l)).map (fun q => m.taskDemand q.1)).foldl (· + ·) 0

/-- The placement of every task afresh. -/
def Part.freshPlacement (m : Part) : List (Task × Nat) :=
  m.freshOn (m.demandTasks.mergeSort m.placedBefore) (m.lanesIn.map (fun l => (l, (0 : Rat))))

/-- The placement holds: every task has a lane and no lane is above 360 M (condition 2 of R102). -/
def Part.fits (m : Part) (pl : List (Task × Nat)) : Bool :=
  decide (pl.length = m.demandTasks.length) && allLanes.all (fun l => decide (m.loadUnder pl l ≤ 360000000))

def Part.applyPlacement (m : Part) (pl : List (Task × Nat)) : Part :=
  pl.foldl (fun m q => m.place q.1 (some q.2)) m

/-- Place every task afresh, within the cap or not. A task that finds no lane has none (R38, R113). -/
def Part.placeAfresh (m : Part) : Part :=
  let pl := m.freshPlacement
  (m.demandTasks.foldl (fun m t => m.place t none) m).applyPlacement pl

/-- The voltage tasks of rails in OFF and ARMING and the current tasks of phases that neither switch nor have demand reserved give
up their lanes: one that comes back is an added task (R103). -/
def Part.releaseLanes (m : Part) : Part :=
  let m := m.each (allRails.filter (fun r => m.railState r = railOff || m.railState r = railArming)) (fun r m => m.place (voltTask r) none)
  m.each (allPhases.filter (fun p => !m.demandTasks.contains (currTask p))) (fun p m => m.place (currTask p) none)

/-- Put tasks that have no lane on the least-loaded lane, one after the other (R103). -/
def Part.placeNew (m : Part) : Part :=
  m.demandTasks.foldl (fun m t =>
    if (m.placeOf t).isSome then m
    else m.place t (leastLoaded (m.lanesIn.map (fun l => (l, m.laneLoad l))))) m

/-- Which condition of R102 failed. -/
inductive AdmitFail where
  | sum | pack
deriving DecidableEq, Repr

/-- Admission of a configuration whose demand has risen (R102, R103): the part with its tasks placed, or the
condition that failed. -/
def Part.decideAdmission (m : Part) : Except AdmitFail Part :=
  if m.limit < m.demand then .error .sum
  else
    let m' := m.placeNew
    if m'.demandTasks.all (fun t => (m'.placeOf t).isSome) && allLanes.all (fun l => decide (m'.laneLoad l ≤ 360000000)) then
      .ok m'
    else
      let pl := m.freshPlacement
      if m.fits pl then .ok (m.placeAfresh) else .error .pack

/-- Report a refused admission: BSL_STAT.REFUSED, SUM or PACK where the event asks for it, and the record of R502. -/
def Part.admitRefused (m : Part) (why : AdmitFail) (row source : Nat) (flag : Bool) (asked : Rat) : Part :=
  let m := m.put F.BSL_STAT_REFUSED 0 1
  let m := if flag then (match why with
    | .sum => m.put F.BSL_ERR_SUM 0 1
    | .pack => m.put F.BSL_ERR_PACK 0 1) else m
  m.event (codeOf 7 2) source (2 + row * 256 + (if why = .pack then 2048 else 0)) (inUnits asked) (inUnits m.limit)

/-! ## Limits in force (R37, R89, R263, R305) -/

/-- The retirement factor of R37: (m - k) / m over the rail's home phases. -/
def Part.retireFactor (m : Part) (r : Nat) : Rat :=
  let home := allPhases.filter (fun p => m.get F.POOL_PCFG_HOME p = r)
  let k := (home.filter (fun p => m.phState p = phRetired)).length
  if home.isEmpty then 1 else ((home.length - k : Nat) : Rat) / (home.length : Nat)

/-- The factor f of R89: LIMIT responses, with RAIL_DERATE.F as of the last voltage-task dispatch, Clove's factor of R263 and the
retirement factor. -/
def Part.limitFactor (m : Part) (r : Nat) (clove laneLoss : Rat) : Rat :=
  let x := m.railFault r
  let a : Rat := if x.limit then ((m.bslRail r).derate : Nat) / 32768 else 1
  let b : Rat := if x.laneLoss then laneLoss else 1
  max 0 (min (min 1 a) (min (min b clove) (m.retireFactor r)))

/-! ## Rail states (R26 to R28) -/

/-- The rail enters a state. Clove's correction factor starts at 1 on entry to TRACK (R252). -/
def Part.setRail (m : Part) (r st : Nat) : Part :=
  let m := if st = railTrack && m.railState r != railTrack then
      { m with clv := { m.clv with rails := m.clv.rails.set {} r { m.clv.rails.get {} r with k := 1 } } }
    else m
  let m := m.put F.RAIL_CTRL_STATE r st
  let m := m.put F.RAIL_LSTAT_FB r (if st = railFallback then 1 else 0)
  m.setBslRail r { m.bslRail r with first := true }

/-- A fault of TRIP or above waits for the rail: a lower request that reaches it now is discarded (R28). -/
def Part.outranked (m : Part) (r : Nat) : Bool := m.queuedOn r 3

/-- Rails in the order in which R38 moves them: lowest priority first, then highest number first. -/
def Part.railsByPriority (m : Part) : List Nat :=
  allRails.mergeSort (fun a b =>
    decide (m.get F.RAIL_LCFG_PRIO a < m.get F.RAIL_LCFG_PRIO b) ||
    (decide (m.get F.RAIL_LCFG_PRIO a = m.get F.RAIL_LCFG_PRIO b) && decide (b ≤ a)))

/-- Demand is admitted as it stands: the limit holds, and the placement of R103 stays within the cap. -/
def Part.demandFits (m : Part) : Bool :=
  match m.decideAdmission with
  | .ok _ => true
  | .error _ => false

/-- The part without the phases of rails told to shut, whether their ADMSHUT waits or discharges them: shutting goes on only where
the rest does not fit (R38). -/
def Part.withoutShut (m : Part) : Part :=
  m.each (allRails.filter (fun r => (m.bslRail r).shut))
    (fun r m => m.each (allPhases.filter (fun p => m.phRail p = r)) (fun p m => m.put F.POOL_PSTAT_STATE p phParked))

/-- Re-admission of R38: rails move to FALLBACK, then are shut by ADMSHUT, until demand is admitted; then a fresh
placement within the cap follows and the counts of consecutive misses restart. -/
def Part.readmit (m : Part) : Part :=
  let order := m.railsByPriority
  let m := m.each order (fun r m =>
    if m.demandFits then m
    else if m.regulating r && m.railState r != railFallback then m.setRail r railFallback else m)
  let m := m.each order (fun r m =>
    if m.withoutShut.demandFits then m
    else if m.regulating r && !(m.bslRail r).shut then
      (m.setBslRail r { m.bslRail r with shut := true }).raise 0x9C06 r 3 (srcRail r)
    else m)
  if m.demandFits then
    let m := if m.fits m.freshPlacement then m.placeAfresh else m
    let m := m.each allPhases (fun p m => m.put F.BSL_PTASK_MISS p 0)
    let m := m.each allRails (fun r m => m.put F.RAIL_LSTAT_VMISS r 0)
    { m with bsl := { m.bsl with readmit := false } }
  else { m with bsl := { m.bsl with readmit := true } }

/-- Entry to FALLBACK, without admission: the demand that follows stays where it is placed, is placed afresh where a lane would
exceed the cap, and where that fails R38 follows (R103, R104). -/
def Part.enterFallback (m : Part) (r : Nat) : Part :=
  let m := m.setRail r railFallback
  match m.decideAdmission with
  | .ok m => m
  | .error _ => m.readmit

/-- A rail fault that re-admission caused has been applied, or a lane returned: re-admission is looked at again. -/
def Part.continueReadmit (m : Part) : Part := if m.bsl.readmit then m.readmit else m

end Sys2Proof.Machine
end

