-- ==== Sys2Proof/Machine/Operands.lean ====
section
/-! DEFINITION. Values the blocks share: rounding, conversions of measurements (R277), the Operating Point
Table (R207, R208), the set-point of a rail (R84 to R86), the limits in force (R89). -/
namespace Sys2Proof.Machine

/-- a / b rounded half to even. -/
def roundHalfEven (a : Int) (b : Nat) : Int :=
  let q := a / (b : Int)
  let r := a % (b : Int)
  if 2 * r < b then q else if (b : Int) < 2 * r then q + 1 else if q % 2 = 0 then q else q + 1

/-- a / b rounded up. -/
def ceilDiv (a : Int) (b : Nat) : Int := -((-a) / (b : Int))

/-- A natural quotient rounded up. -/
def ceilDivN (a b : Nat) : Nat := (a + b - 1) / b

/-! ## Measurements -/

def Part.point (m : Part) (s : Nat) : SensePoint := m.adc.points.get {} s
def Part.setPoint (m : Part) (s : Nat) (x : SensePoint) : Part :=
  { m with adc := { m.adc with points := m.adc.points.set {} s x } }

/-- A code of a sense point in RV units under the scaling that ADC_K and ADC_OFS hold (R277). -/
def Part.codeRV (m : Part) (s : Nat) (code : Int) : Nat :=
  satRV (roundHalfEven (code * m.get F.ADC_K_K s) (2 ^ 23) + m.getS F.ADC_OFS_OFS s)

/-- The newest valid MUX 0 result of a sense point in RV units: a write of the scaling applies from the next result (R277). -/
def Part.senseRV (m : Part) (s : Nat) : Nat := (m.point s).rv

/-- VRAIL of a rail, and VBUS (R277). -/
def Part.vrail (m : Part) (r : Nat) : Nat := m.senseRV r
def Part.vbus (m : Part) : Nat := m.senseRV 63

/-- Committed IREF of a rail. -/
def Part.iref (m : Part) (r : Nat) : Int := toSigned 24 (m.get F.RAIL_IREF_I r)

/-- RAIL_IREF reads the committed value sign-extended to 32 bits. -/
def Part.putIref (m : Part) (r : Nat) (v : Int) : Part := m.setWord (R.RAIL_IREF.addr r) (BitVec.ofInt 32 v)

/-! ## The Operating Point Table -/

/-- Address of OPT entry (P, b, t) (R207). -/
def optAddr (prof b t : Nat) : Nat := 0x12000000 + 32 * (128 * prof + 8 * b + t)

/-- A 16-bit half of a word of an entry. -/
def optHalf (mem : Mem) (a off : Nat) : Nat := Mem.read mem (a + off) 2

def optIUp (mem : Mem) (prof b : Nat) : Nat := optHalf mem (optAddr prof b 0) 4
def optIHys (mem : Mem) (prof b : Nat) : Nat := optHalf mem (optAddr prof b 0) 6
def optTUp (mem : Mem) (prof t : Nat) : Int := toSigned 16 (optHalf mem (optAddr prof 0 t) 8)
def optTHys (mem : Mem) (prof t : Nat) : Nat := optHalf mem (optAddr prof 0 t) 10
def optFbDerate (mem : Mem) (idx : Nat) : Nat := optHalf mem (0x12000000 + 32 * idx) 0x10
def optAddI (mem : Mem) (prof b : Nat) : Nat := optHalf mem (optAddr prof b 0) 0x14
def optShedI (mem : Mem) (prof b : Nat) : Nat := optHalf mem (optAddr prof b 0) 0x16

/-- W_HS and W_LS of an entry, as GW places them (R149). -/
def optWidths (mem : Mem) (idx : Nat) : Word := Mem.word mem (0x12000000 + 32 * idx) &&& 0x03FF03FF

/-- FB_HS and FB_LS of an entry (R203). -/
def optFallback (mem : Mem) (idx : Nat) : Word := Mem.word mem (0x12000000 + 32 * idx + 0x0C) &&& 0x03FF03FF

/-- Load band of R208: the lowest band whose limit holds the current. -/
def loadBand (mem : Mem) (prof bprev : Nat) (ai : Nat) : Nat :=
  ((List.range 15).find? (fun k =>
    decide ((ai : Int) ≤ (optIUp mem prof k : Int) - (if k < bprev then (optIHys mem prof k : Int) else 0)))).getD 15

/-- Temperature band of R208. -/
def tempBand (mem : Mem) (prof tprev : Nat) (t : Int) : Nat :=
  ((List.range 7).find? (fun k =>
    decide (t ≤ optTUp mem prof k - (if k < tprev then (optTHys mem prof k : Int) else 0)))).getD 7

/-! ## Limits in force (R89) -/

/-- D of R203: the lowest FB_DERATE of the entries last selected for the rail's phases, in whatever state, on the lanes whose LANELOSS
responses are in force, in service again or not (R305). -/
def Part.laneLossFactor (m : Part) (mem : Mem) (r : Nat) : Rat :=
  let on := allPhases.filter (fun p => m.phRail p = r && (m.railFault r).lossLanes.contains (laneOf p))
  let ds := on.map (fun p => match (m.bslPhase p).sel with
    | some i => optFbDerate mem i
    | none => 32768)
  ((ds.foldl min 32768 : Nat) : Rat) / 32768

/-- Clove's factor of R263, as the last tick left it. -/
def Part.cloveFactor (m : Part) (r : Nat) : Rat :=
  if m.is F.CLV_CTRL_EN 0 then min 1 (m.clv.rails.get {} r).limit else 1

def Part.factorInForce (m : Part) (mem : Mem) (r : Nat) : Rat :=
  m.limitFactor r (m.cloveFactor r) (m.laneLossFactor mem r)

/-- Current limit in force, rounded down (port 15, RAIL_ILIMF). -/
def Part.limitInForce (m : Part) (mem : Mem) (r : Nat) : Nat :=
  (((m.bslRail r).ilim : Nat) * m.factorInForce mem r).floor.toNat

/-- Sink limit in force, rounded down. -/
def Part.sinkInForce (m : Part) (mem : Mem) (r : Nat) : Nat :=
  (((m.bslRail r).isink : Nat) * m.factorInForce mem r).floor.toNat

/-- Committed IREF of the rail as it stands: during an active discharge it follows the sink limit in force (R306). -/
def Part.irefNow (m : Part) (mem : Mem) (r : Nat) : Int :=
  if m.railState r = railDischarge && (m.railFault r).activeDis then
    -((min (m.get F.RAIL_DISI_IDIS r) (m.sinkInForce mem r) : Nat) : Int)
  else m.iref r

/-- A committed IREF is held between the two limits in force (R89), and to 24 bits. -/
def Part.clampIref (m : Part) (mem : Mem) (r : Nat) (i : Int) : Int :=
  clampInt (-(m.sinkInForce mem r : Int)) (m.limitInForce mem r) (satS 24 i)

/-! ## Groups and channels -/

/-- The group a port belongs to (R43). -/
def Part.groupOfPort (m : Part) (n : Nat) : Option Nat := (List.range 8).find? (fun g => m.bit F.SAF_GCFG_PORTS g n)

/-- The group a channel belongs to: that of its port, or none without a port (R46). -/
def Part.groupOfChannel (m : Part) (c : Nat) : Option Nat :=
  if m.is F.AUD_CHSRC_EN c then m.groupOfPort (m.get F.AUD_CHSRC_PORT c) else none

/-- Channels mapped to a rail. -/
def Part.railChannels (m : Part) (r : Nat) : List Nat :=
  (List.range 64).filter (fun c => m.is F.SAF_CHMAP_MAPEN c && m.get F.SAF_CHMAP_RAIL c = r)

/-- The group of a rail: that of the channels feeding it, or none (R46). -/
def Part.railGroup (m : Part) (r : Nat) : Option Nat := (m.railChannels r).findSome? m.groupOfChannel

/-- Rails fed by channels of a group. -/
def Part.groupRails (m : Part) (g : Nat) : List Nat := allRails.filter (fun r => m.railGroup r = some g)

/-- Group states of SAF_GSTAT (R70). -/
def grpIdle : Nat := 0
def grpAcquire : Nat := 1
def grpLocked : Nat := 2
def grpHoldover : Nat := 3
def grpLost : Nat := 4

/-- Index of the output frame now leaving. -/
def Part.outFrame (m : Part) (g : Nat) : Int := m.getS F.SAF_GFRAME_FRAME g

/-- Sub-frame position of the group's frame counter, 0 to 255 (R85). -/
def Part.subFrame (m : Part) (g : Nat) : Nat :=
  let x := m.group g
  if x.period = 0 then 0 else min 255 (256 * (m.tb.ticks - x.outStart) / x.period)

/-! ## Clove's ladder (R254, R255, R267) -/

/-- Step `k` of the action ladder is in force: the level has reached it, and STEPEN as of the last tick enables it. -/
def Part.stepInForce (m : Part) (k : Nat) : Bool :=
  decide (k ≤ m.get F.CLV_STAT_LEVEL 0) && m.clv.stepen / 2 ^ (k - 1) % 2 == 1

/-- Priority of optional task `j`. -/
def Part.optPriority (m : Part) (j : Nat) : Nat :=
  m.get F.CLV_OPRI_PRI (j / 8) / 2 ^ (4 * (j % 8)) % 16

/-- The optional task is deferred: step 1 is in force and its priority is below DEFER_PRI. -/
def Part.optDeferred (m : Part) (j : Nat) : Bool :=
  m.stepInForce 1 && decide (m.optPriority j < m.get F.CLV_CFG_DEFER_PRI 0)

/-! ## Alerts to the load (R380) -/

/-- Rail `r` is in the mask of load command port `n` (R375). -/
def Part.portPermits (m : Part) (n r : Nat) : Bool :=
  if r < 32 then m.bit F.LCP_RMLO_MASK n r else m.bit F.LCP_RMHI_MASK n (r - 32)

/-- Cause `c` rises: enabled ports with its mask bit latch it; with a rail, only ports whose mask holds the rail. -/
def Part.alert (m : Part) (c : Nat) (rail : Option Nat) : Part :=
  m.each (List.range 4) (fun n m =>
    if m.is F.LCP_CFG_EN n && m.bit F.LCP_CFG_AMASK n c && rail.elim true (m.portPermits n) then
      m.putBit F.LCP_STAT_ALAT n c true
    else m)

/-! ## The set-point (R84 to R86) -/

/-- Interpolation between two knots at a position in 1/2048 of the interval, rounded up (R85). -/
def interpolate (a b : Nat) (pos : Nat) : Int := ceilDiv ((a : Int) * 2048 + ((b : Int) - a) * pos) 2048

/-- The plan's trajectory at a sub-frame position of the present output frame: between the knot in force and
the next, or held where there is none (R58, R85). -/
def Part.planValue (m : Part) (r g phi : Nat) : Option Nat :=
  let pl := m.plan r
  match pl.cur with
  | none => pl.fifo.head?.map (fun k => k.v)
  | some k =>
    match pl.fifo.head? with
    | none => some k.v
    | some k' =>
      let n := m.outFrame g
      let pos := clampInt 0 2048 ((n - 8 * k.k) * 256 + phi)
      some (interpolate k.v k'.v pos.toNat).toNat

/-- The rail's group gives no plan: IDLE, ACQUIRE, a depth change, or no group (R84, last case of TRACK). While a change of
timeline master is under way the buffered plan goes on (R370, log entry 24). -/
def Part.blind (m : Part) (r : Nat) : Bool :=
  match m.railGroup r with
  | none => true
  | some g =>
    m.get F.SAF_GSTAT_STATE g = grpIdle || (m.get F.SAF_GSTAT_STATE g = grpAcquire && !(m.group g).handover) ||
      (m.group g).depthRestart

/-- The planned or guarded trajectory before clamping (port 8). -/
def Part.trajectory (m : Part) (r : Nat) : Nat :=
  let pl := m.plan r
  if m.blind r then m.get F.SAF_BLIND_VALUE r
  else
    match m.railGroup r with
    | none => m.get F.SAF_BLIND_VALUE r
    | some g =>
      match pl.seed with
      | some v => v
      | none =>
        if m.is F.SAF_RSTAT_RECOMP r then
          match pl.guarded with
          | some v => (v + 255) / 256
          | none => (m.bslRail r).setp
        else if pl.finish.isSome then pl.finish.getD 0
        else if pl.heldKnot then (pl.fifo.head?.map (fun k => k.v)).getD (m.bslRail r).setp
        else (m.planValue r g (m.subFrame g)).getD (m.bslRail r).setp

/-- SLOPE of the knot in force, 0 in the cases port 1 lists (R83). -/
def Part.slope (m : Part) (r : Nat) : Int :=
  let pl := m.plan r
  if m.railState r != railTrack || m.blind r || pl.seed.isSome || pl.heldKnot || pl.underrun then 0
  else (pl.cur.map (fun k => k.slope)).getD 0

/-- The follow input's target before clamping, or none while the input has no valid value (R84). -/
def Part.followTarget (m : Part) (r : Nat) : Option Nat :=
  let full := m.get F.RAIL_SRC_FSCALE r * 16
  let fin := m.get F.RAIL_SRC_FIN r
  if fin < 16 then
    let w := m.get F.ADC_AUX_RESULT fin
    let code := toSigned 24 w
    if w / 2 ^ 31 = 0 || !decide ((m.tb.ticks - m.adc.auxTime.get 0 fin) * 1000 ≤ m.get F.ADC_CTRL_SNS_T 0 * m.kHz) then none
    else if code < 0 then some 0
    else if code = 2 ^ 23 - 1 then some full
    else some (code.toNat * full / 2 ^ 23)
  else
    let n := fin - 16
    if m.is F.GPIO_PD_VALID n then
      let pd := m.get F.GPIO_PD_PD n
      some (if pd = 0xFFFF then full else full * pd / 65536)
    else none

/-- The clamp of R84: first FLOOR to CEIL, CEIL prevailing, then VMIN to VMAX. -/
def Part.clampTarget (m : Part) (r v : Nat) : Nat :=
  let v := min (max v (m.get F.RAIL_FLOOR_VALUE r)) (m.get F.RAIL_CEIL_VALUE r)
  min (max v (m.get F.SAF_VMIN_VALUE r)) (m.get F.SAF_VMAX_VALUE r)

/-- The margin asked for by OPERATION: 0 off, 1 low, 2 high (R342). -/
def Part.marginAsked (m : Part) (r : Nat) : Nat := m.pmb.margin.get 0 r

/-- PMBus margin in force replaces RAIL_VSET as a HOLD target (R342). -/
def Part.marginTarget (m : Part) (r : Nat) : Option Nat :=
  match m.marginAsked r with
  | 0 => none
  | 1 => some (m.get F.PMB_MARG_LOW r)
  | _ => some (m.get F.PMB_MARG_HIGH r)

/-- A load command port holds the rail in HOLD (R378). -/
def Part.holdForced (m : Part) (r : Nat) : Bool :=
  if r < 32 then m.bit F.LCP_FHOLD0_RAILS 0 r else m.bit F.LCP_FHOLD1_RAILS 0 (r - 32)

/-- The set-point source in force: 0 TRACK, 1 HOLD, 2 FOLLOW (R342, R378). -/
def Part.sourceOf (m : Part) (r : Nat) : Nat :=
  if m.marginAsked r != 0 || m.holdForced r then 1 else m.get F.RAIL_SRC_SRC r

/-- The target of R84 after clamping: what a voltage-task dispatch forms. -/
def Part.target (m : Part) (r : Nat) : Nat :=
  let held := (m.bslRail r).target.getD (m.bslRail r).setp
  match m.sourceOf r with
  | 0 => m.clampTarget r (m.trajectory r)
  | 1 => m.clampTarget r ((m.marginTarget r).getD (m.get F.RAIL_VSET_VALUE r))
  | _ => match m.followTarget r with
    | some v => m.clampTarget r v
    | none => held

/-- The slew limit of R86 from the previous SETP over `dt` ticks. -/
def Part.slewTo (m : Part) (r old target dt : Nat) : Nat :=
  let up := ceilDivN (m.get F.SAF_SLEW_SR_UP r * dt * 1000) m.kHz
  let down := ceilDivN (m.get F.SAF_SLEW_SR_DOWN r * dt * 1000) m.kHz
  if old ≤ target then min target (old + up) else max target (old - down)

end Sys2Proof.Machine
end

