-- ==== Sys2Proof/Machine/Pool.lean ====
section
/-! DEFINITION. The phase pool: assignment, moves, steering, add and shed, requests (R224 to R248). -/
namespace Sys2Proof.Machine

/-- A lane is UP (R201). -/
def Part.laneUp (m : Part) (n : Nat) : Bool := m.bit F.FLK_STAT_UP 0 n

/-- The lane has a stage at the phase's position: a phase without one never leaves PARKED (R182). -/
def Part.stagePresent (m : Part) (p : Nat) : Bool := decide (p % 8 < m.get F.FLK_LCFG_NPOS (laneOf p))

/-- A phase may leave PARKED (R182, R228). -/
def Part.mayLeaveParked (m : Part) (p : Nat) : Bool :=
  m.is F.POOL_CFG_EN 0 && m.laneUp (laneOf p) && m.is F.PWM_CFG_EN p && !m.is F.POOL_PSTAT_STEERUNK p && m.stagePresent p

/-- Phases whose current rail is `r`, counting every state but RETIRED (R226). -/
def Part.phasesOn (m : Part) (r : Nat) : Nat :=
  (allPhases.filter (fun p => m.phRail p = r && m.phState p != phRetired)).length

/-- A PERIOD is accepted into the shadow of a phase: it has landed (R163, R165); a DUTY of the same tick counts as landed after it
(R166). -/
def Part.landPeriod (m : Part) (p v : Nat) : Part :=
  let x := m.pwmAt p
  let m := m.put F.PWM_PERIOD_PERIOD p v
  let m := m.setPwm p { x with perNew := true, perSnaps := 0, dutySince := decide (x.dutyAt = some m.tb.ticks) }
  if x.locked then m.put F.PWM_STAT_LATE p 1 else m

/-- The rail a steering of the phase leads to. -/
def Part.steerRail (m : Part) (p : Nat) (toGuest : Bool) : Nat :=
  if toGuest then m.get F.POOL_PCFG_GUEST p else m.get F.POOL_PCFG_HOME p

/-- Entry to STEERING: the epoch increments, the command opens both switches, and the current rail becomes the
new one (R225, R233, R238). -/
def Part.enterSteering (m : Part) (p : Nat) (toGuest : Bool) : Part :=
  let old := m.phRail p
  let new := m.steerRail p toGuest
  let m := m.setPhase p phSteering (m.phState p = phParked)
  let m := m.put F.POOL_PSTAT_EPOCH p (m.get F.POOL_PSTAT_EPOCH p + 1)
  let m := m.put F.POOL_PSTAT_RAIL p new
  let m := m.put F.PWM_STAT_RAIL p new
  let m := m.put F.POOL_PSTAT_SW p (if toGuest then 1 else 0)
  let m := m.setPool p { m.poolAt p with openConf := false, closed := false, settled := false, steerCmd := 3, low := 0,
                                         reported := false, ready := false, inLoop := false, fresh := false, oldRail := old }
  (m.recount old).recount new

/-- Whether phases of a rail and of the moves under way to it leave room for `p`, a 33rd phase being refused (R226). -/
def Part.roomFor (m : Part) (p r : Nat) : Bool :=
  let coming := (allPhases.filter (fun q => q != p && m.phRail q != r && (match (m.poolAt q).move with
    | some mv => mv.steer && !mv.waiting && m.steerRail q mv.toGuest = r
    | none => false))).length
  m.phRail p = r || decide (m.phasesOn r + coming < 32)

/-- Entry to JOINING: the ramp starts at 0, the reservation ends, and the PERIOD of the rail's lead or lowest switching phase is
written into the shadow (R232, R236, R239). -/
def Part.enterJoining (m : Part) (p : Nat) : Part :=
  let r := m.phRail p
  let per := (m.originPhase r).map (fun q => (m.pwmAt q).period)
  let fromParked := decide (m.phState p = phParked)
  let m := m.setPool p { m.poolAt p with ramp := 0, move := (m.poolAt p).move.map (fun mv => { mv with reserved := 0 }) }
  let m := m.setPhase p phJoining fromParked
  match per with
  | some v => m.landPeriod p v
  | none => m

/-- A phase parks, and its move ends with an outcome. -/
def Part.parkPhase (m : Part) (p result : Nat) : Part := (m.setPhase p phParked true).endMove p result

/-- The phase enters ZERO: a shed ends in PARKED, a lend goes on to STEERING (R228). -/
def Part.enterZero (m : Part) (p : Nat) : Part :=
  let m := m.setPhase p phZero false
  match (m.poolAt p).move with
  | none => m
  | some mv => if mv.steer then m.enterSteering p mv.toGuest else m.parkPhase p 0

/-- A move starts: an active phase drains from its next ZERO on, a parked one steers or joins at once (R228, and the example
of the pool's chapter). -/
def Part.startMove (m : Part) (p : Nat) : Part :=
  match (m.poolAt p).move with
  | none => m
  | some mv =>
    let m := m.setPool p { m.poolAt p with move := some { mv with waiting := false }, low := 0 }
    if m.phState p = phParked then
      if mv.steer then m.enterSteering p mv.toGuest else m.enterJoining p
    else m

/-- The demand the phase adds at its entry to JOINING on a rail (R236, R239). -/
def Part.joinDemand (m : Part) (p r : Nat) : Nat :=
  let per := match m.originPhase r with
    | some q => (m.pwmAt q).period
    | none => m.admittedPeriod p
  (m.currDemand p r per).ceil.toNat

/-- The rail a move of the phase ends on. -/
def Part.moveRail (m : Part) (p : Nat) (mv : Move) : Nat := if mv.steer then m.steerRail p mv.toGuest else m.phRail p

/-- The rail a phase of a requested move leaves keeps at least NMIN phases in ACTIVE (R244). -/
def Part.keepsMin (m : Part) (p : Nat) : Bool :=
  let cur := m.phRail p
  decide (m.get F.POOL_RCFG_NMIN cur ≤ (allPhases.filter (fun q => q != p && m.phRail q = cur && m.phState q = phActive)).length)

/-- What R244 asks of a move to the other rail, at the request and again at its start (R236). -/
def Part.lendRefused (m : Part) (p dst : Nat) (toGuest : Bool) : Bool :=
  let st := m.phState p
  !(st = phActive || st = phParked) || (toGuest && !m.is F.POOL_PCFG_LEND p) ||
  !m.is F.POOL_CFG_EN 0 || (st = phParked && !m.mayLeaveParked p) ||
  (st = phActive && !m.is F.POOL_RCFG_LOUT (m.phRail p)) || !m.is F.POOL_RCFG_LIN dst || !m.keepsMin p ||
  !m.regulating dst || !m.roomFor p dst

/-- A rule of the pool bars the start of a move that ends in JOINING (R226, R228, R236, R242, R244, R247). -/
def Part.joinBarred (m : Part) (p : Nat) (mv : Move) : Bool :=
  let r := m.moveRail p mv
  if mv.request then m.lendRefused p r mv.toGuest
  else m.phState p != phParked || !m.mayLeaveParked p || !m.regulating r || !m.roomFor p r ||
    (m.get F.POOL_PCFG_HOME p != r && !m.is F.POOL_RCFG_LIN r)

/-- A speculative move is cancelled by a changed plan epoch, with its record (R243). -/
def Part.cancelSpec (m : Part) (r issued : Nat) (phase : Nat) : Part :=
  let m := m.put F.POOL_STAT_CANCEL 0 1
  m.event (codeOf 10 2) (srcRail r) (2 + issued * 256 + m.get F.SAF_RSTAT_EPOCH r * 4096) phase

/-- The rules are met and admission has accepted: the move starts, and DWELL runs from here (R236, R240). -/
def Part.joinStarts (m : Part) (p r : Nat) (mv : Move) : Part :=
  let m := if mv.request then m else m.setPoolRail r { m.poolRail r with lastAdd := some m.tb.ticks, addHeld := none }
  m.startMove p

/-- Admission of a phase's entry to JOINING. A move whose rail's plan epoch has changed is cancelled with RESULT 4, one that a rule bars
by now is refused with RESULT 2, one that admission refuses is given up with RESULT 3; otherwise it starts (R104, R236, R243). -/
def Part.decideJoin (m : Part) (p : Nat) : Part :=
  match (m.poolAt p).move with
  | none => m
  | some mv =>
    if !mv.waiting then m
    else
      let r := m.moveRail p mv
      let stale := match mv.epoch with
        | some e => if e = m.get F.SAF_RSTAT_EPOCH r then none else some e
        | none => none
      match stale with
      | some e => (m.cancelSpec r e p).endMove p 4
      | none =>
        if m.joinBarred p mv then
          let m := if mv.request then m.put F.POOL_STAT_REFUSED 0 1 else m
          m.endMove p 2
        else
          let m := m.releaseLanes
          let m' := m.setPool p { m.poolAt p with move := some { mv with reserved := m.joinDemand p r } }
          match m'.decideAdmission with
          | .ok m'' => m''.joinStarts p r mv
          | .error e =>
            let m := m.admitRefused e 2 (srcPhase p) false m'.demand
            (m.put F.POOL_STAT_ADMREF 0 1).endMove p 3

/-- Submit a move that ends in JOINING: it waits for admission. -/
def Part.submitJoin (m : Part) (p : Nat) (steer toGuest request : Bool) (epoch : Option Nat) : Part :=
  m.setPool p { m.poolAt p with
    move := some { steer := steer, toGuest := toGuest, ending := .join, request := request, waiting := true, epoch := epoch } }

/-! ## Assignment in ARMING (R229) -/

/-- Home phases in PARKED that the pool takes for the rail, lowest first, up to NMIN. One without a stage cannot be assigned (R182, log
entry 116). -/
def Part.assigned (m : Part) (r : Nat) : List Nat :=
  (allPhases.filter (fun p => m.get F.POOL_PCFG_HOME p = r && m.stagePresent p && (m.phState p = phParked ||
    (m.phState p = phSteering && (match (m.poolAt p).move with
      | some mv => mv.ending = .park
      | none => false))))).take (m.get F.POOL_RCFG_NMIN r)

/-- Assign phases to a rail in ARMING: those on their other rail are steered to it; too few sets SHORTPH. -/
def Part.assignPhases (m : Part) (r : Nat) : Part :=
  let ps := m.assigned r
  let m := m.each ps (fun p m =>
    if m.phState p = phParked && m.phRail p != r && (m.poolAt p).move.isNone && m.mayLeaveParked p && m.roomFor p r then
      (m.setPool p { m.poolAt p with move := some { steer := true, toGuest := false, ending := .park } }).startMove p
    else m)
  if ps.length < m.get F.POOL_RCFG_NMIN r then m.put F.POOL_RSTAT_SHORTPH r 1 else m

/-- The assigned phases are all there and report ready (R26, R229). -/
def Part.armingReady (m : Part) (r : Nat) : Bool :=
  let ps := m.assigned r
  decide (m.get F.POOL_RCFG_NMIN r ≤ ps.length) &&
    ps.all (fun p => m.phState p = phParked && m.phRail p = r && (m.poolAt p).ready && m.mayLeaveParked p)

/-! ## Ramps (R232) -/

/-- Ramp step: ceil(32,768 × T_per / T), with T_per the period length in force in µs. -/
def Part.rampStep (m : Part) (p t : Nat) : Nat := ceilDivN (32768 * m.get F.PWM_ACT_VALUE p * 1000) (m.kHz * max t 1)

/-- The ramp at a ZERO of the phase: down in DRAINING, up in JOINING and after a failed drain; a full ramp in JOINING
makes the phase ACTIVE and completes its move (R228, R232, R237). -/
def Part.rampAtZero (m : Part) (p : Nat) : Part :=
  let r := m.phRail p
  let x := m.poolAt p
  if m.phState p = phDraining then
    (m.setPool p { x with ramp := x.ramp - m.rampStep p (m.get F.POOL_RTIM_DRAIN_T r) }).refreshF p
  else if m.phState p = phJoining || (m.phState p = phActive && x.ramp < 32768) then
    let ramp := min 32768 (x.ramp + m.rampStep p (m.get F.POOL_RTIM_JOIN_T r))
    let m := (m.setPool p { x with ramp := ramp }).refreshF p
    if m.phState p = phJoining && ramp = 32768 then (m.setPhase p phActive false).endMove p 0 else m
  else m

/-- A move of the phase has started. -/
def Part.moveStarted (m : Part) (p : Nat) : Bool :=
  match (m.poolAt p).move with
  | some mv => !mv.waiting
  | none => false

/-- What the pool does with a phase at its ZERO (R232, R238, R239, R247): an active phase whose move has started enters DRAINING,
a settled one JOINING, and both take the first step of their ramp at this ZERO. -/
def Part.poolAtZero (m : Part) (p : Nat) : Part :=
  let x := m.poolAt p
  let r := m.phRail p
  if m.phState p = phActive && m.moveStarted p then (m.setPhase p phDraining false).rampAtZero p
  else if m.phState p = phSteering && x.settled then
    if m.regulating r then (m.enterJoining p).rampAtZero p else m.parkPhase p 5
  else if m.phState p = phJoining && !m.regulating r then
    (m.setPhase p phParked true).phaseLoss p r true
  else m.rampAtZero p

/-- Two waits of STEER_DEAD: the command closes the switch, then the switch has settled (R238). -/
def Part.steerDead (m : Part) (p : Nat) : Part :=
  let x := m.poolAt p
  if m.phState p != phSteering || !x.openConf then m
  else if !x.closed then
    m.setPool p { x with closed := true, steerCmd := 1 + m.get F.POOL_PSTAT_SW p }
  else
    match x.move with
    | none => m
    | some mv =>
      match mv.ending with
      | .join => if m.regulating (m.phRail p) then m.setPool p { x with settled := true }
                 else (m.setPool p { x with settled := true }).parkPhase p 5
      | .park => (m.setPool p { x with settled := true }).parkPhase p 0
      | .clearPark =>
        ((m.setPool p { x with settled := true }).put F.POOL_PSTAT_STEERUNK p 0).parkPhase p 0

/-- The open is not confirmed within 10 µs: the phase trips with STEERUNK = 1 (R238). -/
def Part.steerTimeout (m : Part) (p : Nat) : Part :=
  if m.phState p = phSteering && !(m.poolAt p).openConf then
    let r := m.phRail p
    let m := (m.put F.POOL_PSTAT_STEERUNK p 1).put F.POOL_STAT_CONFF 0 1
    let m := m.tripPhase p
    m.raise 0xA800 r (m.policy 8) (srcPhase p)
  else m

/-- A drain fails: the phase returns to ACTIVE and its ramp rises again (R237). -/
def Part.drainFails (m : Part) (p : Nat) : Part :=
  if m.phState p = phDraining && m.get F.POOL_PFACT_F p = 0 then
    (m.backToActive p 5).put F.POOL_STAT_DRAINF 0 1
  else m

/-! ## Add and shed (R240 to R243) -/

/-- An add or shed of the pool's own that touches the rail is under way (R240). -/
def Part.railMoving (m : Part) (r : Nat) : Bool :=
  allPhases.any (fun p => match (m.poolAt p).move with
    | some mv => !mv.request && (m.phRail p = r || (mv.steer && m.steerRail p mv.toGuest = r))
    | none => false)

/-- The phase an add takes: a parked home phase on an UP lane, else with LIN a parked guest phase (R242). One that R228 or a move of its
own holds where it is cannot be taken (log entry 116). -/
def Part.addChoice (m : Part) (r : Nat) : Option Nat :=
  let free := fun p => m.phState p = phParked && m.laneUp (laneOf p) && (m.poolAt p).move.isNone && m.mayLeaveParked p
  match allPhases.find? (fun p => m.get F.POOL_PCFG_HOME p = r && free p) with
  | some p => some p
  | none =>
    if m.is F.POOL_RCFG_LIN r then allPhases.find? (fun p => m.get F.POOL_PCFG_GUEST p = r && free p) else none

/-- An add of a phase to the rail is submitted, with the plan epoch of a speculative one, or finds none (R242, R243). -/
def Part.addPhase (m : Part) (r : Nat) (epoch : Option Nat) : Part :=
  match m.addChoice r with
  | none => m.put F.POOL_RSTAT_NOPH r 1
  | some p =>
    if !m.roomFor p r then m
    else (m.submitJoin p (m.phRail p != r) (m.get F.POOL_PCFG_GUEST p = r) false epoch).setPoolRail r
      { m.poolRail r with spec := none }

/-- The phase a shed takes: the highest-numbered active one but the lead, guests before home phases (R242). -/
def Part.shedChoice (m : Part) (r : Nat) : Option Nat :=
  let cand := (allPhases.filter (fun p => m.phRail p = r && m.phState p = phActive &&
    m.leadPhase r != some p && (m.poolAt p).move.isNone)).reverse
  match cand.find? (fun p => m.get F.POOL_PCFG_GUEST p = r) with
  | some p => some p
  | none => cand.head?

def Part.shedPhase (m : Part) (r : Nat) : Part :=
  match m.shedChoice r with
  | none => m
  | some p =>
    let home := m.is F.POOL_RCFG_RETHOME r && m.get F.POOL_PCFG_GUEST p = r
    if home && !m.roomFor p (m.get F.POOL_PCFG_HOME p) then m
    else
    let m := m.setPool p { m.poolAt p with move := some { steer := home, toGuest := false, ending := .park } }
    let m := m.setPoolRail r { m.poolRail r with lastShed := some m.tb.ticks, shedHeld := none }
    m.startMove p

/-- A condition that must hold at every commit for a time: since when it has held. -/
def heldSince (held : Option Nat) (now : Nat) (c : Bool) : Option Nat :=
  if c then some (held.getD now) else none

/-- DWELL has passed since the rail's last add or shed. -/
def Part.dwelled (m : Part) (r : Nat) (t : Option Nat) : Bool :=
  match t with
  | none => true
  | some t => m.elapsed t (1000 * m.get F.POOL_RCFG_DWELL r)

/-- A commit at which the conditions of R240 are not true: what was held is held no longer. -/
def Part.unheld (m : Part) (r : Nat) : Part := m.setPoolRail r { m.poolRail r with addHeld := none, shedHeld := none }

/-- The evaluation at a voltage-task commit (R240, R241); `pd` is the planned current of Clove. While POOL_CFG.EN is 0 it goes on, but
no move starts (R247). -/
def Part.poolEvaluate (m : Part) (mem : Mem) (r pd : Nat) : Part :=
  if !m.is F.POOL_RCFG_AUTO r || !m.regulating r then m.unheld r
  else
    let prof := m.get F.RAIL_OPT_PROFILE r
    let band := match m.leadPhase r with
      | some p => (m.bslPhase p).bprev
      | none => 0
    let m := m.put F.POOL_RSTAT_BAND r band
    let addI := optAddI mem prof band
    let shedI := optShedI mem prof band
    if addI ≤ shedI then ((m.unheld r).put F.POOL_RSTAT_BANDERR r 1).put F.POOL_STAT_BANDERR 0 1
    else
      let n := (m.feeding r).length
      let a := (m.iref r).natAbs
      let pd := if m.is F.POOL_RCFG_SPEC r then pd else 0
      let x := m.poolRail r
      let now := m.tb.ticks
      let addHeld := heldSince x.addHeld now (decide (n * addI < a))
      let shedHeld := heldSince x.shedHeld now (decide (max a pd < (n - 1) * shedI))
      let m := m.setPoolRail r { x with addHeld := addHeld, shedHeld := shedHeld }
      let heldFor := fun (h : Option Nat) (us : Nat) => match h with
        | some t => m.elapsed t us
        | none => false
      let more := decide (n < m.get F.POOL_RCFG_NMAX r)
      if m.railMoving r || !m.is F.POOL_CFG_EN 0 then m
      else if more && heldFor addHeld (10 * m.get F.POOL_RTIM_ADD_T r) && m.dwelled r x.lastShed then m.addPhase r none
      else if more && decide (n * addI < pd) && m.dwelled r x.lastShed then
        if x.spec.isSome then m
        else m.setPoolRail r { m.poolRail r with spec := some (m.get F.SAF_RSTAT_EPOCH r) }
      else if decide (m.get F.POOL_RCFG_NMIN r < n) && heldFor shedHeld (100 * m.get F.POOL_RTIM_SHED_T r) &&
          m.dwelled r x.lastAdd then m.shedPhase r
      else m

/-! ## Requests (R244, R245) -/

/-- Lowest non-zero width code of a side among the 128 entries of a profile (R215). -/
def lowestCode (mem : Mem) (prof : Nat) (low : Bool) : Option Nat :=
  ((List.range 128).map (fun k =>
    let w := (optWidths mem (128 * prof + k)).toNat
    if low then w / 65536 else w % 65536)).foldl
    (fun acc w => if w = 0 then acc else match acc with
      | none => some w
      | some v => some (min v w)) none

/-- Mica's retire condition: U of either side is below the lowest non-zero code of the rail's profile (R215). -/
def Part.retireCondition (m : Part) (mem : Mem) (p : Nat) : Bool :=
  let prof := m.get F.RAIL_OPT_PROFILE (m.phRail p)
  let under := fun (u : Nat) (low : Bool) => match lowestCode mem prof low with
    | some c => decide (u < c)
    | none => false
  under (m.get F.MICA_USE_U_HS p) false || under (m.get F.MICA_USE_U_LS p) true

/-- A trip input guarding the phase is active (R244). -/
def Part.tripGuards (m : Part) (p : Nat) : Bool := (List.range 16).any (fun n => m.tripActive p n)

/-- A rule of R244 refuses the request. -/
def Part.requestRefused (m : Part) (mem : Mem) (op p : Nat) : Bool :=
  let st := m.phState p
  let guest := m.get F.POOL_PCFG_GUEST p
  let home := m.get F.POOL_PCFG_HOME p
  let cur := m.phRail p
  if (m.poolAt p).move.isSome then true
  else if op = 2 then st != phActive || !m.is F.POOL_CFG_EN 0
  else if op = 3 then
    !(st = phTripped || st = phRetired || (st = phParked && m.is F.POOL_PSTAT_STEERUNK p)) || !m.laneUp (laneOf p) ||
      m.tripGuards p || (st = phRetired && m.retireCondition mem p) ||
      (m.is F.POOL_PSTAT_STEERUNK p && !(m.is F.POOL_CFG_EN 0 && m.is F.PWM_CFG_EN p))
  else
    let dst := if op = 0 then home else guest
    guest = 63 || cur = dst || m.lendRefused p dst (op = 1)

/-- The request's outcome is known at once. -/
def Part.requestDone (m : Part) (result : Nat) : Part :=
  ((m.put F.POOL_LRES_RESULT 0 result).put F.POOL_LRES_BUSY 0 0).put F.POOL_LREQ_GO 0 0

/-- The clear of R244: the phase parks; with STEERUNK it is first steered to its current rail. -/
def Part.clearPhase (m : Part) (p : Nat) : Part :=
  let m := if m.phState p = phParked then m else m.setPhase p phParked true
  if m.is F.POOL_PSTAT_STEERUNK p then
    let m := m.setPool p { m.poolAt p with move := some { steer := true, toGuest := m.is F.POOL_PSTAT_SW p,
                                                           ending := .clearPark, request := true } }
    m.enterSteering p (m.is F.POOL_PSTAT_SW p)
  else m.requestDone 0

/-- A request that no rule refuses is carried out, or waits for admission, a speculative one with its epoch. -/
def Part.takeRequest (m : Part) (op p : Nat) (epoch : Option Nat := none) : Part :=
  if op = 2 then
    (m.setPool p { m.poolAt p with move := some { steer := false, toGuest := false, ending := .park, request := true } }).startMove p
  else if op = 3 then m.clearPhase p
  else m.submitJoin p true (op = 1) true epoch

/-- A request is submitted while GO is 0 (R244). -/
def Part.submitRequest (m : Part) (mem : Mem) (v : Word) : Part :=
  let p := bitsOf v 0 7
  let op := bitsOf v 16 2
  let m := m.setWord R.POOL_LREQ.base (v &&& 0xCF03007F)
  let m := (m.put F.POOL_LRES_PHASE 0 p).put F.POOL_LRES_BUSY 0 1
  if m.requestRefused mem op p then (m.put F.POOL_STAT_REFUSED 0 1).requestDone 2
  else if bitsOf v 30 1 = 1 && op < 2 then
    { m with pool := { m.pool with request := some { phase := p, op := op, epoch := bitsOf v 24 4 } } }
  else m.takeRequest op p

/-- A write of 1 to POOL_LREQ.GO (R244, R245). -/
def Part.poolRequest (m : Part) (mem : Mem) (i : Initiator) (v : Word) : Part :=
  if m.is F.POOL_LREQ_GO 0 then
    (m.refuse F.POOL_STAT_REFUSED i R.POOL_LREQ.base v).put F.POOL_LRES_RESULT 0 1
  else m.submitRequest mem v

/-- ADD_LEAD before the planned current: a speculative add or request of the rail goes to admission, or is cancelled by a changed plan
epoch (R243, R244). An add waits on while another move of the pool's own touches the rail (R240). -/
def Part.specStart (m : Part) (mem : Mem) (r : Nat) : Part :=
  let now := m.get F.SAF_RSTAT_EPOCH r
  let m := match (m.poolRail r).spec with
    | none => m
    | some e =>
      let m' := m.setPoolRail r { m.poolRail r with spec := none }
      if e != now then m'.cancelSpec r e 0xFFFFFFFF
      else if !m.regulating r || !m.is F.POOL_CFG_EN 0 then m'
      else if m.railMoving r then m
      else m'.addPhase r (some e)
  match m.pool.request with
  | none => m
  | some q =>
    if m.steerRail q.phase (q.op = 1) != r then m
    else
      let m := { m with pool := { m.pool with request := none } }
      if q.epoch != now then (m.cancelSpec r q.epoch q.phase).requestDone 4
      else if m.requestRefused mem q.op q.phase then (m.put F.POOL_STAT_REFUSED 0 1).requestDone 2
      else m.takeRequest q.op q.phase (some q.epoch)

/-- A speculative move of the phase to the rail waits for admission: it is cancelled. -/
def Part.cancelWaiting (m : Part) (r p : Nat) : Part :=
  match (m.poolAt p).move with
  | some mv => match mv.epoch with
    | some e => if mv.waiting && m.moveRail p mv = r then (m.cancelSpec r e p).endMove p 4 else m
    | none => m
  | none => m

/-- A plan epoch changes: speculative adds and requests of the rail not yet started are cancelled (R67, R243). -/
def Part.cancelSpecs (m : Part) (r : Nat) : Part :=
  let m := m.each allPhases (fun p m => m.cancelWaiting r p)
  let m := match (m.poolRail r).spec with
    | none => m
    | some e => (m.setPoolRail r { m.poolRail r with spec := none }).cancelSpec r e 0xFFFFFFFF
  match m.pool.request with
  | none => m
  | some q =>
    if m.steerRail q.phase (q.op = 1) = r then
      (({ m with pool := { m.pool with request := none } }).cancelSpec r q.epoch q.phase).requestDone 4
    else m

/-- A drained phase's report: two in a row below I_ZERO after F reached 0 bring it to ZERO (R228). -/
def Part.drainReport (m : Part) (p : Nat) (cur : Int) : Part :=
  let x := m.poolAt p
  if m.phState p = phDraining && m.get F.POOL_PFACT_F p = 0 then
    let low := if cur.natAbs < m.get F.POOL_PCFG_I_ZERO p then x.low + 1 else 0
    let m := m.setPool p { x with low := low }
    if 2 ≤ low then m.enterZero p else m
  else m

/-- The lane-loss rows for a phase in ZERO or STEERING (R247). -/
def Part.moveStops (m : Part) (p : Nat) : Part :=
  if m.phState p = phZero then (m.parkPhase p 5).put F.POOL_STAT_LOSTMV 0 1
  else if m.phState p = phSteering then ((m.put F.POOL_PSTAT_STEERUNK p 1).parkPhase p 5).put F.POOL_STAT_LOSTMV 0 1
  else m

/-- The frames of a lane stop while its phases are held in safe state: moves in ZERO and STEERING end (R247). -/
def Part.movesStop (m : Part) (n : Nat) : Part := m.each (lanePhases n) (fun p m => m.moveStops p)

/-- Phases of a lane whose frames have stopped (R247). -/
def Part.framesStop (m : Part) (n : Nat) : Part :=
  m.each (lanePhases n) (fun p m =>
    let st := m.phState p
    if st = phDraining then
      let m := m.setPool p { m.poolAt p with ramp := 32768 }
      (m.backToActive p 5).put F.POOL_STAT_LOSTMV 0 1
    else if (st = phActive || st = phParked) && (m.poolAt p).move.isSome then (m.endMove p 5).put F.POOL_STAT_LOSTMV 0 1
    else if st = phJoining then
      let m := m.setPool p { m.poolAt p with ramp := 32768 }
      m.backToActive p 0
    else m.moveStops p)

end Sys2Proof.Machine
end

