-- ==== Sys2Proof/Machine/Loops.lean ====
section
/-! DEFINITION. A running L-profile invocation: operands, private copy, second-order sections, gate width and the ROM
control laws (R83 to R99, R142 to R153, R208). -/
namespace Sys2Proof.Machine

/-- Byte address of an LSM word. -/
def lsmAddr (w : Nat) : Nat := 0x120C0000 + 4 * w

/-- A load by the invocation: its own stored value, or the word committed in LSM now (R151). -/
def Run.load (x : Run) (mem : Mem) (w : Nat) : Word :=
  match Store.get none x.writes w with
  | some v => v
  | none => Mem.word mem (lsmAddr w)

/-- The word lies where the invocation may store: p0's 64-word area of a voltage or current task, word 0x3000 and
above for an optional task (R153). -/
def Run.mayStore (x : Run) (w : Nat) : Bool :=
  match x.task with
  | .opt _ => decide (0x3000 ≤ w) && decide (w ≤ 65535)
  | _ => decide (x.base ≤ w) && decide (w < x.base + 64)

/-- A store into the private copy; a 65th distinct word, or a word outside the store area, is illegal (R151, R153). -/
def Run.store (x : Run) (w : Nat) (v : Word) : Option Run :=
  if !x.mayStore w then none
  else if (Store.get none x.writes w).isNone && decide (64 ≤ x.writes.length) then none
  else some { x with writes := x.writes.set none w (some v) }

def Run.reg (x : Run) (k : Nat) : Word := x.d.get 0 k
def Run.setReg (x : Run) (k : Nat) (v : Word) : Run := { x with d := x.d.set 0 k v }
def Run.accu (x : Run) (k : Nat) : Int := x.acc.get 0 k
def Run.setAccu (x : Run) (k : Nat) (v : Int) : Run := { x with acc := x.acc.set 0 k v }
def Run.ptr (x : Run) (k : Nat) : Nat := x.p.get 0 k
def Run.setPtr (x : Run) (k v : Nat) : Run := { x with p := x.p.set 0 k (v % 65536) }

/-- The task is an optional task. -/
def Run.isOpt (x : Run) : Bool :=
  match x.task with
  | .opt _ => true
  | _ => false

def Run.isVolt (x : Run) : Bool :=
  match x.task with
  | .volt _ => true
  | _ => false

/-- A source field: a data register or a sampled port; a port is illegal in an optional task (R143). -/
def Run.src (x : Run) (s : Nat) : Option Word :=
  if s < 16 then some (x.reg s) else if x.isOpt then none else some (x.ports.get 0 (s - 16))

/-- The accumulator's saturation to ±(2^71 - 1) (R97, R145). -/
def satAcc (v : Int) : Int := clampInt (-(2 ^ 71 - 1)) (2 ^ 71 - 1) v

/-- 72-bit saturation of one term (R97). -/
def sat72 (v : Int) : Int := clampInt (-(2 ^ 71)) (2 ^ 71 - 1) v

/-- Coefficient k (b0, b1, b2, a1, a2) of section s in fixed format: value and shift (R95). -/
def Run.fixCoef (x : Run) (mem : Mem) (pc s k : Nat) : Int × Nat :=
  let w := pc + 4 + 8 * s
  ((x.load mem (w + k)).toInt, (x.load mem (w + 5)).toNat / 2 ^ (5 * k) % 32)

/-- The same in block floating-point format: mantissa and exponent (R96). -/
def Run.bfpCoef (x : Run) (mem : Mem) (pc s k : Nat) : Int × Nat :=
  let w := pc + 4 + 4 * s
  (toSigned 16 ((x.load mem (w + k / 2)).toNat / 2 ^ (16 * (k % 2))), (x.load mem (w + 2)).toNat / 2 ^ 16 % 32)

/-- One term: the signal times the coefficient, with 31 fraction bits (R97). -/
def sosTerm (d : Int) (c : Int × Nat) : Int := sat72 (d * c.1 * 2 ^ (31 - c.2))

/-- One section: its output and its new history words (R94, R97). -/
def Run.section (x : Run) (mem : Mem) (bfp : Bool) (pc ps s : Nat) (v : Int) : Int :=
  let coef := fun k => if bfp then x.bfpCoef mem pc s k else x.fixCoef mem pc s k
  let h := fun k => (x.load mem (ps + 4 * s + k)).toInt
  let a := satAcc (sosTerm v (coef 0))
  let a := satAcc (a + sosTerm (h 0) (coef 1))
  let a := satAcc (a + sosTerm (h 1) (coef 2))
  let a := satAcc (a - sosTerm (h 2) (coef 3))
  let a := satAcc (a - sosTerm (h 3) (coef 4))
  satS 32 (roundHalfEven a (2 ^ 31))

/-- Sections s to s + n - 1 of a cascade, with the shift of each history (R146). -/
def Run.cascade (x : Run) (mem : Mem) (bfp : Bool) (pc ps s : Nat) (v : Int) : Nat → Option (Run × Int)
  | 0 => some (x, v)
  | n + 1 =>
    let y := x.section mem bfp pc ps s v
    let b := ps + 4 * s
    let x1 := x.load mem b
    let y1 := x.load mem (b + 2)
    match (x.store (b + 1) x1).bind (fun x => (x.store b (BitVec.ofInt 32 v)).bind
        (fun x => (x.store (b + 3) y1).bind (fun x => x.store (b + 2) (BitVec.ofInt 32 y)))) with
    | none => none
    | some x' => Run.cascade x' mem bfp pc ps (s + 1) y n

/-- NS of a coefficient block (R98). -/
def Run.sections (x : Run) (mem : Mem) (pc : Nat) : Nat := (x.load mem pc).toNat % 16

/-- SOS and SOSB: the cascade at pc with its state at ps; none where R153 makes it illegal. -/
def Run.sos (x : Run) (mem : Mem) (bfp : Bool) (pc ps : Nat) (v : Int) : Option (Run × Int) :=
  let ns := x.sections mem pc
  let words := if bfp then 4 * ns else 8 * ns
  if pc % 4 ≠ 0 || ps % 4 ≠ 0 || ns = 0 || 8 < ns || 65536 < pc + 4 + words || decide (x.fmt = 1) ≠ bfp then none
  else x.cascade mem bfp pc ps 0 v ns

/-- GW: the width codes for a predicted current and a temperature, and the bands selected. The previous bands are those of the
task's last committed GW (R149, R208). -/
def Part.gateWidth (m : Part) (mem : Mem) (x : Run) (i t : Int) : Word × (Nat × Nat × Nat) :=
  let prof := m.get F.RAIL_OPT_PROFILE x.rail
  let prev := match x.task with
    | .volt r => ((m.bslRail r).bprev, (m.bslRail r).tprev)
    | .curr p => ((m.bslPhase p).bprev, (m.bslPhase p).tprev)
    | .opt _ => (0, 0)
  let b := loadBand mem prof prev.1 i.natAbs
  let tb := tempBand mem prof prev.2 t
  let idx := 128 * prof + 8 * b + tb
  (optWidths mem idx, (b, tb, idx))

/-- Port k as a signed number. -/
def Run.port (x : Run) (k : Nat) : Int := (x.ports.get 0 k).toInt

/-- The standard voltage law (VSTD, VSTDB, VFB): error, cascade, clamp to the limits in force as sampled at dispatch (R80,
R89). -/
def romVoltage (mem : Mem) (x : Run) (maxNs : Nat) : Option Run :=
  if maxNs < x.sections mem x.coef then none
  else
    match x.sos mem (x.fmt = 1) x.coef x.base (satS 32 (x.port 0 - x.port 2)) with
    | none => none
    | some (x, i) =>
      let i := clampInt (-(x.sink : Int)) (x.port 15) i
      some { x with iref := some i, vset := some (x.port 0), ferr := some (x.port 0, x.port 2) }

/-- FFV's quotient (R91, R145). -/
def ffv (a : Nat) (b : Int) : Nat := if b ≤ 0 then 0 else min 0xFFFF (a * 65536 / b.toNat)

/-- The standard current law (ISTD, ISTDB, IFB): slope feed-forward (R90), share, cascade, input-voltage feed-forward
(R91), clamp with anti-windup (R92), following error and gate width. -/
def Part.romCurrent (m : Part) (mem : Mem) (x : Run) (maxNs : Nat) : Option Run :=
  let ns := x.sections mem x.coef
  if maxNs < ns then none
  else
    let iff : Int := if x.sff then x.port 13 * x.port 1 / 16 else 0
    let itgt := (x.port 4 + iff) * x.port 6 / 32768
    match x.sos mem (x.fmt = 1) x.coef x.base (satS 32 (itgt - x.port 5)) with
    | none => none
    | some (x, u) =>
      let dff : Int := if x.vff then ffv (x.port 0).toNat (x.port 3) else 0
      let lim := (x.ports.get 0 15).toNat
      let d := clampInt (lim % 65536 : Nat) (lim / 65536 : Nat) (u + dff)
      match x.store (x.base + 4 * (ns - 1) + 2) (BitVec.ofInt 32 (d - dff)) with
      | none => none
      | some x =>
        let g := m.gateWidth mem x itgt (x.port 7)
        some { x with duty := some d, width := some g.1, gw := some g.2, ferr := some (itgt, x.port 5) }

/-- A ROM program of slots 0 to 6 (R117). OSCAN (slot 6) has no output port; its commit refreshes the hints. A coefficient block
whose NS lies above the table's range, for which the spec states no outcome, ends the invocation as a program failure (DESIGN
CHOICE, log entry 108). -/
def Part.romProgram (m : Part) (mem : Mem) (x : Run) : Option Run :=
  match x.slot with
  | 0 => romVoltage mem x 4
  | 1 => romVoltage mem x 4
  | 2 => romVoltage mem x 2
  | 3 => m.romCurrent mem x 2
  | 4 => m.romCurrent mem x 2
  | 5 => m.romCurrent mem x 1
  | _ => some x

/-- Write the private copy into LSM, in one step (R80). -/
def Run.commitTo (x : Run) (mem : Mem) : Mem :=
  x.writes.foldl (fun mem q => match q.2 with
    | some v => Mem.write mem (lsmAddr q.1) v.toNat 4
    | none => mem) mem

end Sys2Proof.Machine
end

