-- ==== Sys2Proof/Machine/Basalt.lean ====
section
/-! DEFINITION. Invocations: trigger, dispatch, commit, miss, program failure, following error, lanes and admission
(R78 to R83, R103 to R116). -/
namespace Sys2Proof.Machine

/-- The rail a task serves. -/
def Part.taskRail (m : Part) : Task → Nat
  | .volt r => r
  | .curr p => m.phRail p
  | .opt _ => 63

def Part.taskGen (m : Part) : Task → Nat
  | .volt r => (m.bslRail r).gen
  | .curr p => (m.bslPhase p).gen
  | .opt j => m.bsl.optGens.get 0 j

def taskSource : Task → Nat
  | .volt r => srcRail r
  | .curr p => srcPhase p
  | .opt _ => 0

/-! ## Misses and failures (R107 to R110) -/

/-- One more consecutive miss of a task; the eighth raises MISS (R109). Misses of a re-admission do not count (R38). -/
def Part.countMiss (m : Part) (t : Task) : Part :=
  if m.bsl.readmit then m
  else
    let r := m.taskRail t
    let up := fun (n : Nat) (m : Part) =>
      if n = 7 then m.raise 0x9C00 r (m.get F.RAIL_LCFG_MISS_SEV r) (taskSource t) else m
    match t with
    | .volt q =>
      let n := m.get F.RAIL_LSTAT_VMISS q
      up n (m.put F.RAIL_LSTAT_VMISS q (min 8 (n + 1)))
    | .curr p =>
      let n := m.get F.BSL_PTASK_MISS p
      up n (m.put F.BSL_PTASK_MISS p (min 8 (n + 1)))
    | .opt _ => m

/-- A missed invocation (R108): counted and recorded with its reason. -/
def Part.miss (m : Part) (t : Task) (reason lane extra : Nat) : Part :=
  let m := (m.bump F.BSL_MISS_COUNT 0).put F.BSL_STAT_MISS 0 1
  let m := m.event (codeOf 7 2) (taskSource t) (1 + reason * 256 + lane * 4096 + extra * 65536)
    (m.get F.BSL_MISS_COUNT 0) (m.taskGen t % 16)
  m.countMiss t

/-- A program failure of the invocation a lane runs (R110): nothing commits, the invocation counts as missed, the rail
moves to FALLBACK or raises PGMFB. An optional task has no rail and no consecutive count: its failure is recorded with the device
as SOURCE (log entry 17). -/
def Part.programFailure (m : Part) (l : Nat) (extra : Nat := 0) : Part :=
  match (m.lane l).run with
  | none => m
  | some x =>
    let m := m.setLane l { m.lane l with run := none }
    let m := m.put F.BSL_STAT_PGMFAIL 0 1
    match x.task with
    | .opt j => m.miss (.opt j) 1 l extra
    | t =>
      let r := m.taskRail t
      let m := m.miss t 1 l extra
      if m.railState r = railFallback then m.raise 0x9C01 r (m.get F.RAIL_LCFG_MISS_SEV r) (taskSource t)
      else if m.regulating r && !m.outranked r then m.enterFallback r
      else m

/-! ## Triggers (R78, R79) -/

/-- An invocation of the task waits or runs. -/
def Part.outstanding (m : Part) (t : Task) : Bool := m.bsl.ready.any (fun x => x.task = t) || m.taskRunning t

/-- The lane that runs the task. -/
def Part.laneRunning (m : Part) (t : Task) : Nat :=
  (allLanes.find? (fun l => match (m.lane l).run with
    | some x => x.task = t
    | none => false)).getD ((m.placeOf t).getD 0)

/-- Invocations of the task that wait or run. After a change of lead phase one of each can share a deadline (R79). -/
def Part.outstandingCount (m : Part) (t : Task) : Nat :=
  (m.bsl.ready.filter (fun x => x.task = t)).length + (if m.taskRunning t then 1 else 0)

/-- The invocations not committed by their deadline are abandoned, and each counts as missed (R107). While Basalt is halted nothing
counts as missed, and an invocation in progress completes (R477). -/
def Part.abandon (m : Part) (t : Task) : Part :=
  if m.outstanding t && !m.tb.dbgHalt then
    let l := m.laneRunning t
    (m.dropTask t).each (List.range (m.outstandingCount t)) (fun _ m => m.miss t 0 l 0)
  else m

/-- A trigger of a task. After a change of lead phase a waiting invocation is replaced and a running one goes on, both
without a miss (R79); otherwise an outstanding invocation has met its deadline (R107). A task with no lane in
service misses at once (R113). A trigger that passes while Basalt is halted makes no invocation (R477). -/
def Part.trigger (m : Part) (t : Task) (deadline : Nat) (leadChange : Bool) : Part :=
  if m.tb.dbgHalt then m
  else
  let m :=
    if leadChange then
      let m := { m with bsl := { m.bsl with ready := m.bsl.ready.filter (fun x => x.task ≠ t) } }
      m.each allLanes (fun l m => match (m.lane l).run with
        | some x => if x.task = t then m.setLane l { m.lane l with run := some { x with deadline := deadline } } else m
        | none => m)
    else m.abandon t
  match m.placeOf t with
  | none => m.miss t 3 0 0
  | some l =>
    { m with bsl := { m.bsl with ready := m.bsl.ready ++ [{ task := t, gen := m.taskGen t, deadline := deadline, lane := l }] } }

/-- Triggers at a ZERO of a phase: its current task, and every Nth ZERO of the lead phase the voltage task (R78, R79). -/
def Part.triggersAtZero (m : Part) (p : Nat) : Part :=
  let r := m.phRail p
  let len := m.get F.PWM_ACT_VALUE p
  let m := if m.switches p && m.get F.FLK_LSTAT_STATE (laneOf p) != 5 then
      m.trigger (currTask p) (m.tb.ticks + len - 4) false
    else m
  if r < 63 && m.leadPhase r = some p && m.regulating r then
    let x := m.syncAt r
    let n := m.voltN r
    if x.lead != some p then
      (m.setSync r { x with lead := some p, div := 0 }).trigger (voltTask r) (m.tb.ticks + n * len) true
    else if x.div + 1 ≥ n then
      (m.setSync r { x with div := 0 }).trigger (voltTask r) (m.tb.ticks + n * len) false
    else m.setSync r { x with div := x.div + 1 }
  else m

/-! ## Dispatch (R80 to R84, R142) -/

/-- `a` is dispatched before `b`: earliest deadline, then voltage before current tasks, then lower numbers (R81). -/
def readyBefore (a b : Ready) : Bool :=
  decide (a.deadline < b.deadline) || (decide (a.deadline = b.deadline) && decide (taskOrder a.task ≤ taskOrder b.task))

/-- The ready invocation a lane dispatches next. -/
def pickReady : List Ready → Option Ready
  | [] => none
  | x :: t => match pickReady t with
    | none => some x
    | some y => if readyBefore x y then some x else some y

/-- Share weights of a rail at a voltage-task dispatch (R231). -/
def Part.shares (m : Part) (r : Nat) : Part :=
  let on := allPhases.filter (fun p => m.phRail p = r && m.switches p)
  let sum := (on.map (fun p => m.get F.POOL_PFACT_F p)).foldl (· + ·) 0
  m.each on (fun p m => m.put F.POOL_PSTAT_WSHARE p (if sum = 0 then 0 else 32768 * m.get F.POOL_PFACT_F p / sum))

/-- Highest stage temperature of a rail (port 7): over its phases that switch, and 0 without one. The spec does not say which stages
count (DESIGN CHOICE, log entry 110). -/
def Part.railTemp (m : Part) (r : Nat) : Int :=
  match (allPhases.filter (fun p => m.phRail p = r && m.switches p)).map (fun p => (m.poolAt p).temp) with
  | [] => 0
  | t :: ts => ts.foldl max t

/-- Sum of the phases' currents, saturated to 24 bits (port 5 of a voltage task). A phase with no report of its present epoch
contributes 0. -/
def Part.railImeas (m : Part) (r : Nat) : Int :=
  satS 24 (((allPhases.filter (fun p => m.phRail p = r && m.phState p = phActive && (m.poolAt p).inLoop)).map
    (fun p => (m.poolAt p).imeas)).foldl (· + ·) 0)

/-- Ports that both task kinds share (R83). SRC_F of an input without a valid value, which the spec leaves open, is the rail's last
clamped target, or SETP before the first (DESIGN CHOICE, log entry 110). -/
def Part.commonPorts (m : Part) (mem : Mem) (r : Nat) : Store Word :=
  let put := fun (s : Store Word) (k : Nat) (v : Int) => s.set 0 k (BitVec.ofInt 32 v)
  let s : Store Word := []
  let s := put s 1 (m.slope r)
  let s := put s 2 (m.vrail r)
  let s := put s 3 m.vbus
  let s := put s 4 (m.irefNow mem r)
  let s := put s 8 (m.trajectory r)
  let s := put s 9 (m.get F.RAIL_VSET_VALUE r)
  let s := put s 10 ((m.followTarget r).getD ((m.bslRail r).target.getD (m.bslRail r).setp))
  let s := put s 11 (m.get F.RAIL_FLOOR_VALUE r)
  let s := put s 12 (m.get F.RAIL_CEIL_VALUE r)
  put s 13 (m.get F.RAIL_CRAIL_C r)

/-- The invocation a dispatch makes, before its ports are sampled (R142). -/
def Part.freshRun (m : Part) (t : Task) (deadline slot base coef r : Nat) : Run :=
  let x : Run := { task := t, gen := m.taskGen t, deadline := deadline, slot := slot, fmt := m.get F.BSL_PCOST_FMT slot,
                   cost := m.slotCost slot, base := base, coef := coef, rail := r, sff := m.is F.RAIL_CRAIL_SFF_EN r,
                   vff := m.is F.RAIL_CRAIL_VFF_EN r }
  (x.setPtr 0 base).setPtr 1 coef

/-- Dispatch of a voltage task: shares, target, SETP, ports (R84, R86, R87, R231). -/
def Part.dispatchVolt (m : Part) (mem : Mem) (r deadline : Nat) : Part × Run :=
  let m := m.shares r
  let y := m.bslRail r
  let target := m.target r
  let setp := m.slewTo r y.setp target (m.tb.ticks - y.last)
  let status := if y.first then 1 else 0
  let y' := { y with setp := setp, last := m.tb.ticks, target := some target, first := false,
                     bprev := if y.first then 0 else y.bprev, tprev := if y.first then 0 else y.tprev,
                     ilim := m.get F.RAIL_ILIM_I r, isink := m.get F.RAIL_ISINK_I r, derate := m.get F.RAIL_DERATE_F r }
  let m := m.setBslRail r y'
  let x := m.freshRun (voltTask r) deadline (m.voltSlot r) (0x2000 + 0x40 * r) (4 * m.get F.RAIL_LCOEF_VCOEF r) r
  let ports := m.commonPorts mem r
  let ports := ports.set 0 0 (BitVec.ofNat 32 setp)
  let ports := ports.set 0 5 (BitVec.ofInt 32 (m.railImeas r))
  let ports := ports.set 0 7 (BitVec.ofInt 32 (m.railTemp r))
  let ports := ports.set 0 14 (BitVec.ofNat 32 status)
  let ports := ports.set 0 15 (BitVec.ofNat 32 (m.limitInForce mem r))
  (m, { x with ports := ports, setp := setp, sink := m.sinkInForce mem r, feLim := m.get F.RAIL_FEV_LIMIT r })

/-- Dispatch of a current task (R83, R93). -/
def Part.dispatchCurr (m : Part) (mem : Mem) (p deadline : Nat) : Part × Run :=
  let r := m.phRail p
  let y := m.bslPhase p
  let q := m.poolAt p
  let status := (if y.first then 1 else 0) + (if q.fresh then 2 else 0)
  let m := m.setBslPhase p { y with first := false, bprev := if y.first then 0 else y.bprev,
                                    tprev := if y.first then 0 else y.tprev }
  let m := m.setPool p { q with fresh := false }
  let x := m.freshRun (currTask p) deadline (m.currSlot p r) (0x40 * p) (4 * m.get F.RAIL_LCOEF_ICOEF r) r
  let ports := m.commonPorts mem r
  let ports := ports.set 0 0 (BitVec.ofNat 32 (m.bslRail r).vset)
  let ports := ports.set 0 5 (BitVec.ofInt 32 q.imeas)
  let ports := ports.set 0 6 (BitVec.ofNat 32 (m.get F.POOL_PSTAT_WSHARE p))
  let ports := ports.set 0 7 (BitVec.ofInt 32 q.temp)
  let ports := ports.set 0 14 (BitVec.ofNat 32 status)
  let ports := ports.set 0 15 (BitVec.ofNat 32 (m.get F.RAIL_DLIM_DMAX r * 65536 + m.get F.RAIL_DLIM_DMIN r))
  (m, { x with ports := ports, fresh := q.fresh, feLim := m.get F.RAIL_FEI_LIMIT r })

/-- Optional task `j` may start an invocation: requested, not deferred, and none of its own under way. -/
def Part.optReady (m : Part) (j : Nat) : Bool :=
  m.is F.BSL_OTASK_PEND j && !m.optDeferred j && !m.taskRunning (.opt (Fin.ofNat 16 j)) &&
  allLanes.all (fun k => match (m.lane k).held with
    | some y => y.task ≠ .opt (Fin.ofNat 16 j)
    | none => true)

/-- The ready optional task of the highest priority, the lower number on a tie (R267). -/
def Part.optPick (m : Part) : Option Nat :=
  ((List.range 16).filter m.optReady).foldl (fun acc j => match acc with
    | none => some j
    | some i => if m.optPriority i < m.optPriority j then some j else some i) none

/-- The next optional invocation for an idle lane: its suspended one, unless that is deferred, or the next ready task
(R82, R255, R267). -/
def Part.dispatchOpt (m : Part) (l : Nat) : Part :=
  let x := m.lane l
  match x.held with
  | some y =>
    let j := taskOrder y.task - 256
    if m.optDeferred j then m else m.setLane l { x with run := some y, held := none }
  | none =>
    match m.optPick with
    | none => m
    | some j =>
      let slot := m.get F.BSL_OTASK_PROG j
      let m := m.put F.BSL_OTASK_PEND j 0
      m.setLane l { m.lane l with run := some (m.freshRun (.opt (Fin.ofNat 16 j)) 0 slot 0 0 63), ops := (m.lane l).ops + 1 }

/-- A lane dispatches from the tasks placed on it (R81, R82): only in service, with BSL_CTRL.EN and no debug halt, and not while it runs an
admitted invocation. A running optional invocation is suspended for an admitted one. -/
def Part.dispatch (m : Part) (mem : Mem) (l : Nat) : Part :=
  if !m.is F.BSL_CTRL_EN 0 || m.tb.dbgHalt || !m.bit F.BSL_LANEST_INSV 0 l then m
  else
    let x := m.lane l
    let admitted := match x.run with
      | some y => !y.isOpt
      | none => false
    if admitted then m
    else
      match pickReady (m.bsl.ready.filter (fun q => m.placeOf q.task = some l && !m.taskRunning q.task)) with
      | none => if x.run.isSome then m else m.dispatchOpt l
      | some q =>
        let m := { m with bsl := { m.bsl with ready := m.bsl.ready.filter (fun y => y.task ≠ q.task) } }
        let m := m.setLane l { x with run := none, held := if x.run.isSome then x.run else x.held }
        let d := match q.task with
          | .volt r => m.dispatchVolt mem r q.deadline
          | .curr p => m.dispatchCurr mem p q.deadline
          | .opt _ => (m, m.freshRun q.task 0 7 0 0 63)
        let m := d.1
        m.setLane l { m.lane l with run := some { d.2 with gen := q.gen }, ops := (m.lane l).ops + 1 }

/-! ## Following error (R115, R116, R148) -/

/-- Invocations FE_TIME lasts: ceil(FE_TIME × f_task), at least 1. -/
def Part.feLimit (m : Part) (us period n : Nat) : Nat := max 1 (ceilDivN (us * m.kHz) (1000 * max (period * n) 1))

/-- Supervision of a rail's voltage or current task (R115): the new count and whether the fault stands raised. Counts hold
while Basalt is halted (R477). -/
def feCount (big : Bool) (n : Nat) : Nat := if big then n + 1 else 0

def Part.supervised (m : Part) (r : Nat) : Bool :=
  (m.railState r = railTrack || m.railState r = railHold || m.railState r = railFollow || m.railState r = railFallback) && !m.tb.dbgHalt

/-- A voltage task's comparison with the limit its dispatch took (R115, R116). -/
def Part.feVolt (m : Part) (r limit : Nat) (a b : Int) : Part :=
  if !m.supervised r then m
  else
    let x := m.bslRail r
    let big := decide (limit < (a - b).natAbs)
    let n := feCount big x.ferr
    let per := match m.leadPhase r with
      | some p => m.get F.PWM_ACT_VALUE p
      | none => 1
    let lim := m.feLimit (m.get F.RAIL_FET_V_TIME r) per (m.voltN r)
    if !big then m.setBslRail r { x with ferr := 0, ferrRaised := false }
    else if lim ≤ n && !x.ferrRaised then
      let m := m.setBslRail r { x with ferr := n, ferrRaised := true }
      (m.put F.RAIL_LSTAT_FEV r 1).raise 0x9C04 r (m.get F.RAIL_FEV_SEV r) (srcRail r)
    else m.setBslRail r { x with ferr := n }

/-- A current task's comparison with the limit its dispatch took (R115, R116). -/
def Part.feCurr (m : Part) (p limit : Nat) (a b : Int) : Part :=
  let r := m.phRail p
  if !m.supervised r then m
  else
    let x := m.bslPhase p
    let big := decide (limit < (a - b).natAbs)
    let n := feCount big x.ferr
    let lim := m.feLimit (m.get F.RAIL_FET_I_TIME r) (m.get F.PWM_ACT_VALUE p) 1
    if !big then m.setBslPhase p { x with ferr := 0, ferrRaised := false }
    else if lim ≤ n && !x.ferrRaised then
      let m := m.setBslPhase p { x with ferr := n, ferrRaised := true }
      (m.put F.RAIL_LSTAT_FEI r 1).raise 0x9C05 r (m.get F.RAIL_FEI_SEV r) (srcPhase p)
    else m.setBslPhase p { x with ferr := n }

/-! ## Commit (R80, R113, R150) -/

/-- A DUTY lands in the shadow (R163, R165, R166). -/
def Part.landDuty (m : Part) (p v : Nat) : Part :=
  let x := m.pwmAt p
  let m := m.put F.PWM_DUTY_VALUE p v
  let m := m.setPwm p { x with dutySince := true, dutyAt := some m.tb.ticks }
  if x.locked then m.put F.PWM_STAT_LATE p 1 else m

/-- Outputs of a voltage task: IREF and VSET, following error, the pool's evaluation (R88, R89, R150, R240). -/
def Part.commitVolt (m : Part) (mem : Mem) (r : Nat) (x : Run) (pd : Nat) : Part :=
  let m := match x.iref with
    | some i => m.putIref r (m.clampIref mem r i)
    | none => m
  let vset : Nat := if m.is F.RAIL_SRC_MIX r then (match x.vset with
      | some v => satRV v
      | none => (m.bslRail r).vset) else x.setp
  let m := m.setBslRail r { m.bslRail r with vset := vset }
  let m := match x.gw with
    | some (b, t, _) => m.setBslRail r { m.bslRail r with bprev := b, tprev := t }
    | none => m
  let m := m.put F.RAIL_LSTAT_VMISS r 0
  let e := x.ferr.getD ((vset : Int), x.port 2)
  (m.feVolt r x.feLim e.1 e.2).poolEvaluate mem r pd

/-- Outputs of a current task: DUTY and WIDTH, following error with a fresh report (R91, R115, R150, R164). -/
def Part.commitCurr (m : Part) (p : Nat) (x : Run) : Part :=
  let r := m.phRail p
  let m := match x.duty with
    | some d =>
      if m.is F.PWM_CFG_DSRC p then m
      else
        let d := clampInt (m.get F.RAIL_DLIM_DMIN r) (m.get F.RAIL_DLIM_DMAX r) (clampInt 0 0xFFFF d)
        m.landDuty p d.toNat
    | none => m
  let m := match x.width with
    | some w => m.setBslPhase p { m.bslPhase p with width := w &&& 0x03FF03FF }
    | none => m
  let m := match x.gw with
    | some (b, t, idx) => m.setBslPhase p { m.bslPhase p with bprev := b, tprev := t, sel := some idx }
    | none => m
  let m := m.put F.BSL_PTASK_MISS p 0
  let e := x.ferr.getD (x.port 4 * x.port 6 / 32768, x.port 5)
  if x.fresh then m.feCurr p x.feLim e.1 e.2 else m

/-- OSCAN refreshes the OPT load-band hints. The spec gives a hint no value: each is free (R117, log entry 111). -/
def Part.refreshHints (m : Part) : Part :=
  m.each allRails (fun r m => let w := m.freeWord
                              w.2.setBslRail r { w.2.bslRail r with hint := w.1 })

/-- YIELD: the invocation ends normally and its private copy commits in one step, when its generation is still the
task's (R80, R113). A ROM program that no instruction command has stepped runs its law first (R117), and its lane-ops are its COST
(R82, log entry 112). -/
def State.commit (s : State) (l pd : Nat) : State :=
  match (s.part.lane l).run with
  | none => s
  | some x =>
    let rom := decide (x.slot < 8) && !x.stepped
    match (if rom then s.part.romProgram s.mem x else some x) with
    | none => s.lift (fun m => m.programFailure l)
    | some x =>
      let ops := if rom then x.cost - 1 else 1
      let m := s.part.setLane l { s.part.lane l with run := none, ops := (s.part.lane l).ops + ops }
      if x.gen ≠ m.taskGen x.task then { s with part := m.miss x.task 2 l 0 }
      else
        let mem := x.commitTo s.mem
        let m := match x.task with
          | .volt r => m.commitVolt mem r x pd
          | .curr p => m.commitCurr p x
          | .opt _ => if rom && x.slot = 6 then m.refreshHints else m
        { s with mem := mem, part := m }

/-! ## Lanes (R112, R113) -/

/-- A task gets a new generation. -/
def Part.bumpGen (m : Part) : Task → Part
  | .volt r => m.setBslRail r { m.bslRail r with gen := (m.bslRail r).gen + 1 }
  | .curr p =>
    let g := (m.bslPhase p).gen + 1
    (m.setBslPhase p { m.bslPhase p with gen := g }).put F.BSL_PTASK_GEN p g
  | .opt j => { m with bsl := { m.bsl with optGens := m.bsl.optGens.set 0 j (m.bsl.optGens.get 0 j + 1) } }

/-- Tasks placed on a lane. -/
def Part.tasksOn (m : Part) (l : Nat) : List Task := m.demandTasks.filter (fun t => m.placeOf t = some l)

/-- Tasks whose generation a retiring lane ends: those placed on it, the one it runs, and a suspended optional one (R113, R114). -/
def Part.tasksAt (m : Part) (l : Nat) : List Task :=
  let x := m.lane l
  let on := m.tasksOn l
  let more := (x.run.map (fun y => y.task)).toList ++ (x.held.map (fun y => y.task)).toList
  on ++ more.filter (fun t => !on.contains t)

/-- A suspended optional invocation of a retiring lane never resumes: it counts as missed (R113). -/
def Part.dropHeld (m : Part) (l : Nat) : Part :=
  match (m.lane l).held with
  | none => m
  | some x => (m.setLane l { m.lane l with held := none }).miss x.task 2 l 0

/-- A lane leaves service: the generations of its tasks end, what it ran or was to run is missed, and the tasks are placed
afresh over the lanes that remain; R38 applies where that fails (R112 to R114). -/
def Part.retireLane (m : Part) (l : Nat) (err : Bool) : Part :=
  if !m.bit F.BSL_LANEST_INSV 0 l then (if err then m.putBit F.BSL_LANEST_RET 0 l true else m)
  else
    let m := (m.putBit F.BSL_LANEST_INSV 0 l false).put F.BSL_STAT_LANEERR 0 1
    let m := if err then m.putBit F.BSL_LANEST_RET 0 l true else m
    let m := m.raise 0x9C03 63 (m.policy 6) 0
    let m := (m.tasksAt l).foldl (fun m t => m.bumpGen t) m
    let waiting := m.bsl.ready.filter (fun x => m.placeOf x.task = some l)
    let m := { m with bsl := { m.bsl with ready := m.bsl.ready.filter (fun x => m.placeOf x.task ≠ some l) } }
    let m := (m.tasksOn l).foldl (fun m t => m.place t none) m
    let m := { m with bsl := { m.bsl with readmit := m.bsl.readmit || !m.demandFits } }
    let m := (waiting.foldl (fun m x => m.miss x.task 2 l 0) m).dropHeld l
    let m := m.put F.BSL_DEMAND_LIMIT 0 (3600 * m.lanesIn.length)
    let m := m.placeAfresh
    if m.demandFits then m else m.readmit

/-- A retired lane passes its self-check and enters service empty, or fails it (BSL_LANEEN). -/
def Part.laneChecked (m : Part) (l : Nat) (pass : Bool) : Part :=
  let m := m.setLane l { m.lane l with check := false }
  if pass then
    let m := (m.putBit F.BSL_LANEST_INSV 0 l true).putBit F.BSL_LANEST_RET 0 l false
    let m := m.put F.BSL_DEMAND_LIMIT 0 (3600 * m.lanesIn.length)
    m.continueReadmit
  else m.put F.BSL_ERR_LANE 0 1

end Sys2Proof.Machine
end

