-- ==== Sys2Proof/Machine/Saffron.lean ====
section
/-! DEFINITION. Saffron: the need curve, the hull, knots, squash and recompute, the group timeline (R42 to R75, R364 to R367). -/
namespace Sys2Proof.Machine

/-! ## Samples and need (R42, R46 to R50, R72, R73) -/

/-- Nominal sample rate of a group in Hz (R363). -/
def Part.fs (m : Part) (g : Nat) : Nat :=
  match m.get F.AUD_GFS_FS g with
  | 0 => 44100
  | 1 => 48000
  | 2 => 88200
  | 3 => 96000
  | 4 => 176400
  | _ => 192000

/-- Address of a frame of a channel in the look-ahead buffer (R42). -/
def labAddr (c : Nat) (f : Int) : Nat := 0x11000000 + 0x4000 * c + 4 * (f % 4096).toNat

/-- Sample of channel `c` at frame `f` of its group's timeline, in units of 2^-31 full scale: zero before frame 0 (R73), and
for a channel without a port (R46). After a loss the interpolator of the last frames up to L takes frames after L: the spec does
not say what they are, and the model reads what the LAB holds at their addresses (DESIGN CHOICE, log entry 105). -/
def Part.sample (m : Part) (mem : Mem) (c : Nat) (f : Int) : Int :=
  if f < 0 || !m.is F.AUD_CHSRC_EN c then 0 else (Mem.word mem (labAddr c f)).toInt

/-- The interpolator's coefficients c_m[0..11] of phases 1, 2 and 3, in units of 2^-20 (R50). -/
def interpCoef : List (List Int) :=
  [[-1710, 10858, -31555, 72483, -169220, 939561, 302561, -108430, 48489, -19417, 5131, -175],
   [-1033, 10852, -35309, 83956, -189757, 655578, 655578, -189757, 83956, -35309, 10852, -1033],
   [-175, 5131, -19417, 48489, -108430, 302561, 939561, -169220, 72483, -31555, 10858, -1710]]

/-- One interpolated value between frames t and t + 1 (R50). -/
def Part.interp (m : Part) (mem : Mem) (c : Nat) (t : Int) (coef : List Int) : Int :=
  let sum := ((List.range 12).map (fun j => coef.getD j 0 * m.sample mem c (t - 5 + j))).foldl (· + ·) 0
  clampInt (-(2 ^ 32)) (2 ^ 32) (roundHalfEven sum (2 ^ 20))

/-- a[c](t): the sample's magnitude, or the true peak (R49, R50). -/
def Part.magnitude (m : Part) (mem : Mem) (tp : Bool) (c : Nat) (t : Int) : Nat :=
  let x := (m.sample mem c t).natAbs
  if tp then (interpCoef.map (fun k => (m.interp mem c t k).natAbs)).foldl max x else x

/-- gain_eff of a channel (R49). -/
def Part.gainEff (m : Part) (c : Nat) : Nat := min 0xFFFFF (m.get F.SAF_FSG_FS_GAIN c * m.get F.SAF_LGAIN_LGAIN c / 4096)

/-- The channel counts in the need and the audio at a frame: not muted, and past its safe frame (R48, R67, R68). -/
def Part.audible (m : Part) (c : Nat) (t : Int) : Bool :=
  let x := m.chan c
  !m.is F.SAF_CHMAP_MUTE c && (!x.zeroed || (match x.safeAt with
    | some f => decide (f ≤ t)
    | none => false))

/-- MARGIN_IN_FORCE (R256). -/
def Part.margin (m : Part) (r : Nat) : Nat :=
  let full := m.get F.SAF_MARGIN_VALUE r
  min full (max (m.get F.CLV_RMARG_MARGIN_MIN r) (full - m.get F.CLV_RSTAT_MSTEPS r * m.get F.CLV_RMARG_MSTEP r))

/-- V_DROP and MARGIN_IN_FORCE. -/
def Part.headroom (m : Part) (r : Nat) : Nat := m.get F.SAF_VDROP_VALUE r + m.margin r

/-- The group's buffered audio ends at its last complete frame: from LOST, or a change of master, to the next lock (R72,
R370). -/
def Part.ended (m : Part) (g : Nat) : Bool := (m.group g).lost || (m.group g).handover

/-- The settings of R76 as their registers hold them, and as Saffron uses them for the rail: those of the last plan start, or
without a plan those of the registers (log entry 106). -/
def Part.liveCfg (m : Part) (r : Nat) : PlanCfg :=
  { tp := m.is F.SAF_RCFG_TP r, relEn := m.is F.SAF_RCFG_REL_EN r, vmin := m.get F.SAF_VMIN_VALUE r, vmax := m.get F.SAF_VMAX_VALUE r,
    srUp := m.get F.SAF_SLEW_SR_UP r, srDown := m.get F.SAF_SLEW_SR_DOWN r, holdT := m.get F.SAF_HOLD_HOLD_T r,
    relTau := m.get F.SAF_HOLD_REL_TAU r }
def Part.planCfg (m : Part) (r : Nat) : PlanCfg := (m.plan r).cfg.getD (m.liveCfg r)

/-- TP in use, as a number of frames' factor. -/
def Part.tpIn (m : Part) (r : Nat) : Nat := if (m.planCfg r).tp then 1 else 0

/-- Voltage a channel needs at a frame: ceil(a × gain_eff ÷ 2^31). -/
def Part.chanNeed (m : Part) (mem : Mem) (r c : Nat) (t : Int) : Nat :=
  if m.audible c t then ceilDivN (m.magnitude mem (m.planCfg r).tp c t * m.gainEff c) (2 ^ 31) else 0

/-- The need of a rail at a frame, RV (R49, R72). -/
def Part.need (m : Part) (mem : Mem) (r g : Nat) (t : Int) : Nat :=
  if m.ended g && decide ((m.group g).lastComplete < t) then m.get F.SAF_BLIND_VALUE r
  else
    let top := ((m.railChannels r).map (fun c => m.chanNeed mem r c t)).foldl max 0
    min 0xFFFFF (top + m.headroom r)

/-! ## The hull (R51, R52) -/

/-- SRU and SRD, in 1/256 RV per frame. -/
def Part.sru (m : Part) (r g : Nat) : Nat := (m.planCfg r).srUp * 256000000 / m.fs g
def Part.srd (m : Part) (r g : Nat) : Nat := (m.planCfg r).srDown * 256000000 / m.fs g

/-- HOLD in frames. -/
def Part.holdFrames (m : Part) (r g : Nat) : Nat := ceilDivN ((m.planCfg r).holdT * m.fs g) 1000000

/-- Terms of the series of 1 − exp(−x) for x = 15,625 ÷ d, from term i on, in units of 2^-96: `t` is the last term. -/
def expTerms (d : Nat) (i t : Nat) : Nat → Int
  | 0 => 0
  | n + 1 =>
    let t' := t * 15625 / (d * i)
    (if i % 2 = 1 then (t' : Int) else -(t' : Int)) + expTerms d (i + 1) t' n

/-- K_REL in units of 2^-16: 1 − exp(−10^6 ÷ (fs × 64 × REL_TAU)) rounded half to even, at least 1 (R51). -/
def Part.kRel (m : Part) (r g : Nat) : Nat :=
  let tau := (m.planCfg r).relTau
  if !(m.planCfg r).relEn || tau = 0 then 65536
  else (max 1 (roundHalfEven (expTerms (m.fs g * tau) 1 (2 ^ 96) 16) (2 ^ 80))).toNat

/-- W_RISE and W_EFF in frames (R51). -/
def Part.wRise (m : Part) (r g : Nat) : Nat :=
  ceilDivN (256 * ((m.planCfg r).vmax - (m.planCfg r).vmin)) (max 1 (m.sru r g))
def Part.wEff (m : Part) (r g : Nat) : Nat :=
  min (m.wRise r g) (m.get F.SAF_GCFG_DEPTH g - 16 - 6 * m.tpIn r)

/-- Reverse pass: the slope-limited maximum over the horizon, in 1/256 RV (R52). -/
def Part.hullUp (m : Part) (mem : Mem) (r g : Nat) (t : Int) : Int :=
  ((List.range (m.wEff r g)).map (fun (d : Nat) =>
    256 * (m.need mem r g (t + 1 + d) : Int) - (m.sru r g * (d + 1) : Nat))).foldl max (256 * (m.need mem r g t : Int))

/-- Forward pass for one frame: from h(t−1) and hold_cnt to h(t) and hold_cnt (R52). -/
def Part.hullStep (m : Part) (mem : Mem) (r g : Nat) (t : Int) (h : Int) (hold : Nat) : Int × Nat :=
  let up := m.hullUp mem r g t
  let hold := if h ≤ up then m.holdFrames r g else hold
  let (desc, hold) :=
    if h ≤ up then (up, hold)
    else if 0 < hold then (h, hold - 1)
    else (h - min (m.srd r g : Int) ((h - up) * m.kRel r g / 65536), hold)
  let v := max desc (min up (h + m.sru r g))
  (min (max v (256 * ((m.planCfg r).vmin : Int))) (256 * ((m.planCfg r).vmax : Int)), hold)

/-! ## Ceiling and shortfall runs (R53, R61, R62) -/

/-- A clip-guard request: channel `c` is capped at frame `t`, with the cap in 1/256 RV (R62). -/
def Part.requestCap (m : Part) (mem : Mem) (r : Nat) (cap : Int) (t : Int) (c : Nat) : Part :=
  let full := m.magnitude mem (m.planCfg r).tp c t * m.gainEff c
  let room := (cap - 256 * (m.headroom r : Int)).toNat * 2 ^ 31
  if m.audible c t && decide (room < 256 * full) then
    m.setChan c { m.chan c with caps := (m.chan c).caps ++ [(t, 32768 * room / (256 * full))] }
  else m

/-- Clip guard over a frame of a run that began with CG set, with the cap in 1/256 RV (R62). -/
def Part.clipGuard (m : Part) (mem : Mem) (r : Nat) (run : Option FrameRun) (cap : Int) (t : Int) : Part :=
  if run.elim false (fun x => x.guard) then m.each (m.railChannels r) (fun c m => m.requestCap mem r cap t c) else m

/-- A ceiling run begins: its event is counted and raised (R61). -/
def Part.ceilingEvent (m : Part) (r : Nat) : Part :=
  ((m.bump F.SAF_RCNT1_CEIL r).put F.SAF_STAT_CEIL 0 1).alert 2 (some r)

/-- A shortfall run begins: it is counted (R53). -/
def Part.shortfallEvent (m : Part) (r : Nat) : Part := (m.bump F.SAF_RCNT1_SHORT r).put F.SAF_STAT_SHORT 0 1

/-- The record of a run that has ended, with condition 1 for a ceiling run and 2 for a shortfall run (R53, R61, R502). -/
def Part.runRecord (m : Part) (r cond : Nat) (x : Option FrameRun) : Part :=
  match x with
  | some x => m.event 0x2002 (srcRail r) (cond + 65536 * min 0xFFFF x.len) (BitVec.ofInt 32 x.first).toNat x.peak
  | none => m

/-- A run goes on with one more frame, or begins with CG as it stands. -/
def runOn (x : Option FrameRun) (t : Int) (peak : Nat) (cg : Bool) : Option FrameRun :=
  match x with
  | some x => some { x with len := x.len + 1, peak := max x.peak peak }
  | none => some { first := t, len := 1, peak := peak, guard := cg }

/-- The runs at a frame whose hull is h, in 1/256 RV: they begin with their count, go on, or end with their record. -/
def Part.frameRuns (m : Part) (mem : Mem) (r g : Nat) (t h : Int) : Part :=
  let vmax := (m.planCfg r).vmax
  let need := m.need mem r g t
  let pl := m.plan r
  let cg := m.is F.SAF_RCFG_CG r
  let ceil := decide (vmax < need)
  let short := decide (h < 256 * (min need vmax : Nat))
  let lack := (ceilDiv (256 * (min need vmax : Nat) - h) 256).toNat
  let m := m.setPlan r { pl with
    ceilRun := if ceil then runOn pl.ceilRun t need cg else none,
    shortRun := if short then runOn pl.shortRun t lack cg else none,
    marks := if ceil || short then (pl.marks ++ [(t, ceil, short)]).filter (fun x => decide (t - 32 ≤ x.1)) else pl.marks }
  let m := if ceil then (if pl.ceilRun.isNone then m.ceilingEvent r else m) else m.runRecord r 1 pl.ceilRun
  let m := if short then (if pl.shortRun.isNone then m.shortfallEvent r else m) else m.runRecord r 2 pl.shortRun
  let m := m.clipGuard mem r (m.plan r).ceilRun (256 * (vmax : Int)) t
  m.clipGuard mem r (m.plan r).shortRun h t

/-- Compute the hull of the next `n` frames. -/
def Part.hullAhead (m : Part) (mem : Mem) (r g : Nat) : Nat → Part
  | 0 => m
  | n + 1 =>
    let pl := m.plan r
    let t := pl.hullT + 1
    let x := m.hullStep mem r g t (pl.hull.headD (256 * ((m.planCfg r).vmin : Int))) pl.hold
    let keep := (t - m.outFrame g).toNat + 16
    let m := m.setPlan r { pl with hullT := t, hull := x.1 :: pl.hull.take keep, hold := x.2 }
    (m.frameRuns mem r g t x.1).hullAhead mem r g n

/-- The hull of a frame, in 1/256 RV, where it is kept. -/
def Plan.hullAt (pl : Plan) (t : Int) : Option Int :=
  if t ≤ pl.hullT then pl.hull[(pl.hullT - t).toNat]? else none

/-- The hull of a later frame, computed without keeping it: the result does not depend on when it is computed (R52). -/
def Part.hullBeyond (m : Part) (mem : Mem) (r g : Nat) (t h : Int) (hold : Nat) : Nat → Int
  | 0 => h
  | n + 1 => let x := m.hullStep mem r g (t + 1) h hold
             m.hullBeyond mem r g (t + 1) x.1 x.2 n

/-- The hull of any frame, in 1/256 RV. -/
def Part.hull (m : Part) (mem : Mem) (r g : Nat) (t : Int) : Int :=
  let pl := m.plan r
  let vmin : Int := 256 * ((m.planCfg r).vmin : Int)
  match pl.hullAt t with
  | some h => h
  | none => if t ≤ pl.hullT then vmin
            else m.hullBeyond mem r g pl.hullT (pl.hull.headD vmin) pl.hold (t - pl.hullT).toNat

/-! ## Knots (R55, R56, R59) -/

/-- The rail tracks: its set-point is formed from the plan (R84). -/
def Part.tracks (m : Part) (r : Nat) : Bool := m.regulating r && decide (m.get F.RAIL_SRC_SRC r = 0)

/-- Saffron may write the rail's next knot (R56): planning runs, the input has arrived and the FIFO has room. -/
def Part.knotReady (m : Part) (r : Nat) : Bool :=
  match m.railGroup r with
  | none => false
  | some g =>
    m.is F.SAF_CTRL_EN 0 && m.tracks r && !m.blind r && !m.is F.SAF_RSTAT_RECOMP r && decide ((m.plan r).fifo.length < 64) &&
      decide (8 * (m.plan r).nextK + 8 + m.wEff r g + 6 * m.tpIn r ≤ (m.group g).inFrame)

/-- The knot k, from the hull of its window. Frames before the first the plan computed do not enter (log entry 25). -/
def Plan.knot (pl : Plan) (k : Int) (epoch fs : Nat) : Knot :=
  let win := (List.range 17).filterMap (fun i => pl.hullAt (8 * k - 8 + i))
  let top := match win with
    | [] => 0
    | h :: t => t.foldl max h
  let d := (pl.hullAt (8 * k + 8)).getD 0 - (pl.hullAt (8 * k)).getD 0
  let inWin := fun (t : Int) => decide (8 * k - 8 ≤ t) && decide (t ≤ 8 * k + 8)
  { v := satRV (ceilDiv top 256), epoch := epoch, slope := satS 16 (roundHalfEven (d * fs) 2048000000), k := k,
    ceil := pl.marks.any (fun x => inWin x.1 && x.2.1), short := pl.marks.any (fun x => inWin x.1 && x.2.2) }

/-- KNOT_WRITE: the next knot enters the rail's FIFO once R56 holds. -/
def Part.knotWrite (m : Part) (mem : Mem) (r : Nat) : Part :=
  match m.railGroup r with
  | none => m
  | some g =>
    if !m.knotReady r then m
    else
      let k := (m.plan r).nextK
      let m := m.hullAhead mem r g (8 * k + 8 - (m.plan r).hullT).toNat
      let pl := m.plan r
      m.setPlan r { pl with fifo := pl.fifo ++ [pl.knot k (m.get F.SAF_RSTAT_EPOCH r) (m.fs g)], nextK := k + 1 }

/-- The words of a knot (R59). -/
def Knot.lo (k : Knot) : Nat :=
  k.v + 2 ^ 20 * (k.epoch % 16) + (if k.ceil then 2 ^ 24 else 0) + (if k.short then 2 ^ 25 else 0)
def Knot.hi (k : Knot) : Nat := ofSigned 16 k.slope + 65536 * ofSigned 16 k.k

/-! ## Squash and recompute (R63 to R69) -/

/-- The old plan at a frame, in 1/256 RV: a held knot, the interpolation, or the set-point in force. -/
def Part.oldPlan (m : Part) (r : Nat) (n : Int) : Nat :=
  let pl := m.plan r
  let head := pl.fifo.head?
  if pl.heldKnot then 256 * (head.map (fun k => k.v)).getD (m.bslRail r).setp
  else match pl.cur, head with
    | some a, some b =>
      let pos := (clampInt 0 8 (n - 8 * a.k)).toNat
      (256 * (a.v : Int) + 32 * ((b.v : Int) - a.v) * pos).toNat
    | some a, none => 256 * a.v
    | none, some b => 256 * b.v
    | none, none => 256 * (m.bslRail r).setp

/-- The ratios of gain of the rail's channels that have a gain at the last plan, none for an unbounded one (R65). A channel whose
gain was 0 and is 0 has no ratio. -/
def Part.gainRatios (m : Part) (r : Nat) : List (Option Rat) :=
  (m.railChannels r).filterMap (fun c =>
    match (m.plan r).gainAt.get none c with
    | none => none
    | some 0 => if m.gainEff c = 0 then none else some none
    | some old => some (some ((m.gainEff c : Rat) / old)))

/-- r of R65, the largest ratio, or none where it is unbounded; 1 where no channel has a ratio (log entry 107). -/
def Part.gainRise (m : Part) (r : Nat) : Option Rat :=
  match m.gainRatios r with
  | [] => some 1
  | x :: t => t.foldl (fun acc y => match acc, y with
    | some a, some b => some (max a b)
    | _, _ => none) x

/-- delta of R65: the rise of V_DROP + MARGIN_IN_FORCE since the last completed plan, RV. -/
def Part.headroomRise (m : Part) (r : Nat) : Int := (m.headroom r : Int) - (m.plan r).addAt

/-- target(n) of R65, RV. -/
def Part.guardTarget (m : Part) (r : Nat) (p : Nat) : Nat :=
  match m.gainRise r with
  | none => (m.planCfg r).vmax
  | some x => satRV (((p : Rat) * max x 1 / 256).ceil + max 0 (m.headroomRise r))

/-- The guarded trajectory of frame n (R65), with its shortfall run. -/
def Part.guardFrame (m : Part) (r g : Nat) (n : Int) : Part :=
  let pl := m.plan r
  let p := m.oldPlan r n
  let before := pl.guarded.getD (256 * (m.bslRail r).setp)
  let target := 256 * m.guardTarget r p
  let v := max p (min target (before + m.sru r g))
  let run := if v < target then runOn pl.guardRun n ((target - v + 255) / 256) (m.is F.SAF_RCFG_CG r) else none
  let m := m.setPlan r { pl with guarded := some v, guardRun := run }
  if v < target then (if pl.guardRun.isNone then m.shortfallEvent r else m) else m.runRecord r 2 pl.guardRun

/-- A rail that does not track has no plan (R64): its knots go, and its runs end. -/
def Part.dropPlan (m : Part) (r : Nat) : Part :=
  let pl := m.plan r
  let m := ((m.runRecord r 1 pl.ceilRun).runRecord r 2 pl.shortRun).runRecord r 2 pl.guardRun
  m.setPlan r { squashAt := pl.squashAt, nextK := pl.nextK, hullT := pl.hullT, gainAt := pl.gainAt, addAt := pl.addAt, seed := pl.seed }

/-- The rail follows a plan of its own, though its first knot may be still to come. -/
def Part.hasPlan (m : Part) (r : Nat) : Bool :=
  let pl := m.plan r
  m.tracks r && (!pl.fifo.isEmpty || pl.cur.isSome || pl.heldKnot)

/-- An event of the same moment has squashed the rail already, and its recompute runs: the epoch increments once for both
(R69). -/
def Part.squashJoins (m : Part) (r : Nat) : Bool :=
  decide ((m.plan r).squashAt = some m.tb.ticks) && m.is F.SAF_RSTAT_RECOMP r

/-- The epoch of a squash, and the count of epoch increments (R63). -/
def Part.newEpoch (m : Part) (r : Nat) : Part :=
  if m.squashJoins r then m
  else (m.put F.SAF_RSTAT_EPOCH r ((m.get F.SAF_RSTAT_EPOCH r + 1) % 16)).bump F.SAF_RCNT2_SQUASH r

/-- A squash of the rail: a new epoch, its recompute, and its speculative adds cancelled (R63, R67). A plan start takes the
settings of R76; it, and a rail without a plan, hold the seed (R64); otherwise the guarded trajectory begins (R65). -/
def Part.squash (m : Part) (r : Nat) (planStart : Bool) : Part :=
  let m := (m.newEpoch r).put F.SAF_RSTAT_RECOMP r 1
  let m := m.setPlan r { m.plan r with squashAt := some m.tb.ticks, cfg := if planStart then some (m.liveCfg r) else (m.plan r).cfg }
  let m := m.cancelSpecs r
  if planStart || !(m.hasPlan r || (m.plan r).guarded.isSome || (m.plan r).seed.isSome) then m.setPlan r { m.plan r with seed := some (m.bslRail r).setp }
  else
    match m.railGroup r with
    | none => m
    | some g =>
      if (m.plan r).guarded.isSome || (m.plan r).seed.isSome then m else m.guardFrame r g (m.outFrame g)

/-- The first frame that is a multiple of 8 and lies at least W_EFF + 16 frames after F_c (R67). -/
def safeFrame (fc : Int) (weff : Nat) : Int := 8 * ceilDiv (fc + weff + 16) 8

/-- A recompute completes: the knots of other epochs go, the forward pass is seeded, and the first new knot is held (R64,
R66). -/
def Part.recomputeComplete (m : Part) (r : Nat) : Part :=
  if !m.is F.SAF_RSTAT_RECOMP r then m
  else
    let m := (m.put F.SAF_RSTAT_RECOMP r 0).put F.SAF_STAT_SQDONE 0 1
    let pl := m.plan r
    let m := ((m.runRecord r 1 pl.ceilRun).runRecord r 2 pl.shortRun).runRecord r 2 pl.guardRun
    let setp := (m.bslRail r).setp
    let g := (m.railGroup r).getD 0
    let fc := m.outFrame g
    let weff := m.wEff r g
    let old := match pl.seed, pl.guarded with
      | some v, _ => some v
      | none, some v => some ((v + 255) / 256)
      | none, none => none
    let gains := (m.railChannels r).foldl (fun (s : Store (Option Nat)) c => Store.set none s c (some (m.gainEff c))) ([] : Store (Option Nat))
    let m := m.setPlan r { cfg := pl.cfg, squashAt := pl.squashAt, nextK := fc / 8 + 1, hullT := fc - 1, hull := [256 * (setp : Int)], heldKnot := (m.railGroup r).isSome,
                           gainAt := gains, addAt := m.headroom r, finish := old }
    m.each (m.railChannels r) (fun c m =>
      let x := m.chan c
      if x.zeroed && x.safeAt.isNone then m.setChan c { x with safeAt := some (safeFrame fc weff) } else m)

/-- The rail needs a plan and its group gives one: SOFTSTART or TRACK with TRACK as its source (R64). -/
def Part.needsPlan (m : Part) (r : Nat) : Bool :=
  m.get F.RAIL_SRC_SRC r = 0 && (m.railState r = railSoftstart || m.railState r = railTrack)

/-! ## The group timeline (R44, R70 to R75, R364 to R367) -/

def grpSource (g : Nat) : Nat := srcOf 6 (0x40 + g)
def portSource (n : Nat) : Nat := srcOf 6 (0x80 + n)

def Part.audPort (m : Part) (n : Nat) : AudPort := m.saf.ports.get {} n
def Part.setAudPort (m : Part) (n : Nat) (x : AudPort) : Part :=
  { m with saf := { m.saf with ports := m.saf.ports.set {} n x } }

/-- Enabled ports of a group, and its timeline master: the lowest-numbered (R43). -/
def Part.groupPorts (m : Part) (g : Nat) : List Nat :=
  (List.range 8).filter (fun n => m.bit F.SAF_GCFG_PORTS g n && m.is F.AUD_PCFG_EN n)
def Part.master (m : Part) (g : Nat) : Option Nat := (m.groupPorts g).head?

/-- Slots of a frame of the port (R360), and its word width in bits. -/
def Part.slotCount (m : Part) (n : Nat) : Nat := if m.get F.AUD_PCFG_FMT n < 2 then 2 else m.get F.AUD_PCFG_SLOTS n + 1
def Part.wordBits (m : Part) (n : Nat) : Nat :=
  match m.get F.AUD_PCFG_WLEN n with
  | 0 => 16
  | 1 => 24
  | _ => 32

/-- A slot's word as the look-ahead buffer holds it: left-justified, the bits below WLEN zero (R42, R361). -/
def slotWord (bits : Nat) (w : Word) : Word := BitVec.ofNat 32 (w.toNat / 2 ^ (32 - bits) * 2 ^ (32 - bits))

/-- Channels that a port carries, each with its slot (R362). -/
def Part.portChannels (m : Part) (n : Nat) : List (Nat × Nat) :=
  ((List.range 64).filter (fun c => m.is F.AUD_CHSRC_EN c && m.get F.AUD_CHSRC_PORT c = n)).map
    (fun c => (c, m.get F.AUD_CHSRC_SLOT c))

/-- Store one frame of a port in the look-ahead buffer (R42). -/
def Part.storeFrame (m : Part) (mem : Mem) (n : Nat) (f : Int) (slots : List Word) : Mem :=
  (m.portChannels n).foldl (fun mem q =>
    Mem.write mem (labAddr q.1 f) (slotWord (m.wordBits n) (slots.getD q.2 0)).toNat 4) mem

/-- Store a frame of zeros for the timeline master of a group (R71); its other ports are judged on their own (R366). -/
def Part.storeZeros (m : Part) (mem : Mem) (g : Nat) (f : Int) : Mem :=
  match m.master g with
  | some n => m.storeFrame mem n f []
  | none => mem

/-- The group changes state; R72 and R370 call for a record, and an entry to LOCKED sets SAF_STAT.LOCK. -/
def Part.setGroupState (m : Part) (g st : Nat) (log : Bool) : Part :=
  let old := m.get F.SAF_GSTAT_STATE g
  let m := m.put F.SAF_GSTAT_STATE g st
  let m := if st = grpLocked && old != grpLocked then m.putBit F.SAF_STAT_LOCK 0 g true else m
  if log then m.stateEvent 8 (grpSource g) old st else m

/-- The group enters ACQUIRE: the next frame is candidate frame 0 (R73). -/
def Part.enterAcquire (m : Part) (g : Nat) (log : Bool) : Part :=
  let x := m.group g
  let m := m.setGroup g { x with cand := 0, missing := 0, depthRestart := false, silent := !x.handover }
  m.setGroupState g grpAcquire log

/-- Squash every rail of a group: a plan start where the rail needs a plan (R64, R68). -/
def Part.squashGroup (m : Part) (g : Nat) (start : Bool) : Part :=
  m.each (m.groupRails g) (fun r m => m.squash r (start && m.needsPlan r))

/-- A safe frame that was known on the old timeline means nothing on the new one: the channel counts again from frame 0. One
whose safe frame is still to come waits for it (R67, R73). -/
def Part.restartChannels (m : Part) (g : Nat) : Part :=
  m.each ((List.range 64).filter (fun c => m.groupOfChannel c = some g && (m.chan c).safeAt.isSome)) (fun c m =>
    m.setChan c { m.chan c with zeroed := false, safeAt := none })

/-- Four consistent frames: the group locks on a new timeline whose frame 0 leaves DEPTH + 3 frames after it entered (R73,
R367). FRAME is advanced by the OUTPUT_FRAME of the same sync (log entry 26). -/
def Part.lockGroup (m : Part) (g period : Nat) : Part :=
  let m := m.setGroup g { m.group g with inFrame := 3, lastComplete := 3, cand := 0, missing := 0, judged := false, period := period,
                                         silent := false, handover := false, lost := false, steer := true,
                                         lastSync := m.tb.ticks }
  let m := m.put F.SAF_GFRAME_FRAME g (ofSigned 32 (-(m.get F.SAF_GCFG_DEPTH g : Int)))
  let m := m.setGroupState g grpLocked false
  (m.restartChannels g).squashGroup g true

/-- A frame of the timeline master is consistent (R365): complete and not long, its period within 1 % of 1 ÷ fs and
within 0.1 % of the candidate's. -/
def Part.consistent (m : Part) (g period : Nat) : Bool :=
  let x := m.group g
  let p := period * m.fs g * 100
  let n := m.kHz * 1000
  decide (99 * n ≤ p) && decide (p ≤ 101 * n) &&
    (x.cand = 0 || (decide (999 * x.candPeriod ≤ 1000 * period) && decide (1000 * period ≤ 1001 * x.candPeriod)))

/-- An expected sync of the timeline master is missing (R71). `held`: the frame in progress has all its slots, so it keeps the
place of the sync that started it, and the period after it holds no frame (R364, R367). -/
def State.masterMissing (s : State) (g : Nat) (held : Option (Nat × List Word)) : State :=
  let m := s.part
  let x := m.group g
  let st := m.get F.SAF_GSTAT_STATE g
  if x.handover && st != grpAcquire then s
  else if st = grpLocked then
    let f := x.inFrame + 1
    let part := (m.bump F.SAF_GCNT_PART g).setGroupState g grpHoldover false
    match held with
    | none => { s with mem := m.storeZeros s.mem g f, part := part.setGroup g { x with inFrame := f, missing := 1 } }
    | some h => { s with mem := m.storeZeros (m.storeFrame s.mem h.1 f h.2) g (f + 1),
                         part := part.setGroup g { x with inFrame := f, lastComplete := f, missing := 1, judged := true } }
  else if st = grpHoldover then
    let m := m.setGroup g { x with missing := 2, judged := false, lost := true }
    let m := (m.bump F.SAF_GCNT_LOSS g).putBit F.SAF_STAT_LOST 0 g true
    { s with part := m.setGroupState g grpLost true }
  else if st = grpAcquire then { s with part := m.setGroup g { x with cand := 0 } }
  else s

/-- A frame of the timeline master ends. -/
def State.masterFrame (s : State) (g n : Nat) (cut onTime long : Bool) (period : Nat) (slots : List Word) : State :=
  let m := s.part
  let x := m.group g
  let st := m.get F.SAF_GSTAT_STATE g
  if st = grpLost || x.depthRestart || (x.handover && st != grpAcquire) then s.lift (fun m => m.enterAcquire g x.handover)
  else if st = grpAcquire then
    if cut || long || !m.consistent g period then s.lift (fun m => m.setGroup g { x with cand := 0 })
    else
      let mem := m.storeFrame s.mem n x.cand slots
      let m := m.setGroup g { x with cand := x.cand + 1, candPeriod := if x.cand = 0 then period else x.candPeriod }
      { s with mem := mem, part := if x.cand = 3 then m.lockGroup g period else m }
  else if st = grpLocked || st = grpHoldover then
    if !onTime then s
    else if cut then s.masterMissing g none
    else if x.judged then
      let m := m.setGroup g { x with inFrame := x.inFrame + 1, missing := 0, lastSync := m.tb.ticks, judged := false }
      { s with part := m.setGroupState g grpLocked false }
    else
      let f := x.inFrame + 1
      let m := m.setGroup g { x with inFrame := f, lastComplete := f, missing := 0, period := period, steer := true,
                                     lastSync := m.tb.ticks }
      { s with mem := m.storeFrame s.mem n f slots, part := m.setGroupState g grpLocked false }
  else s

/-- A port that is not the master has no complete frame for frame `f` of the master's timeline (R366). -/
def State.portZero (s : State) (n : Nat) (f : Int) : State :=
  let m := s.part
  let x := m.audPort n
  let m := m.bump F.AUD_PSTAT_PART n
  let m := m.setAudPort n { x with missing := x.missing + 1, good := 0 }
  let m := if x.missing + 1 = 2 && !m.is F.AUD_PSTAT_LOST n then
      ((m.put F.AUD_PSTAT_LOST n 1).put F.AUD_STAT_PLOST 0 1).stateEvent 20 (portSource n) 0 1
    else m
  { s with mem := m.storeFrame s.mem n f [], part := m }

/-- A port that is not the master brings a complete frame of the newest master frame; in LOST it is a frame of zeros, and the
fourth ends LOST (R366). -/
def State.portGood (s : State) (g n : Nat) (slots : List Word) : State :=
  let m := s.part
  let x := m.audPort n
  if m.is F.AUD_PSTAT_LOST n then
    let m := m.bump F.AUD_PSTAT_PART n
    let m := m.setAudPort n { x with missing := 0, good := x.good + 1 }
    let m := if x.good + 1 = 4 then (m.put F.AUD_PSTAT_LOST n 0).setAudPort n { m.audPort n with good := 0 } else m
    { s with mem := m.storeFrame s.mem n (m.group g).inFrame [], part := m }
  else { s with mem := m.storeFrame s.mem n (m.group g).inFrame slots, part := m.setAudPort n { x with missing := 0 } }

/-- A sync of a port that is not the master is missing. The frame in progress is the newest master frame's, complete where it has
all its slots, unless it was judged before; and no sync starts the next master frame on the port (R366). -/
def State.portMissing (s : State) (g n : Nat) (held : Option (List Word)) : State :=
  let x := s.part.audPort n
  let f := (s.part.group g).inFrame
  let s := if x.judged || x.stopped then s
    else match held with
      | some slots => s.portGood g n slots
      | none => s.portZero n f
  (s.portZero n (f + 1)).lift (fun m => m.setAudPort n { m.audPort n with judged := true, stopped := false })

/-- A frame of another port ends: it belongs to the newest master frame where its sync is on time, and a sync that is not on time
is ignored (R364, R366). -/
def State.portFrame (s : State) (g n : Nat) (cut onTime : Bool) (slots : List Word) : State :=
  let m := s.part
  let st := m.get F.SAF_GSTAT_STATE g
  if st = grpAcquire then
    if cut || (m.group g).cand = 0 then s
    else { s with mem := m.storeFrame s.mem n ((m.group g).cand - 1 : Nat) slots }
  else if st = grpLocked || st = grpHoldover then
    if !onTime then s
    else if (m.audPort n).judged then { s with part := m.setAudPort n { m.audPort n with judged := false } }
    else if cut then s.portZero n (m.group g).inFrame
    else s.portGood g n slots
  else s

/-- The port's frame in progress has been counted as partial when its BCLK stopped (log entry 50). -/
def Part.wasStopped (m : Part) (g n : Nat) : Bool :=
  if m.master g = some n then (m.group g).stopped else (m.audPort n).stopped

def Part.setStopped (m : Part) (g n : Nat) (v : Bool) : Part :=
  if m.master g = some n then m.setGroup g { m.group g with stopped := v } else m.setAudPort n { m.audPort n with stopped := v }

/-- The group follows its timeline: LOCKED or HOLDOVER. -/
def Part.onTimeline (m : Part) (g : Nat) : Bool :=
  m.get F.SAF_GSTAT_STATE g = grpLocked || m.get F.SAF_GSTAT_STATE g = grpHoldover

/-- AUDIO_FRAME: a frame sync ends a frame on an input port (R364 to R366). A sync outside the window is ignored, and the frame
runs on. -/
def State.audioFrame (s : State) (n : Nat) (cut onTime long : Bool) (period : Nat) (slots : List Word) : State :=
  if !s.part.is F.AUD_PCFG_EN n then s
  else
    let s := s.lift (fun m => m.put F.AUD_PSTAT_BCLKOK n 1)
    match s.part.groupOfPort n with
    | none => s
    | some g =>
      if !onTime && s.part.onTimeline g && !(s.part.group g).depthRestart && !(s.part.group g).handover then s
      else
      let s := if long && !cut then s.lift (fun m => m.put F.AUD_PSTAT_LONG n 1) else s
      let counted := s.part.wasStopped g n && s.part.onTimeline g
      let s := s.lift (fun m => m.setStopped g n false)
      if counted then s
      else if s.part.master g = some n then s.masterFrame g n cut onTime long period slots
      else s.portFrame g n cut onTime slots

/-- BCLK stops inside the frame that a port sends: its bits that are not yet shifted are not sent (R368). -/
def Part.outputStops (m : Part) (n bits : Nat) : Part := m.setAudPort n { m.audPort n with shifted := some bits }

/-- BCLK_STOP: BCLK has had no edge for 1 µs; inside a frame that frame is partial, and of the frame the port sends only the
bits shifted so far have left (R364, R368). -/
def State.bclkStop (s : State) (n : Nat) (inFrame : Option Nat) : State :=
  let s := s.lift (fun m => m.put F.AUD_PSTAT_BCLKOK n 0)
  match inFrame with
  | none => s
  | some bits =>
    if !s.part.is F.AUD_PCFG_EN n then s
    else
      let s := s.lift (fun m => m.outputStops n bits)
      match s.part.groupOfPort n with
      | none => s
      | some g =>
        if s.part.wasStopped g n then s
        else if s.part.master g = some n then (s.masterMissing g none).lift (fun m => m.setStopped g n true)
        else if s.part.onTimeline g && !(s.part.audPort n).judged then
          (s.portZero n (s.part.group g).inFrame).lift (fun m => m.setStopped g n true)
        else s

/-- Basalt consumes the knots whose frame has come; where it then needs one more and the FIFO holds none, the set-point
holds, and the underrun is counted and recorded once for each knot that is missing (R58). A held seed needs none, a held first knot
none before its frame (R64), and a rail whose trajectory is BLIND_V none at all (R84). -/
def Part.consumeKnots (m : Part) (r : Nat) (n : Int) : Part :=
  let pl := m.plan r
  let due := pl.fifo.takeWhile (fun k => decide (8 * k.k ≤ n))
  let rest := pl.fifo.dropWhile (fun k => decide (8 * k.k ≤ n))
  let cur := match due.getLast? with
    | some k => some k
    | none => pl.cur
  let held := pl.heldKnot && due.isEmpty
  let missing := if !rest.isEmpty || pl.seed.isSome || m.blind r then none
    else match cur with
      | some k => some (k.k + 1)
      | none => if pl.heldKnot && decide (8 * pl.nextK ≤ n) then some pl.nextK else none
  let m := m.setPlan r { pl with fifo := rest, cur := cur, heldKnot := held, underrun := missing.isSome, finish := none,
                                 lacking := if missing.isSome then missing else pl.lacking }
  match missing with
  | none => m
  | some k =>
    if pl.lacking = some k then m
    else
      let m := ((m.put F.SAF_RSTAT_UNDER r 1).put F.SAF_STAT_UNDER 0 1).bump F.SAF_RCNT2_UNDER r
      m.event 0x2002 (srcRail r) (3 + 256 * m.get F.SAF_RSTAT_EPOCH r) (ofSigned 32 n) (ofSigned 16 k)

/-- A channel's words behind the look-ahead buffer move on to output frame `n`: the buffer gives frame n + 3 (R14). -/
def Part.shiftPipe (m : Part) (mem : Mem) (n : Int) (c : Nat) : Part :=
  m.setChan c { m.chan c with pipe := (m.chan c).pipe.drop 1 ++ [BitVec.ofInt 32 (m.sample mem c (n + 3))] }

/-- Channels of a group. -/
def Part.groupChannels (m : Part) (g : Nat) : List Nat := (List.range 64).filter (fun c => m.groupOfChannel c = some g)

/-- Output frame `n` begins for a rail: its knots are consumed, and the guarded trajectory takes its next value, with clip guard on
a frame that falls short (R58, R62, R65). -/
def Part.railFrame (m : Part) (mem : Mem) (g : Nat) (n : Int) (r : Nat) : Part :=
  if !m.tracks r then m.dropPlan r
  else
    let m := m.consumeKnots r n
    if m.is F.SAF_RSTAT_RECOMP r && (m.plan r).seed.isNone && !m.blind r then
      let m := m.guardFrame r g n
      m.clipGuard mem r (m.plan r).guardRun ((m.plan r).guarded.getD 0) n
    else m

/-- The group's timeline moves on by one output frame (R14, R44, R65, R72). A sync that is on time and ends a complete frame steers
the frame counter; without one the counter goes on at the period it measured last. -/
def Part.advanceFrame (m : Part) (mem : Mem) (g : Nat) : Part :=
  let x := m.group g
  let n := m.outFrame g + 1
  let m := m.put F.SAF_GFRAME_FRAME g (ofSigned 32 n)
  let m := m.setGroup g { x with outStart := if x.steer then m.tb.ticks else x.outStart + x.period, steer := false,
                                 inFrame := if m.ended g then x.inFrame + 1 else x.inFrame }
  let m := m.each (m.groupChannels g) (fun c m => m.shiftPipe mem n c)
  m.each (m.groupRails g) (fun r m => m.railFrame mem g n r)

/-- A channel's sample as it leaves in the present output frame with a gain (R14, R68, R72, R260, R367, R368). -/
def Part.outSample (m : Part) (g c : Nat) (bits gain : Nat) : Word :=
  let x := m.group g
  let n := m.outFrame g
  if n < 0 || x.silent || x.depthRestart || !m.audible c n || (m.ended g && decide (x.lastComplete < n)) then 0
  else
    let v := ((m.chan c).pipe.headD 0).toInt / 2 ^ (32 - bits)
    BitVec.ofInt 32 (satS bits (roundHalfEven (v * gain) 32768) * 2 ^ (32 - bits))

end Sys2Proof.Machine
end

