-- ==== Sys2Proof/Machine/Budget.lean ====
section
/-! DEFINITION. Clove: measured and planned power, the limits, the ladder, the budget limiter, heat and lending
(R249 to R269). Its arithmetic is exact; the registers show each value rounded down (log entry 27). -/
namespace Sys2Proof.Machine

def Part.clvRail (m : Part) (r : Nat) : CloveRail := m.clv.rails.get {} r
def Part.setClvRail (m : Part) (r : Nat) (x : CloveRail) : Part := { m with clv := { m.clv with rails := m.clv.rails.set {} r x } }
def Part.clvPhase (m : Part) (p : Nat) : ClovePhase := m.clv.phases.get {} p
def Part.setClvPhase (m : Part) (p : Nat) (x : ClovePhase) : Part :=
  { m with clv := { m.clv with phases := m.clv.phases.set {} p x } }

/-- A fraction a register shows, rounded down and held in its width. -/
def shown (x : Rat) (bits : Nat) : Nat := min (2 ^ bits - 1) x.floor.toNat

/-! ## Measured power (R250, R269) -/

/-- VBUS in volts. -/
def Part.vbusV (m : Part) : Rat := (m.vbus : Rat) / 4096

/-- Efficiency of the power train, and the fixed overhead in W. -/
def Part.etaPt (m : Part) : Rat := (max 1 (m.get F.CLV_TAU_ETA_PT 0) : Nat) / 65536
def Part.pAux (m : Part) : Rat := (m.get F.CLV_PAUX_P 0 : Rat) / 16

/-- P_meas_r in W. -/
def Part.pMeasRail (m : Part) (r : Nat) : Rat :=
  let i := ((allPhases.filter (fun p => (m.poolAt p).repRail = r)).map (fun p => (m.poolAt p).repI)).foldl (· + ·) (0 : Int)
  (m.vrail r : Rat) / 4096 * (i / 256)

/-- IBUS is measured: CLV_ISNS.EN and a valid bus slice. -/
def Part.ibusSensed (m : Part) : Bool := m.is F.CLV_ISNS_EN 0 && !m.clv.noBus

/-- IBUS of the AUX input, in A. -/
def Part.ibusAux (m : Part) : Rat :=
  (toSigned 24 (m.get F.ADC_AUX_RESULT (m.get F.CLV_ISNS_AUX 0)) : Rat) / 2 ^ 23 * (m.get F.CLV_ISNS_SCALE 0) / 16

/-- P_meas in W. -/
def Part.pMeas (m : Part) : Rat :=
  if m.ibusSensed then m.ibusAux * m.vbusV
  else (allRails.map m.pMeasRail).foldl (· + ·) (0 : Rat) / m.etaPt + m.pAux

/-- IBUS in A; P_meas ÷ VBUS has no stated value when VBUS is 0, so it is free there (log entry 28). -/
def Part.ibus (m : Part) : Rat :=
  if m.ibusSensed then m.ibusAux
  else if m.vbus = 0 then ((Config.freeWord m.free).toNat : Rat) else m.pMeas / m.vbusV

/-! ## Planned power (R251, R252, R269) -/

/-- r² of R269 while a recompute runs; r without a bound has no stated square (log entry 28). -/
def Part.squashGain (m : Part) (r : Nat) : Rat :=
  if m.is F.SAF_RSTAT_RECOMP r then (match m.gainRise r with
    | some x => x * x
    | none => ((Config.freeWord m.free).toNat : Rat))
  else 1

/-- p_aud of a channel in W. -/
def Part.chanPower (m : Part) (mem : Mem) (r c : Nat) (n : Int) : Rat :=
  if m.audible c n then
    let v : Rat := (m.magnitude mem (m.planCfg r).tp c n * m.gainEff c : Nat) / 2 ^ 31 / 4096
    v * v / ((max 1 (m.get F.CLV_CHZ_Z c) : Nat) / 1000) / ((max 1 (m.get F.CLV_RCFG_ETA r) : Nat) / 65536)
  else 0

/-- The rail's group has no audio at a frame. -/
def Part.pastEnd (m : Part) (g : Nat) (n : Int) : Bool := m.ended g && decide ((m.group g).lastComplete < n)

/-- p_aud of a rail at an output frame, W. -/
def Part.pAud (m : Part) (mem : Mem) (r : Nat) (n : Int) : Rat :=
  if m.railState r = railTrack then
    match m.railGroup r with
    | none => 0
    | some g =>
      if m.pastEnd g n then 0
      else ((m.railChannels r).map (fun c => m.chanPower mem r c n)).foldl (· + ·) (0 : Rat) * m.squashGain r
  else 0

/-- h(n) in volts: the hull in TRACK, with delta during a recompute; VSET in HOLD and FOLLOW; none in any other state. -/
def Part.planVolts (m : Part) (mem : Mem) (r : Nat) (n : Int) : Option Rat :=
  if m.railState r = railTrack then
    match m.railGroup r with
    | none => some ((m.get F.SAF_BLIND_VALUE r : Rat) / 4096)
    | some g =>
      let d : Int := if m.is F.SAF_RSTAT_RECOMP r then m.headroomRise r else 0
      some (((m.hull mem r g n : Rat) / 256 + d) / 4096)
  else if m.railState r = railHold || m.railState r = railFollow then some (((m.bslRail r).vset : Rat) / 4096)
  else none

/-- p_rail at an output frame, W. -/
def Part.pRail (m : Part) (mem : Mem) (r : Nat) (n : Int) : Rat :=
  match m.planVolts mem r n with
  | none => 0
  | some h => m.pAud mem r n + h * ((m.get F.CLV_RIQ_I_Q r : Rat) / 256)

/-- The output frame of a rail that is in force some µs from now. -/
def Part.frameAt (m : Part) (r : Nat) (us : Rat) : Int :=
  match m.railGroup r with
  | none => 0
  | some g =>
    let since : Rat := (m.tb.ticks - (m.group g).outStart : Nat) * 1000 / m.kHz
    m.outFrame g + ((since + us) * (m.fs g : Nat) / 1000000).floor

/-- Planned current of a rail at an output frame, 2^-8 A, rounded down (R252). A planned voltage of 0 leaves it unstated. -/
def Part.plannedAt (m : Part) (mem : Mem) (r : Nat) (n : Int) : Nat :=
  match m.planVolts mem r n with
  | none => 0
  | some h =>
    if h = 0 then (Config.freeWord m.free).toNat
    else ((m.clvRail r).k * m.pRail mem r n / h * 256).floor.toNat

/-- Highest planned current over the next ADD_LEAD µs; Clove plans nothing while it is off (R240, R249). -/
def Part.plannedLead (m : Part) (mem : Mem) (r : Nat) : Nat :=
  if !m.is F.CLV_CTRL_EN 0 || 63 ≤ r then 0
  else
    let a := m.frameAt r 0
    let b := m.frameAt r (m.get F.POOL_RLEAD_ADD_LEAD r : Nat)
    ((List.range ((b - a).toNat + 1)).map (fun i => m.plannedAt mem r (a + (i : Nat)))).foldl max 0

/-! ## The projection (R249, R253, R257) -/

/-- The budget horizon J in ticks (R249). -/
def Part.horizon (m : Part) : Nat :=
  ((List.range 8).filter (fun g => (m.get F.SAF_GSTAT_STATE g = grpLocked || m.get F.SAF_GSTAT_STATE g = grpHoldover) &&
      (m.groupRails g).any (fun r => m.railState r = railTrack))).foldl
    (fun j g => min j ((m.get F.SAF_GCFG_DEPTH g - 16) * 100000 / m.fs g)) (10 * m.get F.CLV_CFG_HZN 0)

/-- P_lim and P_fix of a bin, W (R257). -/
def Part.binPower (m : Part) (mem : Mem) (j : Nat) : Rat × Rat :=
  let us : Rat := 10 * j + 5
  let one := fun (r : Nat) =>
    let n := m.frameAt r us
    let k := (m.clvRail r).k / m.etaPt
    let aud := k * m.pAud mem r n
    let all := k * m.pRail mem r n
    if m.is F.CLV_RCFG_LIM r then (aud, all - aud) else (0, all)
  allRails.foldl (fun acc r => let x := one r
                               (acc.1 + x.1, acc.2 + x.2)) (0, m.pAux)

/-- Bins 1 to J. -/
def Part.bins (m : Part) (mem : Mem) : List (Rat × Rat) := (List.range m.horizon).map (fun j => m.binPower mem (j + 1))

/-- E_avail in J (R253). -/
def Part.eAvail (m : Part) : Rat :=
  let vm : Rat := (m.get F.CLV_VBMIN_VBUS_MIN 0 : Rat) / 4096
  if m.vbusV < vm then 0 else (m.get F.CLV_CBUS_C_BUS 0 : Rat) / 200000 * (m.vbusV * m.vbusV - vm * vm)

def Part.pLong (m : Part) : Rat := (m.get F.CLV_PLONG_P 0 : Rat) / 16
def Part.pIn (m : Part) : Rat := (m.get F.CLV_PIN_P 0 : Rat) / 16
def Part.iMax (m : Part) : Rat := (m.get F.CLV_IBUS_I_BUS_MAX 0 : Rat) / 256
/-- 10 µs ÷ TAU_LONG. -/
def Part.longStep (m : Part) : Rat := 1 / (100 * (max 1 (m.get F.CLV_TAU_TAU_LONG 0) : Nat))

/-- Which limits fail: long-term power, bus capacitor energy, bus current. -/
structure Excess where
  long : Bool
  short : Bool
  ibus : Bool
  /-- A measured value exceeds its limit. -/
  measured : Bool
deriving DecidableEq, Repr

def Excess.any (x : Excess) : Bool := x.long || x.short || x.ibus

/-- A(j) and E(j) over the bins, and whether they and the bus current hold (R253). -/
def Part.project (m : Part) (s : Rat) : List Rat → Rat → Rat → Bool × Bool × Bool
  | [], _, _ => (false, false, false)
  | p :: t, a, e =>
    let a := a + (p - a) * m.longStep
    let e := max 0 (e + (p - m.pIn) / 100000)
    let rest := m.project s t a e
    (decide (m.pLong * s < a) || rest.1, decide (m.eAvail * s < e) || rest.2.1, decide (m.iMax * s * m.vbusV < p) || rest.2.2)

/-- The excess declared with every limit multiplied by `s` (R253, R254). -/
def Part.excess (m : Part) (bins : List (Rat × Rat)) (s : Rat) : Excess :=
  let x := m.project s (bins.map (fun b => b.1 + b.2)) m.clv.pavg 0
  let long := decide (m.pLong * s < m.clv.pavg)
  let cur := decide (m.iMax * s < m.ibus)
  { long := x.1 || long, short := x.2.1, ibus := x.2.2 || cur, measured := long || cur }

/-! ## The budget limiter (R258, R259) -/

/-- Integer square root of a number below 2^32, bit by bit. -/
def isqrt (n : Nat) : Nat :=
  (List.range 16).foldl (fun acc i => if (acc + 2 ^ (15 - i)) * (acc + 2 ^ (15 - i)) ≤ n then acc + 2 ^ (15 - i) else acc) 0

/-- Required gain of a bin under a cap. With no audio to lower, the quotient has no stated value (log entry 28). -/
def Part.binGain (m : Part) (b : Rat × Rat) (cap : Rat) : Nat :=
  if b.1 + b.2 ≤ cap then 32768
  else
    let gmin := m.get F.CLV_GMIN_G_MIN 0
    if b.1 = 0 then max gmin ((Config.freeWord m.free).toNat % 32769)
    else max gmin (isqrt ((max 0 (cap - b.2) / b.1) * 32768 * 32768).floor.toNat)

/-- Required gains of the bins, with A′ and E′ carried, and whether one bin cannot meet its cap (R258). -/
def Part.limiter (m : Part) : List (Rat × Rat) → Rat → Rat → List Nat × Bool
  | [], _, _ => ([], false)
  | b :: t, a, e =>
    let cap := min (m.iMax * m.vbusV) (min (m.pIn + (m.eAvail - e) * 100000) (a + (m.pLong - a) / m.longStep))
    let q := m.binGain b cap
    let p := b.2 + b.1 * ((q : Rat) / 32768) * ((q : Rat) / 32768)
    let fail := decide (q = m.get F.CLV_GMIN_G_MIN 0) && decide (cap < p)
    let rest := m.limiter t (a + (p - a) * m.longStep) (max 0 (e + (p - m.pIn) / 100000))
    (q :: rest.1, fail || rest.2)

/-- r_c(s): the lower of the bin's gain, for a channel whose rail the limiter may lower, and the clip-guard caps (R259). -/
def Part.requiredGain (m : Part) (c g : Nat) (s : Int) : Nat :=
  let bin : Nat :=
    if m.is F.SAF_CHMAP_MAPEN c && m.is F.CLV_RCFG_LIM (m.get F.SAF_CHMAP_RAIL c) then
      let per := (m.group g).period
      let off : Int := ((m.group g).outStart : Int) - m.clv.tickAt + (s - m.outFrame g) * per
      if off < 0 then 32768 else m.clv.q.getD (off.toNat * 100000 / (m.kHz * 1000)) 32768
    else 32768
  ((m.chan c).caps.filter (fun q => q.1 = s)).foldl (fun v q => min v q.2) bin

/-- ATT in frames, and RSTEP (R259). -/
def Part.attFrames (m : Part) (g : Nat) : Nat :=
  min (ceilDivN (m.get F.CLV_LIM_ATT_T 0 * m.fs g) 1000000) (m.get F.SAF_GCFG_DEPTH g - 16)
def Part.releaseStep (m : Part) (g : Nat) : Nat := ceilDivN 327680000 (max 1 (m.get F.CLV_LIM_LREL_T 0 * m.fs g))

/-- Gain that a requirement at frame t + d leaves to frame t. -/
def attackAt (rc d att : Nat) : Nat := rc + (32768 - rc) * d / max 1 att

/-- The gain applied to frame `t` of a channel; it is late when a requirement first appeared fewer than ATT frames before
its frame (R259). -/
def Part.stepGain (m : Part) (c g : Nat) (t : Int) : Part :=
  let x := m.chan c
  let att := m.attFrames g
  let rc := (List.range (att + 1)).map (fun (d : Nat) => (d, m.requiredGain c g (t + d)))
  let atk := rc.foldl (fun v q => min v (attackAt q.2 q.1 att)) 32768
  let late := rc.any (fun q => decide (q.2 < 32768) && decide (q.1 < att) && decide (attackAt q.2 (q.1 + 1) att < x.gain))
  let gain := min 32768 (min (x.gain + m.releaseStep g) atk)
  let m := m.setChan c { x with gain := gain, caps := x.caps.filter (fun q => decide (t < q.1)) }
  let m := if late then m.put F.CLV_STAT_LATEATK 0 1 else m
  if gain < 32768 && x.gain = 32768 && m.is F.SAF_CHMAP_MAPEN c then m.alert 3 (some (m.get F.SAF_CHMAP_RAIL c)) else m

/-! ## The ladder (R254, R256) -/

/-- The ladder's level changes. Entry to level 5 sets ALERT and is recorded. -/
def Part.setLevel (m : Part) (n : Nat) : Part :=
  let old := m.get F.CLV_STAT_LEVEL 0
  let m := m.put F.CLV_STAT_LEVEL 0 n
  if n = 5 && old != 5 then
    let m := m.put F.CLV_STAT_ALERT 0 1
    m.event (codeOf 11 2) 0 0 (m.word R.CLV_STAT.base).toNat
  else m

/-- S of a rail changes; a change of the margin in force is a squash (R256). -/
def Part.setMarginSteps (m : Part) (r s : Nat) : Part :=
  let old := m.margin r
  let m := m.put F.CLV_RSTAT_MSTEPS r s
  if m.margin r = old then m else m.squash r false

/-- One margin step: S rises in TRACK while step 3 is in force, and falls while the level is below 3 (R256). -/
def Part.marginStep (m : Part) : Part :=
  m.each allRails (fun r m =>
    let s := m.get F.CLV_RSTAT_MSTEPS r
    if m.stepInForce 3 then
      if m.railState r = railTrack && s < 255 && m.get F.CLV_RMARG_MARGIN_MIN r < m.margin r then m.setMarginSteps r (s + 1) else m
    else if m.get F.CLV_STAT_LEVEL 0 < 3 && 0 < s then m.setMarginSteps r (s - 1)
    else m)

/-! ## Heat (R261 to R263) -/

/-- Loss of a phase at a current, W. -/
def Part.lossAt (m : Part) (p : Nat) (i : Rat) : Rat :=
  let fsw : Rat := (m.kHz : Rat) * 1000 / (max 1 (m.pwmAt p).period : Nat)
  i * i * (m.get F.CLV_LOSS_R_ON 0) / 64000 + (if i < 0 then -i else i) * (m.get F.CLV_LOSS_E_SW 0) / 10000000000 * fsw

/-- One step of the slow thermal state. -/
def Part.theta2Step (m : Part) (th p : Rat) : Rat :=
  th + ((m.get F.CLV_THR_R2 0 : Rat) / 1024 * p - th) / (100 * (max 1 (m.get F.CLV_THM_TAU2 0) : Nat))

/-- Θ2 after the horizon's bins, with the rail's planned current times the phase's share (R261). -/
def Part.theta2Ahead (m : Part) (mem : Mem) (p : Nat) (th : Rat) : Rat :=
  let r := m.phRail p
  (List.range m.horizon).foldl (fun th (j : Nat) =>
    let i : Rat := (m.plannedAt mem r (m.frameAt r (10 * (j + 1) + 5)) : Rat) / 256 * (m.get F.POOL_PSTAT_WSHARE p) / 32768
    m.theta2Step th (m.lossAt p i)) th

/-- A temperature as a register shows it, 1/64 °C. -/
def showTemp (x : Rat) : Nat := ofSigned 16 (satS 16 (x * 64).floor)

/-- T_est of a phase, °C (R261). -/
def Part.tEst (m : Part) (p : Nat) : Rat := ((m.poolAt p).temp : Rat) / 64 + (m.clvPhase p).theta1

/-- The thermal states of a phase at a tick, and its registers (R261). -/
def Part.heatStep (m : Part) (mem : Mem) (p : Nat) : Part :=
  let x := m.clvPhase p
  let loss : Rat := if m.switches p then m.lossAt p (((m.poolAt p).repI : Rat) / 256) else 0
  let th1 := x.theta1 + ((m.get F.CLV_THR_R1 0 : Rat) / 1024 * loss - x.theta1) * 10 / (max 1 (m.get F.CLV_THM_TAU1 0) : Nat)
  let th2 := m.theta2Step x.theta2 loss
  let m := m.setClvPhase p { x with theta1 := th1, theta2 := th2 }
  let est := m.tEst p
  let pred := est + (m.theta2Ahead mem p th2 - th2)
  let m := (m.put F.CLV_PTH_T_EST p (showTemp est)).put F.CLV_PTH_T_PRED p (showTemp pred)
  m.put F.CLV_PHT_P_LOSS p (shown (loss * 16) 16)

/-- F_CLV of a phase, its rotation request and HOT (R262). -/
def Part.heatAct (m : Part) (p : Nat) : Part :=
  let est : Rat := m.tEst p * 64
  let warn : Rat := m.getS F.CLV_TWARN_T_WARN 0
  let hot : Rat := m.getS F.CLV_TWARN_T_HOT 0
  let f : Nat := if est ≤ warn then 32768 else if est < hot then (32768 * (hot - est) / (hot - warn)).floor.toNat else 0
  let m := if m.get F.POOL_PFACT_F_CLV p = 32768 && f < 32768 && m.phRail p < 63 then m.pmbLatch F.PMB_ST_TEMP (m.phRail p) 6 else m
  let m := (m.put F.POOL_PFACT_F_CLV p f).refreshF p
  let m := if est < hot - (m.get F.CLV_THYS_T_HYS 0 : Rat) then m.put F.CLV_PHT_HOT p 0 else m
  let x := m.clvPhase p
  let due := match x.rotAt with
    | none => true
    | some t => m.elapsed t (1000 * m.get F.CLV_THYS_ROT_MIN 0)
  if decide (warn < est) && decide (est < hot) && due then m.setClvPhase p { x with rotAt := some m.tb.ticks, rotate := true } else m

/-- Clove asks for a park: a hot phase in ACTIVE whose rail keeps NMIN phases in ACTIVE without it (R262, R265). -/
def Part.hotPark (m : Part) (p : Nat) : Bool :=
  let r := m.phRail p
  m.getS F.CLV_TWARN_T_HOT 0 ≤ m.getS F.CLV_PTH_T_EST p && m.phState p = phActive &&
    decide (m.get F.POOL_RCFG_NMIN r + 1 ≤ (allPhases.filter (fun q => m.phRail q = r && m.phState q = phActive)).length)

/-- The limit Clove places on a rail (R263). With no phase in ACTIVE the mean of F_CLV is not stated: it is free (log
entry 28). -/
def Part.railHeatLimit (m : Part) (r : Nat) : Part :=
  let act := allPhases.filter (fun p => m.phRail p = r && m.phState p = phActive)
  let il := m.get F.RAIL_ILIM_I r
  let sum := (act.map (fun p => m.get F.POOL_PFACT_F_CLV p)).foldl (· + ·) (0 : Nat)
  let full := act.any (fun p => m.get F.POOL_PFACT_F_CLV p = 32768)
  let mean : Rat := if act.isEmpty then ((Config.freeWord m.free).toNat : Rat) / 2 ^ 32
    else (sum : Rat) / (32768 * act.length : Nat)
  let f : Rat := if full then 1 else max ((m.get F.CLV_RIQ_DRMIN r : Rat) / 32768) mean
  (m.setClvRail r { m.clvRail r with limit := f }).put F.CLV_RILIM_I r (shown ((il : Rat) * f) 24)

/-! ## Lending (R264) -/

/-- ADD_I and SHED_I that R240 uses for a rail now. -/
def Part.bandOf (m : Part) (r : Nat) : Nat :=
  match m.leadPhase r with
  | some p => (m.bslPhase p).bprev
  | none => 0
def Part.addI (m : Part) (mem : Mem) (r : Nat) : Nat := optAddI mem (m.get F.RAIL_OPT_PROFILE r) (m.bandOf r)
def Part.shedI (m : Part) (mem : Mem) (r : Nat) : Nat := optShedI mem (m.get F.RAIL_OPT_PROFILE r) (m.bandOf r)

/-- The receiving rail: the lowest whose Pd, which is 0 without SPEC, exceeds what its phases carry, and for which an add finds
none (R240, R264). -/
def Part.lendTo (m : Part) (mem : Mem) : Option Nat :=
  allRails.find? (fun r => m.regulating r && m.is F.POOL_RCFG_SPEC r && decide ((m.feeding r).length * m.addI mem r < m.plannedLead mem r) &&
    (m.addChoice r).isNone)

/-- A phase may be lent to rail `b` (R264 item 2). -/
def Part.mayLend (m : Part) (mem : Mem) (b p : Nat) : Bool :=
  let a := m.phRail p
  let op := if m.get F.POOL_PCFG_HOME p = b then 0 else 1
  let n := (m.feeding a).length
  let lim := (n - 1) * (if m.stepInForce 2 then m.addI mem a else m.shedI mem a)
  m.phState p = phActive && a != b && (m.get F.POOL_PCFG_HOME p = b || m.get F.POOL_PCFG_GUEST p = b) &&
    m.is F.POOL_PCFG_LEND p && !m.requestRefused mem op p && !m.is F.CLV_PHT_HOT p &&
    decide (m.getS F.CLV_PTH_T_PRED p < m.getS F.CLV_TWARN_T_WARN 0) && decide (m.plannedLead mem a < lim)

/-- A word of POOL_LREQ. -/
def lreqWord (p op epoch : Nat) (spec : Bool) : Word :=
  BitVec.ofNat 32 (2 ^ 31 + (if spec then 2 ^ 30 else 0) + epoch * 2 ^ 24 + op * 2 ^ 16 + p)

/-- Clove's one request of a tick: a park for heat, lowest phase first, or a lending (R262, R264 to R266). -/
def Part.cloveRequest (m : Part) (mem : Mem) : Part :=
  if m.is F.CLV_CTRL_XB 0 || m.is F.POOL_LREQ_GO 0 then m
  else
    match allPhases.find? m.hotPark with
    | some p => (m.put F.CLV_PHT_HOT p 1).submitRequest mem (lreqWord p 2 0 false)
    | none =>
      if !m.is F.CLV_CTRL_LEND 0 then m
      else match m.lendTo mem with
        | none => m
        | some b =>
          match allPhases.find? (m.mayLend mem b) with
          | none => m
          | some p =>
            let op := if m.get F.POOL_PCFG_HOME p = b then 0 else 1
            m.submitRequest mem (lreqWord p op (m.get F.SAF_RSTAT_EPOCH b) true)

/-! ## The tick (R249 to R263) -/

/-- K and the energy counter of a rail at a tick (R250, R252). -/
def Part.railTick (m : Part) (mem : Mem) (r : Nat) : Part :=
  let x := m.clvRail r
  let track := decide (m.railState r = railTrack)
  let k : Rat := if track && !x.track then 1 else x.k
  let n := m.frameAt r 0
  let meas := m.pMeasRail r
  let plan := m.pRail mem r n
  let k := if track && decide (1 < plan) then max (1 / 2) (min 2 (k + (meas / plan - k) / 10000)) else k
  let e := x.carry + meas / 100
  let total := (m.get F.CLV_RELO_E r + 2 ^ 32 * m.get F.CLV_REHI_E r + e.floor) % 2 ^ 64
  let m := m.setClvRail r { m.clvRail r with k := k, carry := e - e.floor, track := track }
  let m := (m.put F.CLV_RELO_E r (total % 2 ^ 32).toNat).put F.CLV_REHI_E r (total / 2 ^ 32).toNat
  (m.put F.CLV_RSTAT_K r (shown (k * 16384) 16)).put F.CLV_RPLAN_P r (shown (k * plan * 16) 24)

/-- The ladder at a tick, before the limiter: up by one on an excess, and the quiet count (R254). -/
def Part.ladderTick (m : Part) (bins : List (Rat × Rat)) : Part :=
  let x := m.excess bins 1
  let lvl := m.get F.CLV_STAT_LEVEL 0
  let m := if x.long then m.put F.CLV_STAT_LONG 0 1 else m
  let m := if x.short then m.put F.CLV_STAT_SHORT 0 1 else m
  let m := if x.ibus then m.put F.CLV_STAT_IBUS 0 1 else m
  let m := if !x.any then m
    else if lvl < 4 then m.setLevel (lvl + 1)
    else if lvl = 4 && x.measured then m.setLevel 5
    else m
  let low := m.excess bins (1 - (m.get F.CLV_CFG_HYS 0 : Rat) / 100)
  { m with clv := { m.clv with quiet := if low.any then 0 else m.clv.quiet + 1 } }

/-- The required gain of the tick now running, bin 0: the one that its interval got while it was a later bin (R258, R259). -/
def Part.presentGain (m : Part) : Nat := m.clv.q.getD ((m.tb.ticks - m.clv.tickAt) * 100 / m.kHz) 32768

/-- The limiter at a tick (R258). -/
def Part.limiterTick (m : Part) (bins : List (Rat × Rat)) : Part :=
  if m.stepInForce 4 then
    let x := m.limiter bins m.clv.pavg 0
    let m := { m with clv := { m.clv with q := m.presentGain :: x.1, tickAt := m.tb.ticks } }
    if x.2 then (m.put F.CLV_STAT_GMIN 0 1).setLevel 5 else m
  else { m with clv := { m.clv with q := [], tickAt := m.tb.ticks } }

/-- BUDGET_TICK: Clove's evaluation (R249). The BUDGET condition is asserted to the load command ports while step 5 is in force; a
tick that brings it into force alerts them (R254). -/
def Part.budgetTick (m : Part) (mem : Mem) : Part :=
  if !m.is F.CLV_CTRL_EN 0 then m
  else
    let was := m.stepInForce 5
    let m := { m with clv := { m.clv with stepen := m.get F.CLV_CTRL_STEPEN 0 } }
    let meas := m.pMeas
    let m := { m with clv := { m.clv with pavg := m.clv.pavg + (meas - m.clv.pavg) * m.longStep } }
    let m := m.each allRails (fun r m => m.railTick mem r)
    let bins := m.bins mem
    let peak := (bins.map (fun b => b.1 + b.2)).foldl max 0
    let m := (m.put F.CLV_PMEAS_P 0 (shown (meas * 16) 24)).put F.CLV_PAVG_P 0 (shown (m.clv.pavg * 16) 24)
    let m := (m.put F.CLV_PPEAK_P 0 (shown (peak * 16) 24)).put F.CLV_EAVL_E 0 (shown (m.eAvail * 1000) 32)
    let m := m.put F.CLV_GNOW_G 0 (((List.range 64).map (fun c => (m.chan c).gain)).foldl min 32768)
    let m := (m.ladderTick bins).limiterTick bins
    let m := if m.stepInForce 5 && !was then m.alert 0 none else m
    let m := m.each allPhases (fun p m => (m.heatStep mem p).heatAct p)
    let m := m.each allRails (fun r m => m.railHeatLimit r)
    let m := m.cloveRequest mem
    { m with free := m.free + 1 }

end Sys2Proof.Machine
end

