-- ==== Sys2Proof/Machine/Adc.lean ====
section
/-! DEFINITION. Sensing: results, sequences, triggers, background calibration (R271 to R290, R300). -/
namespace Sys2Proof.Machine

def Part.sliceGroup (m : Part) (k : Nat) : SliceGroup := m.adc.groups.get {} k
def Part.setSliceGroup (m : Part) (k : Nat) (x : SliceGroup) : Part :=
  { m with adc := { m.adc with groups := m.adc.groups.set {} k x } }

def srcSlice (i : Nat) : Nat := srcOf 5 i
def srcPoint (s : Nat) : Nat := srcOf 5 (0x100 + s)
def srcMonitor (k : Nat) : Nat := srcOf 5 (0x200 + k)

/-! ## Sequences (R274, R278, R279) -/

/-- Words discarded after a restart: 2 with the FIR bypassed, 33 with it on. -/
def dropWords (fir : Bool) : Nat := if fir then 33 else 2

/-- MUX input and repeats of a regular entry. -/
def Part.regMux (m : Part) (s e : Nat) : Nat := m.get F.ADC_RSEQ_ENTRY s / 2 ^ (8 * e + 6) % 4
def Part.regReps (m : Part) (s e : Nat) : Nat := m.get F.ADC_RSEQ_ENTRY s / 2 ^ (8 * e) % 64 + 1

/-- MUX input of an injected entry under its ISEQ word. -/
def injMux (w : Word) (e : Nat) : Nat := fieldOf w F.ADC_ISEQ_MUX / 2 ^ (2 * e) % 4

/-- FIR of the entry in progress. -/
def Part.pointFir (m : Part) (s : Nat) : Bool :=
  match (m.point s).inj with
  | some (_, w) => fieldOf w F.ADC_ISEQ_FIR = 1
  | none => m.is F.ADC_SPCFG_FIR s

/-- Input of the entry in progress. -/
def Part.pointMux (m : Part) (s : Nat) : Nat :=
  match (m.point s).inj with
  | some (e, w) => injMux w e
  | none => m.regMux s (m.point s).entry

/-- A handover runs on the position of the sense point (R284). -/
def Part.inHandover (m : Part) (s : Nat) : Bool :=
  match (m.sliceGroup (s / 8)).step with
  | some h => h.pos = s % 8
  | none => false

/-- The slice of a sense point restarts, and in a handover the spare with it, in lockstep: their histories are cleared, and the words up
to the first whose window lies wholly after the restart are discarded (R274, R276, R284). -/
def Part.restartPoint (m : Part) (s : Nat) : Part :=
  let n := dropWords (m.pointFir s)
  let m := m.setPoint s { m.point s with drop := n, bad := 0, unready := !m.is F.ADC_STAT_REFRDY 0 }
  let g := m.sliceGroup (s / 8)
  let m := if m.inHandover s then m.setSliceGroup (s / 8) { g with step := g.step.map (fun h => { h with drop := n }) } else m
  (m.put F.ADC_SPSTAT_SETTLE s 1).put F.ADC_SPSTAT_ENTRY s (m.point s).entry

/-- The reference stops being ready (R276, R289). -/
def Part.referenceLost (m : Part) : Part :=
  (m.put F.ADC_STAT_REFRDY 0 0).each (List.range 64) (fun s m => m.setPoint s { m.point s with unready := true })

/-- What REFOUT carries: the buffered bandgap while REFOE is 1 and the bandgap is selected, else nothing (R289). -/
inductive RefOut where
  | bandgap | highZ
deriving DecidableEq, Repr

def Part.refout (m : Part) : RefOut :=
  if m.is F.ADC_CTRL_REFOE 0 && m.get F.ADC_CTRL_REFSEL 0 = 0 then .bandgap else .highZ

/-- The slice that serves a position, and whether a sense point has one. -/
def Part.servingSlice (m : Part) (s : Nat) : Option Nat :=
  let j := m.get F.ADC_GMAP_MAP (s / 8) / 2 ^ (4 * (s % 8)) % 16
  if j = 15 then none else some (9 * (s / 8) + j)

/-- A handover on the position restarts from its first step (R283, R288). -/
def Part.restartHandover (m : Part) (s : Nat) : Part :=
  if m.inHandover s then
    (m.setSliceGroup (s / 8) { m.sliceGroup (s / 8) with step := some { pos := s % 8, drop := 0 } }).restartPoint s
  else m

/-- An injected sequence starts (R279). -/
def Part.startInjected (m : Part) (s : Nat) : Part :=
  let m := m.setPoint s { m.point s with inj := some (0, m.word (R.ADC_ISEQ.addr s)) }
  (m.put F.ADC_SPSTAT_IACT s 1).restartPoint s

/-- Number of the modulator clock, TBCLK/2 (R273). -/
def Part.modClock (m : Part) : Nat := m.tb.ticks / 2

/-- A trigger reaches a sense point, from software or not: it starts, waits as pending, or is dropped (R279, R281). A software and a
hardware trigger of one modulator clock are one (R283). -/
def Part.trigger1 (m : Part) (s : Nat) (soft : Bool) : Part :=
  if !m.is F.ADC_CTRL_EN 0 || (m.point s).trig = some (m.modClock, !soft) then m
  else
    let m := m.setPoint s { m.point s with trig := some (m.modClock, soft) }
    if (m.point s).inj.isNone then m.startInjected s
    else if !m.is F.ADC_SPSTAT_IPEND s then m.put F.ADC_SPSTAT_IPEND s 1
    else (m.put F.ADC_SPSTAT_INJOVR s 1).put F.ADC_STAT_INJOVR 0 1

/-- A hardware trigger of a sense point: its own source, or its group's, is a PWM event or a monitor (R280, R282). -/
def Part.injectedTrigger (m : Part) (s : Nat) : Part :=
  let src := if m.is F.ADC_GTRIG_EN (s / 8) then m.get F.ADC_GTRIG_TSRC (s / 8) else m.get F.ADC_ISEQ_TSRC s
  if 2 ≤ src then m.trigger1 s false else m

/-- Every sense point whose trigger is source `src` with selector `sel` (R280, R282). -/
def Part.triggerAll (m : Part) (src sel : Nat) : Part :=
  m.each (List.range 64) (fun s m =>
    let g := s / 8
    let hit := if m.is F.ADC_GTRIG_EN g then m.get F.ADC_GTRIG_TSRC g = src && m.get F.ADC_GTRIG_TSEL g = sel
      else m.get F.ADC_ISEQ_TSRC s = src && m.get F.ADC_ISEQ_TSEL s = sel
    if hit then m.trigger1 s false else m)

/-- The group trigger restarts all eight positions (R282). -/
def Part.groupTrigger (m : Part) (g : Nat) : Part :=
  m.each (List.range 8) (fun j m => m.trigger1 (8 * g + j) true)

/-! ## Results (R275 to R277) -/

/-- A result word. -/
def resultWord (valid ovr : Bool) (seq mux : Nat) (code : Int) : Word :=
  BitVec.ofNat 32 ((if valid then 2 ^ 31 else 0) + seq % 8 * 2 ^ 28 + (if ovr then 2 ^ 26 else 0) + mux * 2 ^ 24 + ofSigned 24 code)

/-- Write a result register: its SEQ advances. -/
def Part.putResult (m : Part) (a : Nat) (valid ovr : Bool) (mux : Nat) (code : Int) : Part :=
  m.setWord a (resultWord valid ovr (bitsOf (m.word a) 28 3 + 1) mux code)

def resAddr (s k : Nat) : Nat := R.ADC_RES0.base + 0x40 * s + 4 * k
def injAddr (s e : Nat) : Nat := R.ADC_INJR0.base + 0x40 * s + 4 * e

/-- A slice of the group is being calibrated: it owns the test DAC (R285). -/
def Part.calibrating (m : Part) (k : Nat) : Bool := (List.range 9).any (fun j => m.get F.ADC_SL_STATE (9 * k + j) = 2)

/-- A valid result reaches what presents it: VRAIL or VBUS, the AUX value, the group's temperature, whose conversion uses
trim stored at test and is free (R277, log entry 29). -/
def Part.presentResult (m : Part) (s mux : Nat) (ovr : Bool) (code : Int) : Part :=
  match mux with
  | 0 =>
    let m := m.setPoint s { m.point s with code := code, rv := m.codeRV s code, lastValid := m.tb.ticks }
    let m := m.put F.ADC_SPSTAT_STALE s 0
    if s = 63 then { m with clv := { m.clv with noBus := false } } else m
  | 1 =>
    let n := s % 16
    let m := m.putResult (R.ADC_AUX.addr n) true ovr 1 code
    { m with adc := { m.adc with auxTime := m.adc.auxTime.set 0 n m.tb.ticks } }
  | 3 =>
    let (t, m) := m.freeWord
    (m.put F.ADC_TEMP_T (s / 8) (bitsOf t 0 16)).put F.ADC_TEMP_VALID (s / 8) 1
  | _ => m

/-- The next entry after a kept word: of the injected sequence, of a pending one, or of the regular sequence (R278, R279,
R281). -/
def Part.nextEntry (m : Part) (s : Nat) : Part :=
  let x := m.point s
  match x.inj with
  | some (e, w) =>
    if e < fieldOf w F.ADC_ISEQ_NINJ then
      let m := m.setPoint s { x with inj := some (e + 1, w) }
      if injMux w (e + 1) = injMux w e then m else m.restartPoint s
    else
      let m := if m.is F.ADC_SPSTAT_IDONE s then m else m.dmaTrigger 5 s
      let m := (m.put F.ADC_SPSTAT_IDONE s 1).put F.ADC_SPSTAT_IACT s 0
      let m := m.setPoint s { x with inj := none }
      let m := m.restartHandover s
      if m.is F.ADC_SPSTAT_IPEND s then (m.put F.ADC_SPSTAT_IPEND s 0).startInjected s else m.restartPoint s
  | none =>
    if x.done + 1 < m.regReps s x.entry then m.setPoint s { x with done := x.done + 1 }
    else
      let e := if x.entry < m.get F.ADC_SPCFG_NREG s then x.entry + 1 else 0
      let old := m.regMux s x.entry
      let m := m.setPoint s { x with entry := e, done := 0 }
      let m := m.put F.ADC_SPSTAT_ENTRY s e
      if m.regMux s e = old then m else m.restartPoint s

/-- A kept word becomes a result; that of an injected entry on the test DAC is not valid while calibration owns it (R283). -/
def Part.keepWord (m : Part) (s : Nat) (code : Int) (ovr : Bool) (valid : Bool) : Part :=
  let x := m.point s
  let mux := m.pointMux s
  let valid := valid && !(mux = 2 && x.inj.isSome && m.calibrating (s / 8))
  let m := m.put F.ADC_SPSTAT_SETTLE s 0
  let m := match x.inj with
    | some (e, _) => m.putResult (injAddr s e) valid ovr mux code
    | none => m.putResult (resAddr s mux) valid ovr mux code
  let m := if ovr then (m.put F.ADC_SPSTAT_OVR s 1).put F.ADC_STAT_OVR 0 1 else m
  let m := if valid then m.presentResult s mux ovr code else m
  m.nextEntry s

/-- A word of the slice that serves a sense point: discarded while it settles, else a result; a slice group that is powered
down gives no valid one (R274, R276, R456). A word's filter window holds the stretch since the word before it and as many before that
as a restart discards words, so a moment without reference spoils that word and as many after it. -/
def Part.serveWord (m : Part) (s : Nat) (code : Int) (ovr : Bool) : Part :=
  let x := m.point s
  let rdy := m.is F.ADC_STAT_REFRDY 0
  let bad := if x.unready || !rdy then dropWords (m.pointFir s) + 1 else x.bad
  let m := m.setPoint s { x with bad := bad - 1, unready := !rdy, drop := x.drop - 1 }
  if 0 < x.drop then m else m.keepWord s code ovr (bad = 0 && !m.domainOff (8 + s / 8))

/-! ## Rotation, handover and calibration (R284 to R288) -/

/-- Begin a rotation step of a group on a position (R284). -/
def Part.beginStep (m : Part) (k j : Nat) : Part :=
  let s := 8 * k + j
  let m := m.restartPoint s
  let m := m.setSliceGroup k { m.sliceGroup k with
    next := (j + 1) % 8, due := false, step := some { pos := j, drop := dropWords (m.pointFir s) } }
  m.put F.ADC_GSTAT_CALPOS k j

/-- The group can take a rotation step now: it has a spare, and no step or calibration is under way. -/
def Part.stepFree (m : Part) (k : Nat) : Bool :=
  m.get F.ADC_GSTAT_SPARE k != 15 && (m.sliceGroup k).step.isNone && !m.calibrating k

/-- A rotation step that is due starts while EN and CALEN are 1, unless Clove defers it (R255, R284). -/
def Part.rotateIfDue (m : Part) (k : Nat) : Part :=
  if m.is F.ADC_CTRL_EN 0 && m.is F.ADC_CTRL_CALEN 0 && (m.sliceGroup k).due && m.stepFree k && m.adc.sweep.isNone && !m.stepInForce 1 then m.beginStep k (m.sliceGroup k).next else m

/-- INT has passed: each group with a spare has a step due (R284). -/
def Part.rotationDue (m : Part) : Part :=
  if !m.is F.ADC_CTRL_EN 0 || !m.is F.ADC_CTRL_CALEN 0 then m
  else m.each (List.range 8) (fun k m =>
    if m.get F.ADC_GSTAT_SPARE k = 15 then m
    else (m.setSliceGroup k { m.sliceGroup k with due := true }).rotateIfDue k)

/-- Put the state and the sense point of a slice. -/
def Part.setSlice (m : Part) (i st sp : Nat) : Part := (m.put F.ADC_SL_STATE i st).put F.ADC_SL_SP i sp

/-- Sixteen kept words of both: the means are compared and the spare becomes the serving slice (R284). -/
def Part.handover (m : Part) (k : Nat) (h : Handover) : Part :=
  let s := 8 * k + h.pos
  let spare := m.get F.ADC_GSTAT_SPARE k
  let m := m.setSliceGroup k { m.sliceGroup k with step := none }
  let m := if 16 * 256 * m.get F.ADC_CALCFG_MATCH 0 < (h.sumServe - h.sumSpare).natAbs then
      let m := m.put F.ADC_STAT_MISMATCH 0 1
      m.event (codeOf 12 2) (srcPoint s) 0 (m.word R.ADC_STAT.base).toNat
    else m
  let old := m.get F.ADC_GMAP_MAP k / 2 ^ (4 * h.pos) % 16
  let map := m.get F.ADC_GMAP_MAP k - old * 2 ^ (4 * h.pos) + spare * 2 ^ (4 * h.pos)
  let m := (m.put F.ADC_GMAP_MAP k map).put F.ADC_GSTAT_SPARE k 15
  (m.setSlice (9 * k + spare) 0 s).setSlice (9 * k + old) 2 127

/-- A word of either slice in a handover counts towards its 16 kept words. -/
def Part.handoverWord (m : Part) (k : Nat) (spare : Bool) (code : Int) : Part :=
  match (m.sliceGroup k).step with
  | none => m
  | some h =>
    if spare && 0 < h.drop then m.setSliceGroup k { m.sliceGroup k with step := some { h with drop := h.drop - 1 } }
    else
      let h := if spare then (if h.nSpare < 16 then { h with nSpare := h.nSpare + 1, sumSpare := h.sumSpare + code } else h)
        else (if h.nServe < 16 then { h with nServe := h.nServe + 1, sumServe := h.sumServe + code } else h)
      if h.nServe = 16 && h.nSpare = 16 then m.handover k h
      else m.setSliceGroup k { m.sliceGroup k with step := some h }

def Part.sliceCal (m : Part) (i : Nat) : SliceCal := m.adc.cal.get {} i

/-- A slice's word after its corrections, rounded half to even: less the offset, by the gain error (R275, R285; DEDUCED, log entry
121). -/
def Part.corrected (m : Part) (i : Nat) (raw : Int) : Int :=
  let x := m.sliceCal i
  roundHalfEven ((raw - x.ofs) * 1000000) (1000000 + x.gain).toNat

/-- ADC_WORD: slice `i` delivers a word, which its corrections turn into the code; one that the code cannot hold saturates and carries
OVR (R273 to R275). -/
def Part.adcWord (m : Part) (i : Nat) (code : BitVec 24) (sat : Bool) : Part :=
  if !m.is F.ADC_CTRL_EN 0 then m
  else
    let top : Int := 2 ^ 23 - 1
    let x := m.corrected i code.toInt
    let c := if sat then (if code.toInt < 0 then -top else top) else clampInt (-top) top x
    let ovr := sat || decide (x < -top) || decide (top < x)
    let k := i / 9
    let st := m.get F.ADC_SL_STATE i
    if st = 0 then
      let s := m.get F.ADC_SL_SP i
      let kept := (m.point s).drop = 0 && (m.point s).inj.isNone
      let m := m.serveWord s c ovr
      if kept && m.inHandover s then m.handoverWord k false c else m
    else if st = 1 then
      match (m.sliceGroup k).step with
      | some h => if (m.point (8 * k + h.pos)).inj.isNone then m.handoverWord k true c else m
      | none => m
    else m

/-- Loss of sensing of a point that a rail regulates or discharges by, or of SP63 (R286, R290). -/
def Part.senseLoss (m : Part) (s : Nat) : Part := m.raise 0xB000 s (m.policy 9) (srcPoint s)

/-- A sense point has no slice left: every result of it carries VALID = 0 (R286). -/
def Part.resultsInvalid (m : Part) (s : Nat) : Part :=
  m.each (List.range 4) (fun k m =>
    let off := fun (m : Part) (a : Nat) => m.setWord a (m.word a &&& 0x7FFFFFFF)
    off (off m (resAddr s k)) (injAddr s k))

/-- A slice is retired (R286). -/
def Part.retireSlice (m : Part) (i : Nat) (ofs gain : Int) : Part :=
  let k := i / 9
  let j := i % 9
  let old := m.get F.ADC_SL_STATE i
  let m := m.setSlice i 3 127
  let m := (m.put F.ADC_STAT_RETIRE 0 1).putBit F.ADC_GSTAT_RET k j true
  let m := m.event (codeOf 12 1) (srcSlice i) (old * 256 + 3) (ofSigned 32 ofs) (ofSigned 32 gain)
  let noSpare := fun (m : Part) => ((m.put F.ADC_GSTAT_SPARE k 15).put F.ADC_STAT_NOSPARE 0 1).raise 0xB001 63 1 (srcSlice i)
  if old = 0 then
    let pos := ((List.range 8).find? (fun p => m.get F.ADC_GMAP_MAP k / 2 ^ (4 * p) % 16 = j)).getD 0
    let s := 8 * k + pos
    let sp := m.get F.ADC_GSTAT_SPARE k
    let m := m.setSliceGroup k { m.sliceGroup k with step := none }
    let m := m.put F.ADC_GSTAT_CALPOS k 15
    let map := m.get F.ADC_GMAP_MAP k - j * 2 ^ (4 * pos) + sp * 2 ^ (4 * pos)
    let m := m.put F.ADC_GMAP_MAP k map
    if sp = 15 then (m.resultsInvalid s).senseLoss s
    else noSpare ((m.setSlice (9 * k + sp) 0 s).restartPoint s)
  else
    let m := m.setSliceGroup k { m.sliceGroup k with step := none, due := false }
    noSpare (m.put F.ADC_GSTAT_CALPOS k 15)

/-- The calibration passes: offset, gain and linearity within their limits (R285). Offset in codes, gain error and the
worst test-DAC point in ppm. -/
def Part.calPasses (m : Part) (ofs gain : Int) (lin : Nat) : Bool :=
  decide (ofs.natAbs ≤ 256 * m.get F.ADC_CALCFG_OFSMAX 0) && decide (gain.natAbs ≤ 100 * m.get F.ADC_CALCFG_GAINMAX 0) &&
    decide (lin ≤ 100 * m.get F.ADC_CALCFG_GAINMAX 0)

/-! ### The sweep (R287) -/

/-- Items of the sweep completed: nine per group done, and the slices of the present group. -/
def sweepDone (g step : Nat) : Nat := 9 * g + step

/-- A rotation step or a calibration of the group is under way. -/
def Part.groupBusy (m : Part) (g : Nat) : Bool := m.calibrating g || (m.sliceGroup g).step.isSome

/-- The slice that the group calibrates, or is about to. -/
def Part.busySlice (m : Part) (g : Nat) : Nat :=
  match (List.range 9).find? (fun j => m.get F.ADC_SL_STATE (9 * g + j) = 2) with
  | some j => 9 * g + j
  | none => match (m.sliceGroup g).step with
    | some h => 9 * g + m.get F.ADC_GMAP_MAP g / 2 ^ (4 * h.pos) % 16
    | none => 9 * g

/-- The next slice of the sweep: the spare first, then the rotation steps. Retired slices count as completed; in a group without a spare
the steps go on, and each is done at once, as there is nothing to take the position over (R288; DESIGN CHOICE, log entry 122). A step that the group had under way ends first, and the slice it calibrates counts as the spare's
calibration (R288). -/
def Part.sweepNext (m : Part) (g step : Nat) : Nat → Part
  | 0 => m
  | n + 1 =>
    if 8 ≤ g then
      let m := { m with adc := { m.adc with sweep := none } }
      let m := m.setProg R.ADC_PROG (m.get F.ADC_PROG_ITEM 0) 72 72
      let m := ((m.put F.ADC_CTRL_SWEEP 0 0).put F.ADC_STAT_SWBUSY 0 0).put F.ADC_STAT_SDONE 0 1
      m.each (List.range 8) (fun k m => m.rotateIfDue k)
    else if step = 0 && m.groupBusy g then
      { m.setProg R.ADC_PROG (m.busySlice g) (sweepDone g step) 72 with adc := { m.adc with sweep := some (g, step) } }
    else if 9 ≤ step then m.sweepNext (g + 1) 0 n
    else if m.get F.ADC_GSTAT_SPARE g = 15 then
      let item := if step = 0 then 8 else m.get F.ADC_GMAP_MAP g / 2 ^ (4 * (step - 1)) % 16
      (m.setProg R.ADC_PROG (if item = 15 then m.get F.ADC_PROG_ITEM 0 else 9 * g + item) (sweepDone g (step + 1)) 72).sweepNext g (step + 1) n
    else
      let spare := m.get F.ADC_GSTAT_SPARE g
      let m := { m with adc := { m.adc with sweep := some (g, step) } }
      if step = 0 then
        (m.setProg R.ADC_PROG (9 * g + spare) (sweepDone g step) 72).setSlice (9 * g + spare) 2 127 |>.put F.ADC_GSTAT_SPARE g 15
      else
        let old := m.get F.ADC_GMAP_MAP g / 2 ^ (4 * (step - 1)) % 16
        (m.setProg R.ADC_PROG (9 * g + old) (sweepDone g step) 72).beginStep g (step - 1)

/-- A sweep starts; a step under way in a group ends first (R287, R288). -/
def Part.startSweep (m : Part) : Part :=
  if m.adc.sweep.isSome || !m.is F.ADC_CTRL_EN 0 then m
  else
    let m := (m.put F.ADC_CTRL_SWEEP 0 1).put F.ADC_STAT_SWBUSY 0 1
    (m.setProg R.ADC_PROG 0 0 72).sweepNext 0 0 128

/-- A sweep is aborted (R41, R287). -/
def Part.abortSweep (m : Part) : Part :=
  if m.adc.sweep.isNone then m
  else ({ m with adc := { m.adc with sweep := none } }.put F.ADC_CTRL_SWEEP 0 0).put F.ADC_STAT_SWBUSY 0 0

/-- CALIBRATION_DONE: the slice becomes the spare, or is retired; while the reference is not ready it is repeated (R285,
R286, R288). -/
def Part.calibrationDone (m : Part) (i : Nat) (ofs gain : Int) (lin : Nat) : Part :=
  if m.get F.ADC_SL_STATE i != 2 || !m.is F.ADC_STAT_REFRDY 0 then m
  else
    let k := i / 9
    let m := (m.put F.ADC_SL_OFSE i (ofSigned 8 (satS 8 (ofs / 256)))).put F.ADC_SL_GERR i (ofSigned 8 (satS 8 (gain / 10)))
    let m := if m.calPasses ofs gain lin then
        let m := ((m.setSlice i 1 127).put F.ADC_GSTAT_SPARE k (i % 9)).put F.ADC_GSTAT_CALPOS k 15
        { m with adc := { m.adc with cal := m.adc.cal.set {} i { ofs := ofs, gain := gain } } }
      else m.retireSlice i ofs gain
    let m := match (m.sliceGroup k).tdac with
      | some c => (m.setSliceGroup k { m.sliceGroup k with tdac := none }).put F.ADC_TDAC_CODE k c
      | none => m
    match m.adc.sweep with
    | some (g, step) => if g = k then m.sweepNext g (step + 1) 128 else m
    | none => m.rotateIfDue k

/-- SENSE_STALE: the newest valid MUX 0 result becomes older than SNS_T (R290). -/
def Part.senseStale (m : Part) (s : Nat) : Part :=
  let was := m.is F.ADC_SPSTAT_STALE s
  let m := m.put F.ADC_SPSTAT_STALE s 1
  if !was && s < 63 && (m.regulating s || m.railState s = railDischarge) then m.senseLoss s else m

/-! ## Register writes of the block (R289, R300) -/

/-- TSRC and TSEL name a trigger of R280. -/
def validTrigger (src sel : Nat) : Bool :=
  match src with
  | 2 => true
  | 3 => decide (sel < 96)
  | _ => decide (sel = 0)

/-- The rail of a sense point is in OFF; for SP63 every rail. -/
def Part.pointIdle (m : Part) (s : Nat) : Bool := if s = 63 then m.allOff else m.railState s = railOff

/-- A write is refused under a field's description. -/
def Part.adcRefuses (m : Part) (a : Nat) (v : Word) : Bool :=
  if a = R.ADC_CTRL.base then
    fieldOf v F.ADC_CTRL_SNS_T = 0 || fieldOf v F.ADC_CTRL_REFSEL = 3 ||
      (m.changes F.ADC_CTRL_REFSEL 0 v && !m.allOff) || (fieldOf v F.ADC_CTRL_EN = 0 && !m.allOff)
  else if a = R.ADC_CALCFG.base then fieldOf v F.ADC_CALCFG_INT = 0
  else if R.ADC_GTRIG.covers a then !validTrigger (fieldOf v F.ADC_GTRIG_TSRC) (fieldOf v F.ADC_GTRIG_TSEL)
  else if R.ADC_SPCFG.covers a then
    let s := R.ADC_SPCFG.inst a
    fieldOf v F.ADC_SPCFG_OSR = 7 || ((m.changes F.ADC_SPCFG_FIR s v || m.changes F.ADC_SPCFG_OSR s v ||
      m.changes F.ADC_SPCFG_NREG s v) && !m.pointIdle s)
  else if R.ADC_RSEQ.covers a then !m.pointIdle (R.ADC_RSEQ.inst a)
  else if R.ADC_ISEQ.covers a then
    fieldOf v F.ADC_ISEQ_OSR = 7 || !validTrigger (fieldOf v F.ADC_ISEQ_TSRC) (fieldOf v F.ADC_ISEQ_TSEL)
  else false

/-- The regular configuration of a sense point has been written: the sequence restarts at entry 0. The slice restarts where its input
or, as `filter` says, its filter changes, or a handover starts anew (R274, R288); a running injected sequence goes on. -/
def Part.restartSequence (m : Part) (s old : Nat) (filter : Bool) : Part :=
  let m := (m.setPoint s { m.point s with entry := 0, done := 0 }).put F.ADC_SPSTAT_ENTRY s 0
  if (m.point s).inj.isSome then m
  else if m.inHandover s then m.restartHandover s
  else if filter || m.regMux s 0 != old then m.restartPoint s
  else m

/-- An accepted write. -/
def Part.adcAccept (m : Part) (a : Nat) (v : Word) : Part :=
  if a = R.ADC_CTRL.base then
    let ref := m.changes F.ADC_CTRL_REFSEL 0 v
    let sweep := fieldOf v F.ADC_CTRL_SWEEP = 1
    let was := m.is F.ADC_CTRL_SWEEP 0
    let starts := !m.is F.ADC_CTRL_EN 0 && fieldOf v F.ADC_CTRL_EN = 1
    let m := (m.plainWrite a v).put F.ADC_CTRL_SWEEP 0 (if was then 1 else 0)
    let m := if ref then m.referenceLost else m
    let m := if starts then m.each (List.range 64) (fun s m =>
        m.setPoint s { m.point s with unready := !m.is F.ADC_STAT_REFRDY 0 }) else m
    let m := if m.is F.ADC_CTRL_EN 0 then m else m.abortSweep
    let m := if m.is F.ADC_CTRL_EN 0 && m.is F.ADC_CTRL_CALEN 0 then m
      else m.each (List.range 8) (fun k m => m.setSliceGroup k { m.sliceGroup k with due := false })
    if sweep then m.startSweep else m
  else if R.ADC_GTRIG.covers a then
    let m := (m.plainWrite a v).put F.ADC_GTRIG_SW (R.ADC_GTRIG.inst a) 0
    if fieldOf v F.ADC_GTRIG_SW = 1 then m.groupTrigger (R.ADC_GTRIG.inst a) else m
  else if R.ADC_TDAC.covers a then
    let k := R.ADC_TDAC.inst a
    if m.calibrating k then m.setSliceGroup k { m.sliceGroup k with tdac := some (fieldOf v F.ADC_TDAC_CODE) }
    else m.plainWrite a v
  else if R.ADC_SPCFG.covers a then
    let s := R.ADC_SPCFG.inst a
    let filter := m.changes F.ADC_SPCFG_FIR s v || m.changes F.ADC_SPCFG_OSR s v
    let new := filter || m.changes F.ADC_SPCFG_NREG s v
    let old := m.regMux s (m.point s).entry
    let m := (m.plainWrite a v).put F.ADC_SPCFG_SWTRIG s 0
    let m := if new then m.restartSequence s old filter else m
    if fieldOf v F.ADC_SPCFG_SWTRIG = 1 then m.trigger1 s true else m
  else if R.ADC_RSEQ.covers a then
    let s := R.ADC_RSEQ.inst a
    (m.plainWrite a v).restartSequence s (m.regMux s (m.point s).entry) false
  else m.plainWrite a v

/-- A fabric write to a register of the ADC block. -/
def Part.writeADC (m : Part) (i : Initiator) (a : Nat) (v : Word) : Part :=
  if m.adcRefuses a v then m.refuse F.ADC_STAT_REFUSED i a v else m.adcAccept a v

/-! ## The rows -/

def execAdcWord (i : Fin 72) (code : BitVec 24) (sat : Bool) (s : State) : Out := .next (s.lift (fun m => m.adcWord i code sat))
def execInjectedTrigger (p : Fin 64) (s : State) : Out := .next (s.lift (fun m => m.injectedTrigger p))

/-- A write of 1 to ADC_SPCFG.SWTRIG with every other field at its present value (R280). -/
def execSwtrig (i : Initiator) (p : Fin 64) (s : State) : Out :=
  .next (s.lift (fun m => m.writeADC i (R.ADC_SPCFG.addr p) (m.word (R.ADC_SPCFG.addr p) ||| 0x80000000)))

/-- A write of 1 to ADC_GTRIG.SW with every other field at its present value (R282). -/
def execGroupTrigger (i : Initiator) (g : Fin 8) (s : State) : Out :=
  .next (s.lift (fun m => m.writeADC i (R.ADC_GTRIG.addr g) (m.word (R.ADC_GTRIG.addr g) ||| 0x40000000)))

def execRotationStep (s : State) : Out := .next (s.lift Part.rotationDue)
def execCalibrationDone (i : Fin 72) (ofs gain : Int) (lin : Nat) (s : State) : Out :=
  .next (s.lift (fun m => m.calibrationDone i ofs gain lin))

/-- A write of 1 to ADC_CTRL.SWEEP with every other field at its present value (R287). -/
def execCalibrationSweep (i : Initiator) (s : State) : Out :=
  .next (s.lift (fun m => m.writeADC i R.ADC_CTRL.base (m.word R.ADC_CTRL.base ||| 4)))

def execReferenceSettled (s : State) : Out := .next (s.lift (fun m => m.put F.ADC_STAT_REFRDY 0 1))
def execSenseStale (p : Fin 64) (s : State) : Out := .next (s.lift (fun m => m.senseStale p))

end Sys2Proof.Machine
end

