-- ==== Sys2Proof/Machine/Monitors.lean ====
section
/-! DEFINITION. Window monitors: samples, filter, latch, activation, supervision (R291 to R299). -/
namespace Sys2Proof.Machine

def Part.monitor (m : Part) (k : Nat) : Monitor := m.adc.monitors.get {} k
def Part.setMonitor (m : Part) (k : Nat) (x : Monitor) : Part :=
  { m with adc := { m.adc with monitors := m.adc.monitors.set {} k x } }

/-- The comparator's sample for an input in 1/256 of a threshold code; `act` chooses the column of R292, `h` the hysteresis in
codes. -/
def Part.compare (m : Part) (k : Nat) (act : Bool) (h : Nat) (x : Int) : Bool :=
  let th : Int := 256 * m.get F.WMON_THR_TH k
  let tl : Int := 256 * m.get F.WMON_THR_TL k
  let h : Int := 256 * h
  match m.get F.WMON_CFG_MODE k, act with
  | 0, false => decide (th < x)
  | 0, true => decide (th - h < x)
  | 1, false => decide (x < tl)
  | 1, true => decide (x < tl + h)
  | 2, false => decide (th < x) || decide (x < tl)
  | 2, true => decide (th - h < x) || decide (x < tl + h)
  | _, false => decide (tl ≤ x) && decide (x ≤ th)
  | _, true => decide (tl - h ≤ x) && decide (x ≤ th + h)

/-- The majority of the last `n` samples (R293). After NFILT has been raised there may be fewer samples since the enable: those missing
count as inactive (DESIGN CHOICE, log entry 123). -/
def majority (n : Nat) (l : List Bool) : Bool := decide (n < 2 * ((l.take n).filter id).length)

/-- OUT goes from 0 to 1: counted, a trip, a fault, a trigger (R295, R296). -/
def Part.monitorActivates (m : Part) (k : Nat) : Part :=
  let m := (m.put F.WMON_ST_OUT k 1).bump F.WMON_ST_HITS k
  let m := m.put F.WMON_STAT_HIT 0 1
  let m := if m.is F.WMON_CFG_TRIPEN k then m.tripsAct else m
  let m := if m.is F.WMON_CFG_FLTEN k then
      m.raise 0xB400 (m.get F.WMON_CFG_RAIL k) (m.get F.WMON_CFG_SEV k) (srcMonitor k)
    else m
  m.triggerAll 3 k

/-- OUT clears. -/
def Part.clearOut (m : Part) (k : Nat) : Part := (m.put F.WMON_ST_OUT k 0).put F.WMON_ST_ARMED k 0

/-- Number of the sample, at TBCLK/4 (R293). -/
def Part.sampleNo (m : Part) : Nat := m.tb.ticks / 4

/-- A clear written in the sample in which the filtered output goes active: the activation prevails, OUT is as it was, and the clear is
refused, or held in REARM (R295, R299). -/
def Part.clearUndone (m : Part) (k : Nat) : Part :=
  match (m.monitor k).clearAt with
  | none => m
  | some (n, cleared) =>
    let mode := m.get F.WMON_CFG_LMODE k
    if n != m.sampleNo || mode = 3 then m
    else
      let m := if cleared then m.put F.WMON_ST_OUT k 1 else m
      if mode = 1 then m.put F.WMON_ST_ARMED k 1 else m.put F.WMON_ST_STILL k 1

/-- The filtered output takes a value: it sets the latch, and clears it in FOLLOW and in a held REARM (R295). -/
def Part.setFiltered (m : Part) (k : Nat) (v : Bool) : Part :=
  let old := m.is F.WMON_ST_FILT k
  let m := if v && !old then m.clearUndone k else m
  let m := m.put F.WMON_ST_FILT k (if v then 1 else 0)
  let m := if v then m else m.setMonitor k { m.monitor k with stuck := false }
  if v && !old then
    if m.is F.WMON_ST_OUT k then m else m.monitorActivates k
  else if !v && old && (m.get F.WMON_CFG_LMODE k = 3 || (m.get F.WMON_CFG_LMODE k = 1 && m.is F.WMON_ST_ARMED k)) then
    m.clearOut k
  else m

/-- One sample (R292 to R294, R298). A force ends INIT; transitions count while CHAT_W is not 0, from the second sample on. -/
def Part.monitorSample (m : Part) (k : Nat) (x : Int) : Part :=
  if !m.is F.WMON_CFG_EN k then m
  else
    let y := m.monitor k
    let n := m.get F.WMON_CFG_NFILT k
    let init := decide (0 < y.init) && !y.force
    let raw := if init then m.compare k false 0 x else m.compare k (m.is F.WMON_ST_FILT k) (m.get F.WMON_CFG_HYS k) x
    let samples := (raw :: y.samples).take 15
    let turns := y.raw = some (!raw) && m.get F.WMON_TIM_CHAT_W k != 0
    let m := m.setMonitor k { y with
      samples := samples, init := if y.force then 0 else y.init - 1, raw := some raw, trans := if turns then y.trans + 1 else y.trans }
    if y.force then (m.put F.WMON_ST_INIT k 0).setFiltered k true
    else if 1 < y.init then m
    else (m.put F.WMON_ST_INIT k 0).setFiltered k (majority n samples)

/-- EN is written (R294, R299). -/
def Part.enableMonitor (m : Part) (k : Nat) (on : Bool) : Part :=
  if on then
    let n := m.get F.WMON_CFG_NFILT k
    (m.setMonitor k { init := n }).put F.WMON_ST_INIT k 1
  else
    (((m.setMonitor k {}).put F.WMON_ST_FILT k 0).put F.WMON_ST_INIT k 0).clearOut k

/-- A write of 1 to CLR (R295, R299). -/
def Part.monitorClear (m : Part) (k : Nat) : Part :=
  let cleared := m.is F.WMON_ST_OUT k && !m.is F.WMON_ST_FILT k
  let m := m.setMonitor k { m.monitor k with clearAt := if m.is F.WMON_ST_FILT k then none else some (m.sampleNo, cleared) }
  match m.get F.WMON_CFG_LMODE k with
  | 3 => m
  | 1 =>
    if !m.is F.WMON_ST_OUT k then m
    else if m.is F.WMON_ST_FILT k then m.put F.WMON_ST_ARMED k 1 else m.clearOut k
  | _ => if m.is F.WMON_ST_FILT k then m.put F.WMON_ST_STILL k 1 else m.clearOut k

/-- A ZERO of a phase that switches clears the monitors in PERIOD mode that name it and whose filtered output is inactive (R295, R299). -/
def Part.monitorsAtZero (m : Part) (p : Nat) : Part :=
  if !m.switches p then m
  else m.each (List.range 96) (fun k m =>
    if m.get F.WMON_CFG_LMODE k = 2 && m.get F.WMON_CLR_CLRPH k = p && m.is F.WMON_ST_OUT k && !m.is F.WMON_ST_FILT k then
      m.clearOut k
    else m)

/-- MONITOR_STUCK: the filtered output has been active for STUCK_T ms without a break (R297). -/
def Part.monitorStuck (m : Part) (k : Nat) : Part :=
  let y := m.monitor k
  if m.is F.WMON_CFG_EN k && m.is F.WMON_ST_FILT k && m.get F.WMON_TIM_STUCK_T k != 0 && !y.stuck then
    let m := m.setMonitor k { y with stuck := true }
    ((m.put F.WMON_ST_STUCK k 1).put F.WMON_STAT_STUCK 0 1).raise 0xB401 63 1 (srcMonitor k)
  else m

/-- CHATTER_WINDOW: a window of CHAT_W µs ends (R298). -/
def Part.chatterWindow (m : Part) (k : Nat) : Part :=
  let y := m.monitor k
  if !m.is F.WMON_CFG_EN k || m.get F.WMON_TIM_CHAT_W k = 0 then m
  else
    let over' := decide (m.get F.WMON_TIM_CHATMAX k < y.trans)
    let m := m.setMonitor k { y with trans := 0, force := over' }
    if over' then ((m.put F.WMON_ST_CHATTER k 1).put F.WMON_STAT_CHATTER 0 1).raise 0xB402 63 1 (srcMonitor k) else m

/-- A write is refused under a field's description (R292, R293). -/
def Part.wmonRefuses (m : Part) (a : Nat) (v : Word) : Bool :=
  if R.WMON_CFG.covers a then
    let k := R.WMON_CFG.inst a
    decide (6 ≤ fieldOf v F.WMON_CFG_SEV) || fieldOf v F.WMON_CFG_NFILT % 2 = 0 || decide (fieldOf v F.WMON_CFG_NFILT < 3) ||
      (decide (2 ≤ fieldOf v F.WMON_CFG_MODE) && decide (m.get F.WMON_THR_TH k < m.get F.WMON_THR_TL k))
  else if R.WMON_THR.covers a then
    decide (2 ≤ m.get F.WMON_CFG_MODE (R.WMON_THR.inst a)) && decide (fieldOf v F.WMON_THR_TH < fieldOf v F.WMON_THR_TL)
  else false

/-- A fabric write to a register of the WMON block. -/
def Part.writeWMON (m : Part) (i : Initiator) (a : Nat) (v : Word) : Part :=
  if m.wmonRefuses a v then m.refuse F.WMON_STAT_REFUSED i a v
  else if R.WMON_CFG.covers a then
    let k := R.WMON_CFG.inst a
    let was := m.is F.WMON_CFG_EN k
    let mode := m.get F.WMON_CFG_LMODE k
    let m := m.plainWrite a v
    let m := if m.get F.WMON_CFG_LMODE k = mode then m else m.put F.WMON_ST_ARMED k 0
    let m := if m.is F.WMON_CFG_EN k = was then m else m.enableMonitor k (!was)
    if m.is F.WMON_CFG_TRIPEN k && m.is F.WMON_ST_OUT k then m.tripsAct else m
  else if R.WMON_CLR.covers a then
    let k := R.WMON_CLR.inst a
    let m := m.plainWrite a v
    if fieldOf v F.WMON_CLR_CLR = 1 then m.monitorClear k else m
  else if R.WMON_TIM.covers a then
    let k := R.WMON_TIM.inst a
    let m := m.plainWrite a v
    if m.get F.WMON_TIM_CHAT_W k = 0 then m.setMonitor k { m.monitor k with trans := 0 } else m
  else m.plainWrite a v

/-- WMON_SUM as a read computes it. -/
def Part.monitorSum (m : Part) (j : Nat) : Nat :=
  (List.range 32).foldl (fun acc i => acc + m.get F.WMON_ST_OUT (32 * j + i) * 2 ^ i) 0

/-! ## The rows -/

def execMonitorSample (k : Fin 96) (x : Int) (s : State) : Out := .next (s.lift (fun m => m.monitorSample k x))

/-- A write of WMON_CFG (R294, R299). -/
def execMonitorEnable (i : Initiator) (k : Fin 96) (v : Word) (s : State) : Out :=
  .next (s.lift (fun m => m.writeWMON i (R.WMON_CFG.addr k) v))

/-- A write of WMON_CLR (R295). -/
def execMonitorClear (i : Initiator) (k : Fin 96) (v : Word) (s : State) : Out :=
  .next (s.lift (fun m => m.writeWMON i (R.WMON_CLR.addr k) v))

def execMonitorStuck (k : Fin 96) (s : State) : Out := .next (s.lift (fun m => m.monitorStuck k))
def execChatterWindow (k : Fin 96) (s : State) : Out := .next (s.lift (fun m => m.chatterWindow k))

end Sys2Proof.Machine
end

