-- ==== Sys2Proof/Machine/Pwm.lean ====
section
/-! DEFINITION. Quartz: the timebase, phase counters and their events, shadows, trips, safe state (R155 to R181). -/
namespace Sys2Proof.Machine

/-! ## Snapshot (R161, R163, R165, R168) -/

/-- CMPA of R161 from DUTY and L, with the flags it sets on phase `p`. Where MINOFF exceeds L the rule's limit is negative: CLAMP is set
as the rule says, and the compare, which has no sign, is 0 (DESIGN CHOICE, log entry 119). -/
def Part.computeCmpa (m : Part) (p duty len : Nat) : Nat × Part :=
  let c := (roundHalfEven (duty * len : Nat) 2048).toNat
  let c' := if 0 < c && c < 32 * m.get F.PWM_CFG_MINON p then 0 else c
  let m := if c' = c then m else m.put F.PWM_STAT_SKIP p 1
  let top : Int := 32 * ((len : Int) - m.get F.PWM_CFG_MINOFF p)
  if top < c' then (top.toNat, m.put F.PWM_STAT_CLAMP p 1) else (c', m)

/-- CMPB's tick of R161. -/
def Part.computeCmpb (m : Part) (p cmpa : Nat) : Nat :=
  let v := m.get F.PWM_CMPB_VALUE p
  if m.is F.PWM_CFG_CMPBM p then cmpa * (v % 256) / 8192 else v

/-- The phase has taken the first ZERO at which it switches (R169): until then it has no edges and no events. -/
def Part.pwmRuns (m : Part) (p : Nat) : Bool := m.switches p && !(m.pwmAt p).start

/-- PERIOD at a snapshot: transferred or held (R165). A snapshot before the first switching ZERO takes every write (R166, R239). -/
def Part.transferPeriod (m : Part) (p : Nat) : Nat × Part :=
  let x := m.pwmAt p
  if !x.perNew then (x.period, m)
  else
    let shadow := m.get F.PWM_PERIOD_PERIOD p
    let done := fun (m : Part) => (m.setPwm p { x with perNew := false, perSnaps := 0, dutySince := false }).put F.PWM_PERIOD_HELD p 0
    if !m.pwmRuns p || !m.is F.PWM_CFG_PAIRGUARD p || x.dutySince then (shadow, done m)
    else if 1 ≤ x.perSnaps then (shadow, (done m).put F.PWM_STAT_PAIR_SPLIT p 1)
    else (x.period, (m.setPwm p { x with perSnaps := x.perSnaps + 1 }).put F.PWM_PERIOD_HELD p 1)

/-- DUTY that a snapshot takes: on a LOST lane with DSRC = 0 the feed-forward term, clamped (R203). -/
def Part.dutyTaken (m : Part) (p : Nat) : Nat :=
  let r := m.phRail p
  if m.get F.FLK_LSTAT_STATE (laneOf p) = 5 && !m.is F.PWM_CFG_DSRC p && m.switches p then
    (clampInt (m.get F.RAIL_DLIM_DMIN r) (m.get F.RAIL_DLIM_DMAX r) (ffv (m.bslRail r).vset m.vbus)).toNat
  else m.get F.PWM_DUTY_VALUE p

/-- The snapshot at count L - 2: shadows transfer and the next period is computed. -/
def Part.snapshot (m : Part) (p : Nat) : Part :=
  if !m.is F.PWM_CFG_EN p then m
  else
    let t := m.transferPeriod p
    let per := t.1
    let m := t.2
    let duty := m.dutyTaken p
    let long := if m.originPhase (m.phRail p) = some p then 0 else min (m.pwmAt p).err (per / 8)
    let m := if long = 0 then m else m.put F.PWM_STAT_SLIP p 1
    let c := m.computeCmpa p duty (per + long)
    let m := c.2
    let x := m.pwmAt p
    m.setPwm p { x with
      cnt := m.get F.PWM_ACT_VALUE p - 2, duty := duty, offset := m.get F.PWM_OFFSET_VALUE p, err := x.err - long,
      locked := true, dutyAt := none, nextL := per + long, nextPeriod := per, nextCmpa := c.1, nextCmpb := m.computeCmpb p c.1 }

/-! ## Events and prescalers (R171) -/

/-- One occurrence of event `k` of a phase with prescaler count `n`: the new count, and the flag and the triggers of
the DMA channels where the prescaled event fires. A phase has events, and counts them, from its first switching ZERO on (R169, R171,
R283). -/
def Part.occurrence (m : Part) (p k n : Nat) : Nat × Part :=
  if !m.pwmRuns p then (n, m)
  else if m.get F.PWM_EVC_PS p / 16 ^ k % 16 ≤ n then
    (0, (m.putBit F.PWM_EVF_EVF p k true).dmaTrigger 2 (p + 128 * k))
  else (n + 1, m)

/-- The next period's values come into force at the wrap (R163). -/
def Part.activate (m : Part) (p : Nat) : Part :=
  let x := m.pwmAt p
  if x.locked then
    let m := (m.put F.PWM_ACT_VALUE p x.nextL).put F.PWM_CMPA_VALUE p x.nextCmpa
    m.setPwm p { x with cnt := 0, period := x.nextPeriod, cmpb := x.nextCmpb, locked := false }
  else m.setPwm p { x with cnt := 0 }

/-- A phase that starts switching measures its early error at this ZERO (R169). -/
def Part.startAtZero (m : Part) (p : Nat) : Part :=
  if m.switches p && (m.pwmAt p).start then
    let e := if m.is F.PWM_CFG_SYNC p then m.earlyError p else 0
    m.setPwm p { m.pwmAt p with start := false, err := e }
  else m

/-- A phase that does not switch has its counter set so that its next ZERO falls on its target (R169). -/
def Part.follow (m : Part) (o q : Nat) : Part :=
  let x := m.pwmAt q
  let y := m.pwmAt o
  let d : Int := ((x.offset * x.period / 65536 : Nat) : Int) - (y.offset * y.period / 65536 : Nat)
  let d := (d % (max x.period 1 : Nat)).toNat
  let len := max 1 (m.get F.PWM_ACT_VALUE q)
  m.setPwm q { x with cnt := (len - d % len) % len }

/-- What a ZERO of its origin-defining phase does to a rail (R168, R169). -/
def Part.originZero (m : Part) (p : Nat) : Part :=
  let r := m.phRail p
  if m.originPhase r = some p then
    let x := m.syncAt r
    let div := m.get F.PWM_RSYNC_DIV r
    let due := decide (0 < div) && decide (div ≤ x.zeros + 1)
    let m := m.setSync r { x with zeros := if due then 0 else x.zeros + 1 }
    let m := if due || m.is F.PWM_RSYNC_NOW r then m.railSync r else m
    let m := m.put F.PWM_RSYNC_NOW r 0
    m.each (allPhases.filter (fun q => m.phRail q = r && !m.switches q && m.is F.PWM_CFG_EN q)) (fun q m => m.follow p q)
  else m

/-- Where the falling edge lies, in 1/32 tick after ZERO: at CMPA, or at its whole tick while the delay-locked line has no lock (R159,
R160). -/
def Part.fallAt (m : Part) (p : Nat) : Nat :=
  let c := m.get F.PWM_CMPA_VALUE p
  if m.is F.TB_STAT_DLLLOCK 0 then c else 32 * (c / 32)

/-- The PWM pin at the wrap (R160): high where the falling edge lies after ZERO, with the blanking window of each edge (R174); low on a
lane in safe state (R177). -/
def Part.pinAtZero (m : Part) (p : Nat) : Part :=
  let x := m.pwmAt p
  let pin := decide (0 < m.fallAt p) && !m.laneSafe (laneOf p)
  let win := (pin && !x.pin && decide (0 < m.get F.PWM_BLANK_BLR p)) || (!pin && x.pin && decide (0 < m.get F.PWM_BLANK_BLF p))
  m.setPwm p { x with pin := pin, blank := if win then x.blank + 1 else x.blank }

/-- Trips and the rising edge at ZERO (R160, R175, R176): an active limiting trip suppresses the edge, unblanked. -/
def Part.edgeAtZero (m : Part) (p : Nat) : Part :=
  if !m.switches p then m
  else
    let x := m.pwmAt p
    let m := m.setPwm p { x with limited := false, limitRun := x.limited && x.limitRun }
    if m.guardActive p 1 && x.blank = 0 then m.tripActs p
    else if m.guardActive p 0 then m.limitCycle p
    else m.pinAtZero p

/-- The ZERO event of a phase (R163, R168 to R175, R78, R79, R232, R238, R239). -/
def Part.zeroEvent (m : Part) (p : Nat) : Part :=
  if !m.is F.PWM_CFG_EN p then m
  else
    let m := ((((m.activate p).startAtZero p).originZero p).edgeAtZero p)
    let e := m.occurrence p 0 (m.pwmAt p).psZero
    let m := e.2.setPwm p { e.2.pwmAt p with psZero := e.1 }
    ((m.monitorsAtZero p).triggersAtZero p).poolAtZero p

def Part.periodEvent (m : Part) (p : Nat) : Part :=
  if !m.is F.PWM_CFG_EN p then m
  else
    let e := m.occurrence p 1 (m.pwmAt p).psPeriod
    e.2.setPwm p { e.2.pwmAt p with psPeriod := e.1, cnt := m.get F.PWM_ACT_VALUE p - 1 }

/-- The counter reaches CMPA: the pin falls and the event fires; a CMPA of 0 has none, nor one of 32 × L (R160, R161, R171). -/
def Part.cmpaEvent (m : Part) (p : Nat) : Part :=
  if !m.is F.PWM_CFG_EN p || m.get F.PWM_CMPA_VALUE p = 0 || 32 * m.get F.PWM_ACT_VALUE p ≤ m.get F.PWM_CMPA_VALUE p then m
  else
    let e := m.occurrence p 2 (m.pwmAt p).psCmpa
    let x := e.2.pwmAt p
    let win := x.pin && decide (0 < m.get F.PWM_BLANK_BLF p)
    e.2.setPwm p { x with psCmpa := e.1, cnt := m.get F.PWM_CMPA_VALUE p / 32, pin := false,
                          frac := if x.pin then m.fallAt p % 32 else x.frac,
                          blank := if win then x.blank + 1 else x.blank }

/-- The counter reaches CMPB; a tick beyond the period has no event (R161, R171). -/
def Part.cmpbEvent (m : Part) (p : Nat) : Part :=
  if !m.is F.PWM_CFG_EN p || m.get F.PWM_ACT_VALUE p ≤ (m.pwmAt p).cmpb then m
  else
    let e := m.occurrence p 3 (m.pwmAt p).psCmpb
    let x := e.2.pwmAt p
    e.2.setPwm p { x with psCmpb := e.1, cnt := x.cmpb }

/-- A blanking window closes; a trip still active acts at once (R174). -/
def Part.blankingClose (m : Part) (p : Nat) : Part :=
  let x := m.pwmAt p
  let m := m.setPwm p { x with blank := x.blank - 1 }
  if (m.pwmAt p).blank = 0 then m.tripActs p else m

/-! ## Period and other shadow writes (R162 to R166, R170) -/

/-- PERIOD range of R155 for the selected reference. -/
def Part.periodInRange (m : Part) (v : Nat) : Bool :=
  match m.get F.TB_CFG_RSEL 0 with
  | 0 => decide (197 ≤ v) && decide (v ≤ 4915)
  | 1 => decide (181 ≤ v) && decide (v ≤ 4515)
  | _ => decide (200 ≤ v) && decide (v ≤ 5000)

/-- Phases whose PERIOD write at `addr` waits for admission. -/
def Part.pendingAt (m : Part) (addr : Nat) : List Nat :=
  allPhases.filter (fun p => match (m.pwmAt p).pendPeriod with
    | some x => x.addr = addr
    | none => false)

/-- The pending write of a phase, if any, is over. -/
def Part.clearPend (m : Part) (p : Nat) : Part :=
  (m.setPwm p { m.pwmAt p with pendPeriod := none }).put F.PWM_PERIOD_PEND p 0

/-- A write of a period for some phases at register address `addr`: range, then admission where it raises a switching
frequency, else it lands (R162). A newer write replaces one that admission is deciding (log entry 34). -/
def Part.requestPeriod (m : Part) (i : Initiator) (ps : List Nat) (addr : Nat) (v : Word) : Part :=
  let per := bitsOf v 0 16
  if ps.isEmpty then m
  else if !m.periodInRange per then m.refuse F.PWM_ERR_RANGE i addr v
  else if ps.any (fun p => decide (per < m.admittedPeriod p)) then
    m.each ps (fun p m => (m.setPwm p { m.pwmAt p with pendPeriod := some ⟨per, i, addr⟩ }).put F.PWM_PERIOD_PEND p 1)
  else m.each ps (fun p m => (m.clearPend p).landPeriod p per)

/-- Admission decides a period change (R104, R162). -/
def Part.decidePeriod (m : Part) (addr : Nat) : Part :=
  match m.pendingAt addr with
  | [] => m
  | p :: ps =>
    match (m.pwmAt p).pendPeriod with
    | none => m
    | some x =>
      let all := p :: ps
      let m := m.each all (fun q m => m.clearPend q)
      let m' := m.each all (fun q m => m.landPeriod q x.value)
      match m'.decideAdmission with
      | .ok m'' => m''
      | .error why =>
        (m.admitRefused why 3 0 false m'.demand).refuse F.PWM_ERR_ADMIT x.who x.addr (BitVec.ofNat 32 x.value)

/-- A write of PWM_PERIOD. -/
def Part.writePeriod (m : Part) (i : Initiator) (p : Nat) (v : Word) : Part := m.requestPeriod i [p] (R.PWM_PERIOD.addr p) v

/-- A write of PWM_RPERr: one request for every phase on the rail. -/
def Part.writeRper (m : Part) (i : Initiator) (r : Nat) (v : Word) : Part :=
  m.requestPeriod i (allPhases.filter (fun p => m.phRail p = r)) (R.PWM_RPER.addr r) v

/-- A shadow write in the lock window sets LATE (R163). -/
def Part.noteLate (m : Part) (p : Nat) : Part := if (m.pwmAt p).locked then m.put F.PWM_STAT_LATE p 1 else m

def Part.writeDuty (m : Part) (i : Initiator) (p : Nat) (v : Word) : Part :=
  if m.is F.PWM_CFG_DSRC p then m.landDuty p (fieldOf v F.PWM_DUTY_VALUE)
  else m.refuse F.PWM_ERR_DSRC i (R.PWM_DUTY.addr p) v

def Part.writeOffset (m : Part) (i : Initiator) (p : Nat) (v : Word) : Part :=
  let r := m.phRail p
  if r < 63 && m.is F.PWM_RSYNC_AUTOOFF r then m.refuse F.PWM_ERR_AUTO i (R.PWM_OFFSET.addr p) v
  else (m.landOffset p (fieldOf v F.PWM_OFFSET_VALUE)).noteLate p

/-- A write of PWM_CFG: refused where it would change a BUSY field of a switching phase (log entry 33). -/
def Part.writePwmCfg (m : Part) (i : Initiator) (p : Nat) (v : Word) : Part :=
  let a := R.PWM_CFG.addr p
  let busy := m.changes F.PWM_CFG_MINOFF p v || m.changes F.PWM_CFG_MINON p v || m.changes F.PWM_CFG_CMPBM p v ||
    m.changes F.PWM_CFG_DSRC p v || m.changes F.PWM_CFG_EN p v
  if busy && m.switches p then m.refuse F.PWM_ERR_BUSY i a v
  else
    let was := m.is F.PWM_CFG_EN p
    let m := m.plainWrite a v
    if m.is F.PWM_CFG_EN p && !was then
      if m.get F.PWM_ACT_VALUE p = 0 then
        let per := m.get F.PWM_PERIOD_PERIOD p
        (m.setPwm p { m.pwmAt p with period := per }).put F.PWM_ACT_VALUE p per
      else m
    else if was && !m.is F.PWM_CFG_EN p then m.setPwm p { m.pwmAt p with cnt := 0, locked := false }
    else m

/-- A write of PWM_EVC restarts the counts whose prescaler it changes (R171). -/
def Part.writeEvc (m : Part) (p : Nat) (v : Word) : Part :=
  let same := fun (k : Nat) => decide (fieldOf v F.PWM_EVC_PS / 16 ^ k % 16 = m.get F.PWM_EVC_PS p / 16 ^ k % 16)
  let x := m.pwmAt p
  let x := { x with psZero := if same 0 then x.psZero else 0, psPeriod := if same 1 then x.psPeriod else 0,
                    psCmpa := if same 2 then x.psCmpa else 0, psCmpb := if same 3 then x.psCmpb else 0 }
  (m.setPwm p x).plainWrite (R.PWM_EVC.addr p) v

/-- A write of PWM_RSYNCr: AUTOOFF written 1 recomputes the offsets (R170). -/
def Part.writeRsync (m : Part) (r : Nat) (v : Word) : Part := (m.plainWrite (R.PWM_RSYNC.addr r) v).autoOffsets r

/-! ## Trip inputs (R173) -/

/-- Filtered level of trip pin `n`. -/
def Part.tripPin (m : Part) (n : Nat) : Bool := m.trips.get true n

/-- PWM_TRIPn.LEVEL from the pin and POL. -/
def Part.tripLevel (m : Part) (n : Nat) : Part :=
  m.put F.PWM_TRIP_LEVEL n (if m.tripPin n = m.is F.PWM_TRIP_POL n then 1 else 0)

def Part.tripEdge (m : Part) (n : Nat) (level : Bool) : Part :=
  let m := { m with trips := m.trips.set true n level }
  (m.tripLevel n).tripsAct

def Part.writeTrip (m : Part) (n : Nat) (v : Word) : Part := ((m.plainWrite (R.PWM_TRIP.addr n) v).tripLevel n).tripsAct

/-! ## Safe state (R177 to R179) -/

def Part.writeSafe (m : Part) (v : Word) : Part := (m.plainWrite R.PWM_SAFE.base v).enterSafe

/-- Lane `n` leaves safe state. -/
def Part.laneLeavesSafe (m : Part) (n : Nat) : Part :=
  (m.putBit F.PWM_SAFEST_ACTIVE 0 n false).each (lanePhases n) (fun p m => m.put F.PWM_STAT_SAFE p 0)

/-- A write of PWM_SAFEREL: lanes with no cause are released, others stay and the write is reported (R179). What it released is kept for
the rest of its tick, in which a new cause still prevails (R180). -/
def Part.writeSaferel (m : Part) (i : Initiator) (v : Word) : Part :=
  let lanes := allLanes.filter (fun n => bitsOf v n 1 = 1)
  let held := lanes.filter m.causeHolds
  let freed := lanes.filter (fun n => m.laneSafe n && !m.causeHolds n)
  let m := m.each (lanes.filter (fun n => !m.causeHolds n)) (fun n m => m.laneLeavesSafe n)
  let now := m.tb.released.filter (fun x => x.tick = m.tb.ticks)
  let m := { m with tb := { m.tb with
    released := now ++ [{ tick := m.tb.ticks, who := i, value := v, lanes := freed, refused := !held.isEmpty }] } }
  if held.isEmpty then m else m.refuse F.PWM_ERR_SAFE i R.PWM_SAFEREL.base v

/-- A fabric write to a register of the PWM block. -/
def Part.writePWM (m : Part) (i : Initiator) (a : Nat) (v : Word) : Part :=
  if R.PWM_CFG.covers a then m.writePwmCfg i (R.PWM_CFG.inst a) v
  else if R.PWM_PERIOD.covers a then m.writePeriod i (R.PWM_PERIOD.inst a) v
  else if R.PWM_DUTY.covers a then m.writeDuty i (R.PWM_DUTY.inst a) v
  else if R.PWM_OFFSET.covers a then m.writeOffset i (R.PWM_OFFSET.inst a) v
  else if R.PWM_CMPB.covers a then (m.plainWrite a v).noteLate (R.PWM_CMPB.inst a)
  else if R.PWM_EVC.covers a then m.writeEvc (R.PWM_EVC.inst a) v
  else if R.PWM_RPER.covers a then m.writeRper i (R.PWM_RPER.inst a) v
  else if R.PWM_RSYNC.covers a then m.writeRsync (R.PWM_RSYNC.inst a) v
  else if R.PWM_TRIP.covers a then m.writeTrip (R.PWM_TRIP.inst a) v
  else if a = R.PWM_SAFE.base then m.writeSafe v
  else if a = R.PWM_SAFEREL.base then m.writeSaferel i v
  else m.plainWrite a v

/-! ## The timebase (R156 to R159) -/

/-- Every Flint lane is disabled. -/
def Part.flintDisabled (m : Part) : Bool := allLanes.all (fun n => !m.is F.FLK_LCFG_EN n)

/-- PLLLOCK and REFOK are looked at again: both 1 end the timebase loss and its cause (R157, R177). -/
def Part.timebaseSeen (m : Part) : Part :=
  if m.is F.TB_STAT_PLLLOCK 0 && m.is F.TB_STAT_REFOK 0 && !m.tb.relocking then
    { m with tb := { m.tb with lossNow := false } }.setCause causeTbLoss false
  else m

/-- A fabric write to a register of the TB block. -/
def Part.writeTB (m : Part) (i : Initiator) (a : Nat) (v : Word) : Part :=
  if a = R.TB_CFG.base then
    if !m.allOff || !m.flintDisabled || fieldOf v F.TB_CFG_RSEL = 3 then m.refuse F.TB_STAT_REFUSED i a v
    else
      let m := (m.plainWrite a v).put F.TB_STAT_PLLLOCK 0 0
      { m with tb := { m.tb with relocking := true } }.setCause causeTbLoss true
  else m.plainWrite a v

/-- The timebase relocks (R156): PLLLOCK returns to 1; the backup oscillator's verdict comes with it. -/
def Part.relockComplete (m : Part) (refOk : Bool) : Part :=
  let m := { m with tb := { m.tb with relocking := false } }
  ((m.put F.TB_STAT_PLLLOCK 0 1).put F.TB_STAT_REFOK 0 (if refOk then 1 else 0)).timebaseSeen

/-- Timebase loss is declared (R157, R158, R180). A loss for want of reference edges is a reference that has stopped: the frames stop, and
the lane-loss rows apply to phases in ZERO and STEERING (R247; DEDUCED, log entry 120). -/
def Part.timebaseLoss (m : Part) (c : LossCause) : Part :=
  let m := match c with
    | .edges => m.put F.TB_STAT_REFOK 0 0
    | .frequency => (m.put F.TB_STAT_REFOK 0 0).put F.TB_STAT_FREQERR 0 1
    | .pll => m.put F.TB_STAT_PLLLOCK 0 0
  let m := m.put F.TB_STAT_LOST 0 1
  let first := !m.tb.lossNow
  let m := { m with tb := { m.tb with lossNow := true } }.setCause causeTbLoss true
  let m := if c = .edges then m.each (allLanes.filter (fun n => m.laneUp n)) (fun n m => m.movesStop n) else m
  if first then m.raise 0x8C00 63 (m.policy 1) 0 else m

def Part.timebaseRecovery (m : Part) (pllLock refOk : Bool) : Part :=
  let m := { m with tb := { m.tb with relocking := m.tb.relocking && !pllLock } }
  ((m.put F.TB_STAT_PLLLOCK 0 (if pllLock then 1 else 0)).put F.TB_STAT_REFOK 0 (if refOk then 1 else 0)).timebaseSeen

/-- The mean tap step, TBCLK's period over 32 taps in 0.01 ps (R159), to the nearest unit as in TB_DLL's example (log entry 31). -/
def Part.tapStep (m : Part) : Nat := (100000000000 + 16 * m.kHz) / (32 * m.kHz)

/-- The delay-locked line locks: it is calibrated against the TBCLK period (R159). -/
def Part.dllLocks (m : Part) : Part := (m.put F.TB_STAT_DLLLOCK 0 1).put F.TB_DLL_STEP 0 m.tapStep

/-- The delay-locked line loses lock; the step it then measures is free (R159, log entry 31). -/
def Part.dllLoss (m : Part) : Part :=
  let w := m.freeWord
  (((w.2.put F.TB_DLL_STEP 0 (bitsOf w.1 0 16)).put F.TB_STAT_DLLLOCK 0 0).put F.TB_STAT_DLLERR 0 1).raise 0x8C01 63 1 0

/-! ## The rows -/

def execZeroEvent (p : Fin 128) (s : State) : Out := .next (s.lift (fun m => m.zeroEvent p))
def execPeriodEvent (p : Fin 128) (s : State) : Out := .next (s.lift (fun m => m.periodEvent p))
def execCmpaEvent (p : Fin 128) (s : State) : Out := .next (s.lift (fun m => m.cmpaEvent p))
def execCmpbEvent (p : Fin 128) (s : State) : Out := .next (s.lift (fun m => m.cmpbEvent p))
def execSnapshot (p : Fin 128) (s : State) : Out := .next (s.lift (fun m => m.snapshot p))
def execPwmPeriodWrite (i : Initiator) (p : Fin 128) (v : Word) (s : State) : Out := .next (s.lift (fun m => m.writePeriod i p v))
def execPwmRperWrite (i : Initiator) (r : Fin 63) (v : Word) (s : State) : Out := .next (s.lift (fun m => m.writeRper i r v))
def execPwmDutyWrite (i : Initiator) (p : Fin 128) (v : Word) (s : State) : Out := .next (s.lift (fun m => m.writeDuty i p v))
def execPwmOffsetWrite (i : Initiator) (p : Fin 128) (v : Word) (s : State) : Out := .next (s.lift (fun m => m.writeOffset i p v))

/-- RSYNC_NOW: a write of PWM_RSYNCr with its other fields as they stand and NOW = 1. -/
def execRsyncNow (_i : Initiator) (r : Fin 63) (s : State) : Out :=
  .next (s.lift (fun m => m.writeRsync r (withBits (m.word (R.PWM_RSYNC.addr r)) 9 1 1)))

def execTripInputEdge (n : Fin 16) (level : Bool) (s : State) : Out := .next (s.lift (fun m => m.tripEdge n level))
def execBlankingClose (p : Fin 128) (s : State) : Out := .next (s.lift (fun m => m.blankingClose p))
def execSafeForce (_i : Initiator) (v : Word) (s : State) : Out := .next (s.lift (fun m => m.writeSafe v))
def execSafeRelease (i : Initiator) (v : Word) (s : State) : Out := .next (s.lift (fun m => m.writeSaferel i v))
def execTbCfgWrite (i : Initiator) (v : Word) (s : State) : Out := .next (s.lift (fun m => m.writeTB i R.TB_CFG.base v))
def execRelockComplete (refOk : Bool) (s : State) : Out := .next (s.lift (fun m => m.relockComplete refOk))
def execTimebaseLoss (cause : LossCause) (s : State) : Out := .next (s.lift (fun m => m.timebaseLoss cause))
def execTimebaseRecovery (pllLock refOk : Bool) (s : State) : Out := .next (s.lift (fun m => m.timebaseRecovery pllLock refOk))
def execDllLockLoss (s : State) : Out := .next (s.lift Part.dllLoss)
def execDllLockReturn (s : State) : Out := .next (s.lift Part.dllLocks)

end Sys2Proof.Machine
end

