-- ==== Sys2Proof/Machine/Flint.lean ====
section
/-! DEFINITION. Flint and Mica: frames, reports, management transactions, bring-up, lane loss, lighting orders, surveys
(R182 to R223). -/
namespace Sys2Proof.Machine

def Part.flkLane (m : Part) (n : Nat) : FlkLane := m.flk.lanes.get {} n
def Part.setFlkLane (m : Part) (n : Nat) (x : FlkLane) : Part := { m with flk := { m.flk with lanes := m.flk.lanes.set {} n x } }
def Part.stageCfg (m : Part) (p : Nat) : Option StageCfg := m.flk.stages.get none p
def Part.setStageCfg (m : Part) (p : Nat) (x : Option StageCfg) : Part :=
  { m with flk := { m.flk with stages := m.flk.stages.set none p x } }

/-- Lane states of FLK_LSTAT.STATE. -/
def lnOff : Nat := 0
def lnTrain : Nat := 1
def lnEnum : Nat := 2
def lnConfig : Nat := 3
def lnUp : Nat := 4
def lnLost : Nat := 5

def Part.lnState (m : Part) (n : Nat) : Nat := m.get F.FLK_LSTAT_STATE n
def Part.npos (m : Part) (n : Nat) : Nat := m.get F.FLK_LCFG_NPOS n

/-- The state of a lane changes, with its UP bit; an audible change of LOST counts in FLK_STAT by its own rule. -/
def Part.setLnState (m : Part) (n st : Nat) : Part :=
  ((m.put F.FLK_LSTAT_STATE n st).putBit F.FLK_STAT_UP 0 n (st = lnUp)).surveyLook

/-! ## CRC and slots (R186, R189 to R192) -/

/-- One bit of the CRC-16 of polynomial 0x1021, most significant bit first. -/
def crcBit (c : Nat) (b : Bool) : Nat :=
  let top := decide (0x8000 ≤ c)
  let c := c * 2 % 0x10000
  if top = b then c else c ^^^ 0x1021

/-- One byte. -/
def crcByte (c : Nat) (b : Byte) : Nat := (List.range 8).foldl (fun c i => crcBit c (b.getLsbD (7 - i))) c

/-- CRC-16 with initial value 0xFFFF over bytes in order. -/
def crc16 (l : List Byte) : Nat := l.foldl crcByte 0xFFFF

/-- CHECK of R190 for bits [26:0] of a command. -/
def slotCheck (w : Nat) : Nat :=
  let sum := w % 32 + w / 32 % 32 + w / 1024 % 32 + w / 32768 % 32 + w / 1048576 % 32 + w / 33554432 % 4
  31 - sum % 31

/-- A command slot (R189). -/
def commandSlot (hsw lsw steer mode epoch : Nat) : Word :=
  let w := hsw % 1024 + lsw % 1024 * 2 ^ 10 + steer % 4 * 2 ^ 20 + mode % 8 * 2 ^ 22 + epoch % 4 * 2 ^ 25
  BitVec.ofNat 32 (w + slotCheck w * 2 ^ 27)

/-- An even number of ones. -/
def evenParity (n width : Nat) : Bool := ((List.range width).filter (fun i => n / 2 ^ i % 2 = 1)).length % 2 = 0

/-- Both parity bits of a report hold (R192). -/
def reportParity (w : Word) : Bool :=
  evenParity (bitsOf w 0 16 + bitsOf w 30 1 * 2 ^ 16) 17 && evenParity (bitsOf w 16 14 + bitsOf w 31 1 * 2 ^ 14) 15

/-- OPT entry whose fallback column the phase uses: the one last selected, entry (P, 0, 0) before any (log entry 40). -/
def Part.fallbackEntry (m : Part) (p : Nat) : Nat :=
  (m.bslPhase p).sel.getD (128 * m.get F.RAIL_OPT_PROFILE (m.phRail p))

/-- Width codes that the command carries before the limits of SWITCH mode (R191, R203). -/
def Part.widthSent (m : Part) (mem : Mem) (p : Nat) : Word :=
  if m.lnState (laneOf p) = lnLost then optFallback mem (m.fallbackEntry p) else (m.bslPhase p).width

/-- MODE of the command (R191). -/
def Part.modeSent (m : Part) (p : Nat) : Nat :=
  if m.surveying p then 2 else if m.laneSafe (laneOf p) || !m.switches p then 1 else 0

/-- The command slot of a phase, and CLAMPW where a code is lowered (R191). -/
def Part.commandOf (m : Part) (mem : Mem) (p : Nat) : Word × Part :=
  let w := m.widthSent mem p
  let hs := bitsOf w 0 10
  let ls := bitsOf w 16 10
  let mode := m.modeSent p
  let steer := if m.get F.POOL_PCFG_GUEST p = 63 then 0 else (m.poolAt p).steerCmd
  let epoch := m.get F.POOL_PSTAT_EPOCH p
  if mode = 0 then
    let uh := m.get F.MICA_USE_U_HS p
    let ul := m.get F.MICA_USE_U_LS p
    let m := if uh < max 1 hs || ul < max 1 ls then m.put F.MICA_STAT_CLAMPW 0 1 else m
    (commandSlot (min (max 1 hs) uh) (min (max 1 ls) ul) steer 0 epoch, m)
  else (commandSlot hs ls steer mode epoch, m)

/-! ## Management transactions (R196, R197, R200, R201) -/

/-- Words of a request. -/
def requestWords (x : FlkTrans) : List Nat :=
  [0x8000 + x.pos % 8 * 2 ^ 11 + (if x.wr then 2 ^ 10 else 0) + x.addr % 1024, x.tag % 256 * 256 + (x.len - 1) % 64] ++
  (if x.wr then x.data else [])

/-- What a stage's configuration registers should hold now (R201). -/
def Part.stageWant (m : Part) (mem : Mem) (p : Nat) : StageCfg :=
  let fb := optFallback mem (m.fallbackEntry p)
  ⟨m.get F.FLK_LCFG_STO (laneOf p), bitsOf fb 0 10, bitsOf fb 16 10, m.get F.FLK_PCFG_ILOCAL p⟩

/-- Mica manages segments by itself (R215, R222). -/
def Part.micaOn (m : Part) : Bool := m.is F.MICA_CTRL_EN 0 && !m.is F.MICA_CTRL_XSEG 0

/-- Address of a segment's byte in the segment map (R213). -/
def segAddr (p : Nat) (low : Bool) (k : Nat) : Nat := 0x12040000 + 2048 * p + (if low then 1024 else 0) + k

def segHealth (mem : Mem) (p : Nat) (low : Bool) (k : Nat) : Nat := (Mem.byte mem (segAddr p low k)).toNat / 64
def segAge (mem : Mem) (p : Nat) (low : Bool) (k : Nat) : Nat := (Mem.byte mem (segAddr p low k)).toNat % 64

/-- Place class of a segment in an order: GOOD, then SUSPECT, then FAILED and EXCLUDED. -/
def segClass (h : Nat) : Nat := min h 2

/-- The lighting order of a side (R216): by class, then age for usable segments, then number. -/
def lightingOrder (mem : Mem) (p : Nat) (low : Bool) : List Nat :=
  let key := fun (k : Nat) =>
    let c := segClass (segHealth mem p low k)
    c * 2 ^ 16 + (if c < 2 then segAge mem p low k * 2 ^ 10 else 0) + k
  (List.range 1024).mergeSort (fun a b => decide (key a ≤ key b))

/-- Usable segments of a side: GOOD and SUSPECT ones (R216). -/
def usableCount (mem : Mem) (p : Nat) (low : Bool) : Nat :=
  ((List.range 1024).filter (fun k => decide (segHealth mem p low k < 2))).length

/-- Transactions of one position's part of the configuration (R200 steps 6, R205, R216). -/
def Part.configSteps (m : Part) : Nat := if m.micaOn then 41 else 1

/-- Transaction `k` of the configuration of a lane (R200). -/
def Part.configTrans (m : Part) (mem : Mem) (n k tag : Nat) : FlkTrans :=
  let np := m.npos n
  let t := fun (pos : Nat) (wr : Bool) (addr len : Nat) (data : List Nat) =>
    ({ raw := false, pos := pos, wr := wr, addr := addr, len := len, data := data, tag := tag } : FlkTrans)
  if k < np then t k false 0 6 []
  else
    let j := k - np
    let pos := j / m.configSteps
    let p := 8 * n + pos
    let cfg := m.stageWant mem p
    let write := t pos true 0x10 4 [cfg.sto, cfg.hs, cfg.ls, cfg.ilocal]
    if !m.micaOn then write
    else
      match j % m.configSteps with
      | 0 => t pos false 0x20 1 []
      | 1 => t pos false 0x21 8 []
      | 2 => write
      | 39 => t pos true 0x14 4 [usableCount mem p false, usableCount mem p true, 0, 0]
      | 40 => t pos true 0x18 1 [2]
      | i =>
        let q := i - 3
        let low := decide (18 ≤ q)
        let w := q % 18 / 9
        let c := q % 9
        if c = 0 then t pos true 0x19 1 [(if low then 2 else 0) + w]
        else t pos true (0x200 + 64 * (c - 1)) 64 (((lightingOrder mem p low).drop (512 * w + 64 * (c - 1))).take 64)

/-- The first position of an UP lane whose stage does not hold what its sources say (R201). -/
def Part.rewritePos (m : Part) (mem : Mem) (n : Nat) : Option Nat :=
  (List.range (m.npos n)).find? (fun i => m.stageCfg (8 * n + i) != some (m.stageWant mem (8 * n + i)))

/-- Rotation offset of a side after one step (R217). -/
def Part.rotated (m : Part) (p : Nat) (low : Bool) : Nat :=
  if low then (m.get F.MICA_ROT_R_LS p + m.get F.MICA_CFG_ROT_STEP 0) % m.get F.MICA_USE_U_LS p
  else (m.get F.MICA_ROT_R_HS p + m.get F.MICA_CFG_ROT_STEP 0) % m.get F.MICA_USE_U_HS p

/-- The transaction of a job's step: SEGFN and SEGFL (R215); BANK, the order window, the staged counts and offsets of both sides, and
ACTIVATE (R216); the staged offsets and ACTIVATE (R217). -/
def Part.jobTrans (m : Part) (n tag : Nat) (j : MicaJob) (step : Nat) : FlkTrans :=
  let x := m.flkLane n
  let t := fun (p : Nat) (wr : Bool) (addr len : Nat) (data : List Nat) =>
    ({ raw := false, work := .job, pos := p % 8, wr := wr, addr := addr, len := len, data := data, tag := tag } : FlkTrans)
  let use := fun (f : FieldAt) (p : Nat) => m.get f p
  match j, step with
  | .faults p, 0 => t p false 0x20 1 []
  | .faults p, _ => t p false 0x21 8 []
  | .rotate p, 0 => t p true 0x14 4 [use F.MICA_USE_U_HS p, use F.MICA_USE_U_LS p, m.rotated p false, m.rotated p true]
  | .rotate p, _ => t p true 0x18 1 [2]
  | .rebuild p _, 0 => t p false 0x18 1 []
  | .rebuild p low, 19 =>
    t p true 0x14 4 (if low then [use F.MICA_USE_U_HS p, x.usable, use F.MICA_ROT_R_HS p, 0]
                     else [x.usable, use F.MICA_USE_U_LS p, 0, use F.MICA_ROT_R_LS p])
  | .rebuild p low, k =>
    if 19 < k then t p true 0x18 1 [2]
    else
      let w := (k - 1) / 9
      let c := (k - 1) % 9
      if c = 0 then t p true 0x19 1 [(if low then 2 else 0) + w]
      else t p true (0x200 + 64 * (c - 1)) 64 ((x.order.drop (512 * w + 64 * (c - 1))).take 64)

/-- The transaction of a step of a stage's survey: each side's survey is started and polled, then its results are read (R219). -/
def surveyTrans (p tag step : Nat) : Option FlkTrans :=
  let t := fun (wr : Bool) (addr len : Nat) (data : List Nat) =>
    some ({ raw := false, work := .survey, pos := p % 8, wr := wr, addr := addr, len := len, data := data, tag := tag } : FlkTrans)
  match step with
  | 0 => t true 0x30 1 [1]
  | 4 => t true 0x30 1 [1025]
  | 1 => t false 0x30 1 []
  | 5 => t false 0x30 1 []
  | 2 => t false 0x100 64 []
  | 6 => t false 0x100 64 []
  | 3 => t false 0x140 64 []
  | 7 => t false 0x140 64 []
  | _ => none

/-- Mica's next transaction on an idle lane: bring-up's configuration; in service the job under way, then a rewrite, then the survey's
(log entry 39). -/
def Part.micaTrans (m : Part) (mem : Mem) (n tag : Nat) : Option FlkTrans :=
  if m.lnState n = lnConfig then some (m.configTrans mem n (m.flkLane n).bring tag)
  else if m.lnState n = lnUp then
    match (m.flkLane n).jobs with
    | j :: _ => some (m.jobTrans n tag j (m.flkLane n).step)
    | [] =>
      match m.rewritePos mem n with
      | some i =>
        let cfg := m.stageWant mem (8 * n + i)
        some { raw := false, work := .rewrite, pos := i, wr := true, addr := 0x10, len := 4,
               data := [cfg.sto, cfg.hs, cfg.ls, cfg.ilocal], tag := tag }
      | none =>
        match (allPhases.drop (8 * n)).take 8 |>.find? m.surveying with
        | some p => if m.stepInForce 1 then none else surveyTrans p tag m.mica.surveyStep
        | none => none
  else none

/-- Data words of FLK_MBUF. -/
def Part.mbufWords (m : Part) (n : Nat) : List Nat :=
  (List.range 64).map (fun k => bitsOf (m.word (R.FLK_MBUF.base + 0x100 * n + 4 * (k / 2))) (16 * (k % 2)) 16)

/-- The raw transaction that waits (R197). -/
def Part.rawTrans (m : Part) (n tag : Nat) : Option FlkTrans :=
  if m.is F.FLK_MCMD_GO n && m.lnState n = lnUp then
    let len := m.get F.FLK_MCMD_LEN n + 1
    some { raw := true, pos := m.get F.FLK_MCMD_POS n, wr := m.is F.FLK_MCMD_WR n, addr := m.get F.FLK_MCMD_ADDR n,
           len := len, data := (m.mbufWords n).take len, tag := tag }
  else none

/-- An idle lane starts a transaction that waits; Mica's and raw ones alternate (R197). -/
def Part.startTrans (m : Part) (mem : Mem) (n : Nat) : Part :=
  let x := m.flkLane n
  match x.trans with
  | some _ => m
  | none =>
    let a := m.micaTrans mem n x.tag
    let b := m.rawTrans n x.tag
    match (match a, b with
      | some a, some b => some (if x.rawLast then a else b)
      | some a, none => some a
      | none, b => b) with
    | none => m
    | some t => m.setFlkLane n { x with trans := some t, tag := (x.tag + 1) % 256, rawLast := t.raw, resp := [], broken := false }

/-- The management word of the next frame: a word of the request under way, or idle. -/
def Part.managementWord (m : Part) (n : Nat) : Nat × Part :=
  let x := m.flkLane n
  match x.trans with
  | none => (0, m)
  | some t => match (requestWords t)[t.sent]? with
    | none => (0, m)
    | some w => (w, m.setFlkLane n { x with trans := some { t with sent := t.sent + 1 } })

/-- Bytes of a word, least significant first. -/
def wordBytes (w : Word) : List Byte := (List.range 4).map (fun i => BitVec.ofNat 8 (w.toNat / 256 ^ i))

/-- One frame goes out on a lane in ENUM or above (R185, R191). -/
def Part.frameTransmit (m : Part) (mem : Mem) (n : Nat) : Part :=
  if m.lnState n < lnEnum then m
  else
    let m := m.startTrans mem n
    let mw := m.managementWord n
    let m := mw.2
    let slots := (List.range 8).foldl (fun (acc : List Word × Part) i =>
      let c := acc.2.commandOf mem (8 * n + i)
      (acc.1 ++ [c.1], c.2.setWord (R.FLK_LASTC.addr (8 * n + i)) c.1)) ([], m)
    let m := slots.2
    let x := m.flkLane n
    let ctl := (if m.lnState n = lnEnum then 128 else 0) + x.seq % 8 * 16
    let head := [BitVec.ofNat 8 ctl, BitVec.ofNat 8 (mw.1 / 256), BitVec.ofNat 8 mw.1]
    let body := head ++ slots.1.flatMap wordBytes ++ List.replicate 32 0
    let c := crc16 body
    m.setFlkLane n { x with seq := (x.seq + 1) % 8, sent := body ++ [BitVec.ofNat 8 (c / 256), BitVec.ofNat 8 c] }

/-! ## Segment faults and rebuilds (R212 to R218) -/

def setHealth (mem : Mem) (p : Nat) (low : Bool) (k h : Nat) : Mem :=
  Mem.setByte mem (segAddr p low k) (BitVec.ofNat 8 (segAge mem p low k + 64 * h))

/-- Steps 2 to 4 of R215 for one segment of a fault list: bits [10] side, [9:0] segment. -/
def State.segmentFails (s : State) (p f : Nat) : State :=
  let low := decide (1024 ≤ f % 2048)
  let m := s.part
  let m := { m with life := m.life.set 0 (256 * 2 + p) (m.life.get 0 (256 * 2 + p) + 1) }
  let m := m.raise 0x9800 (m.phRail p) 0 (srcPhase p) (f % 2048)
  { s with mem := setHealth s.mem p low (f % 1024) 2, part := m }

def State.segmentsFail (s : State) (p : Nat) (l : List Nat) : State := l.foldl (fun s f => s.segmentFails p f) s

/-- A phase whose usable counts no longer carry its rail's profile is retired (R37, R215). -/
def Part.retireIfShort (m : Part) (mem : Mem) (p : Nat) : Part :=
  if m.retireCondition mem p && m.phState p != phRetired then (m.put F.MICA_STAT_RETIRE 0 1).retirePhase p else m

/-- A side has been rebuilt: MICA_CTRL.REBUILD clears when none is left that it asked for. -/
def Part.rebuilt (m : Part) (p : Nat) (low : Bool) : Part :=
  let key := 2 * p + (if low then 1 else 0)
  let due := m.mica.due.filter (fun k => k ≠ key)
  let m := { m with mica := { m.mica with due := due } }
  if due.isEmpty then m.put F.MICA_CTRL_REBUILD 0 0 else m

/-- A rebuild of one side has been activated: MICA_USE and MICA_ROT report it, and the retire condition is looked at (R215, R216). -/
def Part.activated (m : Part) (mem : Mem) (p : Nat) (low : Bool) (u : Nat) (order : List Nat) : Part :=
  let m := m.rebuilt p low
  let m := if low then (m.put F.MICA_USE_U_LS p u).put F.MICA_ROT_R_LS p 0
           else (m.put F.MICA_USE_U_HS p u).put F.MICA_ROT_R_HS p 0
  let m := { m with mica := { m.mica with orders := m.mica.orders.set [] (2 * p + (if low then 1 else 0)) order } }
  m.retireIfShort mem p

/-- A job of Mica is added to its lane's. -/
def Part.addJob (m : Part) (n : Nat) (j : MicaJob) : Part :=
  m.setFlkLane n { m.flkLane n with jobs := (m.flkLane n).jobs ++ [j] }

/-- The job under way ends. -/
def Part.endJob (m : Part) (n : Nat) : Part :=
  m.setFlkLane n { m.flkLane n with jobs := (m.flkLane n).jobs.tail, step := 0, order := [], usable := 0 }

/-- Mica may work on a stage by itself: it is on, the lane is UP and has the stage (R215 to R217, R222). -/
def Part.micaWorks (m : Part) (p : Nat) : Bool := m.micaOn && m.laneUp (laneOf p) && m.stagePresent p

/-- SEGMENT_FAULT_HANDLING: Mica begins to read a stage's fault list (R215). -/
def Part.handleFaults (m : Part) (p : Nat) : Part :=
  if m.micaWorks p && !(m.flkLane (laneOf p)).jobs.contains (.faults p) then m.addJob (laneOf p) (.faults p) else m

/-- A write of 1 to MICA_CTRL.REBUILD: every side of every stage on an UP lane is to be rebuilt (R216). -/
def Part.rebuildAll (m : Part) : Part :=
  let ps := allPhases.filter (fun p => m.laneUp (laneOf p) && decide (p % 8 < m.npos (laneOf p)))
  let due := if m.micaOn then ps.flatMap (fun p => [2 * p, 2 * p + 1]) else []
  let m := { m with mica := { m.mica with due := due } }
  m.put F.MICA_CTRL_REBUILD 0 (if due.isEmpty then 0 else 1)

/-- Ages of a side's usable segments differ by this much at most (R216). -/
def ageSpread (mem : Mem) (p : Nat) (low : Bool) : Nat :=
  let ages := ((List.range 1024).filter (fun k => decide (segHealth mem p low k < 2))).map (segAge mem p low)
  ages.foldl max 0 - ages.foldl min 63

/-- A rebuild of the side is due: REBUILD or a survey asks for it, or its ages have spread, which Clove's step 1 defers (R216,
R255). -/
def Part.rebuildDue (m : Part) (mem : Mem) (p : Nat) (low : Bool) : Bool :=
  m.mica.due.contains (2 * p + (if low then 1 else 0)) ||
    (decide (m.get F.MICA_CFG_SPREAD 0 ≤ ageSpread mem p low) && !m.stepInForce 1)

/-- REBUILD: Mica begins a rebuild of the side that is due (R216). -/
def Part.rebuildSide (m : Part) (mem : Mem) (p : Nat) (low : Bool) : Part :=
  if m.micaWorks p && m.rebuildDue mem p low && !(m.flkLane (laneOf p)).jobs.contains (.rebuild p low) then
    m.addJob (laneOf p) (.rebuild p low)
  else m

/-- Ticks a phase has switched (R217, R443). -/
def Part.swTicks (m : Part) (p : Nat) : Nat :=
  (m.poolAt p).swAcc + (if m.switches p then m.tb.ticks - (m.poolAt p).swFrom else 0)

/-- Ticks of ROT_INT. -/
def Part.rotTicks (m : Part) : Nat := m.get F.MICA_CFG_ROT_INT 0 * m.kHz

/-- The phase has switched for ROT_INT ms since its last timed rotation; 0 disables them (R217). -/
def Part.rotationTimed (m : Part) (p : Nat) : Bool :=
  decide (0 < m.rotTicks) && decide (m.rotTicks ≤ m.swTicks p - m.mica.rotSw.get 0 p)

/-- The timed rotations due so far count as taken (or dropped): one step serves them (R217, R255). -/
def Part.rotationServed (m : Part) (p : Nat) : Part :=
  let since := m.swTicks p - m.mica.rotSw.get 0 p
  let m := if m.rotationTimed p then
      { m with mica := { m.mica with rotSw := m.mica.rotSw.set 0 p (m.mica.rotSw.get 0 p + since / m.rotTicks * m.rotTicks) } }
    else m
  { m with clv := { m.clv with phases := m.clv.phases.set {} p { m.clv.phases.get {} p with rotate := false } } }

/-- A rotation of the stage is due: timed, which Clove's step 1 defers, or asked for by Clove (R217, R255). -/
def Part.stageRotationDue (m : Part) (p : Nat) : Bool :=
  (m.clv.phases.get {} p).rotate || (m.rotationTimed p && !m.stepInForce 1)

/-- A rebuild of the stage is under way or asked for. -/
def Part.rebuilding (m : Part) (p : Nat) : Bool :=
  m.mica.due.any (fun k => k / 2 = p) || (m.flkLane (laneOf p)).jobs.any (fun j => j = .rebuild p false || j = .rebuild p true)

/-- ROTATION: a rotation step of a stage that is due begins, or is dropped during a rebuild (R217). -/
def Part.rotateStage (m : Part) (p : Nat) : Part :=
  if !m.micaWorks p || !m.stageRotationDue p then m
  else if m.rebuilding p then m.rotationServed p
  else (m.rotationServed p).addJob (laneOf p) (.rotate p)

/-- Steps of rotation that fell due while deferred are taken once (R255). -/
def Part.resumeRotations (m : Part) : Part := m.each (allPhases.filter m.rotationTimed) (fun p m => m.rotateStage p)

/-! ## Lit time (R218) -/

/-- Segments that a stretch lights: positions (R + j) mod U of the order, for j below the width code (R211). Before the first order is
downloaded a position is taken as its segment (log entry 117). -/
def Glow.segments (g : Glow) (order : List Nat) : List Nat :=
  (List.range g.w).map (fun j => let q := (g.r + j) % g.u
                                 order.getD q q)

def Part.glowAt (m : Part) (p : Nat) (low : Bool) : Glow := m.mica.glow.get {} (2 * p + (if low then 1 else 0))
def Part.setGlow (m : Part) (p : Nat) (low : Bool) (g : Glow) : Part :=
  { m with mica := { m.mica with glow := m.mica.glow.set {} (2 * p + (if low then 1 else 0)) g } }

/-- Key of a segment in the accumulation. -/
def litKey (p : Nat) (low : Bool) (k : Nat) : Nat := 2048 * p + (if low then 1024 else 0) + k

/-- The stretch ends: its time goes to its segments. -/
def Part.endGlow (m : Part) (p : Nat) (low : Bool) : Part :=
  let g := m.glowAt p low
  let order := m.mica.orders.get [] (2 * p + (if low then 1 else 0))
  let lit := (g.segments order).foldl (fun (l : Store Nat) k => l.set 0 (litKey p low k) (l.get 0 (litKey p low k) + g.ticks)) m.mica.lit
  ({ m with mica := { m.mica with lit := lit } }).setGlow p low {}

/-- The stretch that the command sent last, MICA_USE and MICA_ROT give now. -/
def Part.glowNow (m : Part) (p : Nat) (low : Bool) : Glow :=
  let c := m.word (R.FLK_LASTC.addr p)
  if low then { w := bitsOf c 10 10, r := m.get F.MICA_ROT_R_LS p, u := m.get F.MICA_USE_U_LS p }
  else { w := bitsOf c 0 10, r := m.get F.MICA_ROT_R_HS p, u := m.get F.MICA_USE_U_HS p }

/-- One tick of a switching phase: its high side is lit while its pin is high, its low side otherwise (R218, log entry 117). -/
def Part.glowTick (m : Part) (p : Nat) : Part :=
  if !m.micaOn || !m.switches p then m
  else
    let low := !(m.pwmAt p).pin
    let g := m.glowAt p low
    let now := m.glowNow p low
    if { g with ticks := 0 } = now then m.setGlow p low { g with ticks := g.ticks + 1 }
    else (m.endGlow p low).setGlow p low { now with ticks := 1 }

/-- Lit time of a segment, the stretch that runs with it. -/
def Part.litTicks (m : Part) (p : Nat) (low : Bool) (k : Nat) : Nat := (m.endGlow p low).mica.lit.get 0 (litKey p low k)

/-- AGE_INCREMENT: a segment's lit time has reached UNIT hours; its AGE rises and its accumulation restarts (R218). -/
def State.ageIncrement (s : State) (p : Nat) (low : Bool) (k : Nat) : State :=
  let m := s.part
  if m.micaOn && decide (m.get F.MICA_AGE_UNIT 0 * 3600000 * m.kHz ≤ m.litTicks p low k) then
    let a := segAge s.mem p low k
    let m := m.endGlow p low
    let m := { m with mica := { m.mica with lit := m.mica.lit.set 0 (litKey p low k) 0 } }
    { s with mem := Mem.setByte s.mem (segAddr p low k) (BitVec.ofNat 8 (64 * segHealth s.mem p low k + min 63 (a + 1))), part := m }
  else s

/-! ## Surveys (R219, R220) -/

/-- HEALTH after a survey's result. -/
def surveyHealth (res h : Nat) : Nat :=
  match res with
  | 0 => if h = 1 then 0 else h
  | 1 => if h = 0 then 1 else h
  | 2 => if h < 2 then 2 else h
  | _ => h

/-- Results of segments from `k` on of a side, put into the segment map: a segment that fails leaves a record (R36). -/
def State.surveyResults (s : State) (p : Nat) (low : Bool) : Nat → List Nat → State
  | _, [] => s
  | k, r :: t =>
    let h := segHealth s.mem p low k
    let h' := surveyHealth r h
    let s := if h' = h then s else { s with mem := setHealth s.mem p low k h' }
    let s := if h' = 2 && h != 2 then s.lift (fun m => m.event (codeOf 6 2) (srcPhase p) 0 (m.word R.MICA_STAT.base).toNat) else s
    State.surveyResults s p low (k + 1) t

/-- A write of 1 to MICA_CTRL.SURVEY starts a survey, unless one runs or segments are managed by a program (R219, R222). -/
def Part.surveyStart (m : Part) : Part :=
  if m.mica.survey.isSome then m
  else if m.is F.MICA_CTRL_XSEG 0 then m.put F.MICA_CTRL_SURVEY 0 0
  else
    let m := ((m.put F.MICA_CTRL_SURVEY 0 1).put F.MICA_STAT_SBUSY 0 1).put F.MICA_SSTAT_SKIP 0 0
    (m.setProg R.MICA_PROG 0 0 1).surveyFrom 128 0

/-- Words of SRES: eight segments each, two bits a segment (R198). -/
def sresOf (data : List Nat) : List Nat := data.flatMap (fun w => (List.range 8).map (fun i => w / 4 ^ i % 4))

/-- The answer to a survey's transaction: on while SURV reads busy the poll is repeated; results are recorded as they are read, ITEM
naming the segment (R219). -/
def State.surveyAnswered (s : State) (n : Nat) (t : FlkTrans) (data : List Nat) : State :=
  let m := s.part.setFlkLane n { s.part.flkLane n with trans := none }
  let s := { s with part := m }
  match m.mica.survey with
  | none => s
  | some k =>
    let p := surveyPhase k
    let step := m.mica.surveyStep
    if p != 8 * n + t.pos || some t.addr != (surveyTrans p 0 step).map (fun x => x.addr) then s
    else if (step = 1 || step = 5) && decide (2 ^ 15 ≤ data.headD 0) then s
    else
      let next := fun (m : Part) => { m with mica := { m.mica with surveyStep := step + 1 } }
      if step % 4 < 2 then s.lift next
      else
        let low := decide (4 ≤ step)
        let s := s.surveyResults p low (512 * (step % 4 - 2)) (sresOf (data.take 64))
        s.lift (fun m =>
          let done := surveyRecorded (step + 1)
          (next m).setProg R.MICA_PROG (2048 * p + min 2047 done) (2048 * k + done) 262144)

/-- SURVEY_STAGE_DONE: the results of both sides are recorded; a rebuild of both is due, and the next stage follows (R216, R219). A
survey that Clove's step 1 defers holds its position (R255). -/
def Part.surveyStageDone (m : Part) (p : Nat) : Part :=
  match m.mica.survey with
  | none => m
  | some k =>
    if !m.surveying p || m.stepInForce 1 || decide (m.mica.surveyStep < 8) then m
    else
      let more := if m.micaOn then [2 * p, 2 * p + 1].filter (fun k => !m.mica.due.contains k) else []
      let m := { m with mica := { m.mica with due := m.mica.due ++ more } }
      m.surveyFrom (127 - k) (k + 1)

/-- A write of 1 to MICA_CTRL.ABORT (R220). -/
def Part.surveyAbort (m : Part) : Part :=
  if m.mica.survey.isNone then m
  else
    let m := { m with mica := { m.mica with survey := none } }
    ((m.put F.MICA_CTRL_SURVEY 0 0).put F.MICA_STAT_SBUSY 0 0).put F.MICA_STAT_SABORT 0 1

/-! ## Lanes (R197, R200 to R206, R247) -/

/-- A transaction has failed for good: its owner hears of it and a record is made (R197). -/
def Part.transFailed (m : Part) (n : Nat) (t : FlkTrans) (result : Nat) : Part :=
  let m := m.setFlkLane n { m.flkLane n with trans := none }
  let m := m.put F.FLK_LSTAT_MFAIL n 1
  let m := if t.raw then (m.put F.FLK_MSTAT_RESULT n result).put F.FLK_MCMD_GO n 0 else m
  m.event (codeOf 5 2) (srcLane n) 0 (m.word R.FLK_STAT.base).toNat

/-- Bring-up fails (R200, R502). -/
def Part.bringUpFails (m : Part) (n : Nat) (flag : FieldAt) : Part :=
  let old := m.lnState n
  let m := m.setFlkLane n { m.flkLane n with trans := none, bring := 0 }
  let m := ((m.put flag n 1).put F.FLK_LCFG_EN n 0).setLnState n lnOff
  m.event (codeOf 5 1) (srcLane n) (old * 256) (bitsOf (m.word (R.FLK_LSTAT.addr n)) 4 4)

/-- The owner of a transaction that failed for good: bring-up fails; a rebuild or a rotation has a failed download; a survey goes on
with the next stage (R197, R200, log entry 39). -/
def Part.ownerTold (m : Part) (n : Nat) (t : FlkTrans) : Part :=
  if t.raw then m
  else match t.work, (m.flkLane n).jobs with
    | .config, _ => if m.lnState n = lnConfig then m.bringUpFails n F.FLK_LSTAT_MFAIL else m
    | .job, .rebuild p low :: _ => ((m.rebuilt p low).put F.MICA_STAT_DLFAIL 0 1).endJob n
    | .job, .rotate _ :: _ => (m.put F.MICA_STAT_DLFAIL 0 1).endJob n
    | .job, .faults _ :: _ => m.endJob n
    | .survey, _ => match m.mica.survey with
      | some k => if surveyPhase k = 8 * n + t.pos then m.surveySkip k else m
      | none => m
    | _, _ => m

/-- The transaction under way on a lane that is lost or disabled fails without retry (R206). -/
def Part.transDropped (m : Part) (n : Nat) : Part :=
  match (m.flkLane n).trans with
  | some t => (m.transFailed n t 3).ownerTold n t
  | none => if m.is F.FLK_MCMD_GO n then (m.put F.FLK_MSTAT_RESULT n 3).put F.FLK_MCMD_GO n 0 else m

/-- Mica's jobs on the lane end with its service, and so do the rebuilds due there: bring-up repeats them (R200, R205). -/
def Part.dropJobs (m : Part) (n : Nat) : Part :=
  let m := m.setFlkLane n { m.flkLane n with jobs := [], step := 0, order := [], usable := 0 }
  let due := m.mica.due.filter (fun k => laneOf (k / 2) ≠ n)
  let m := { m with mica := { m.mica with due := due } }
  if due.isEmpty then m.put F.MICA_CTRL_REBUILD 0 0 else m

/-- A lane is declared lost (R202, R203, R206, R247). -/
def Part.laneLost (m : Part) (n : Nat) : Part :=
  if m.lnState n != lnUp then m
  else
    let rails := allRails.filter (fun r => (lanePhases n).any (fun p => m.phRail p = r && m.switches p))
    let m := (m.setLnState n lnLost).putBit F.FLK_STAT_LOSTF 0 n true
    let m := m.stateEvent 5 (srcLane n) lnUp lnLost
    let m := m.each rails (fun r m => m.raise 0x9400 r (m.policy 5) (srcRail r) (lane := n))
    let m := m.each (lanePhases n) (fun p m => m.dropTask (currTask p))
    ((m.framesStop n).transDropped n).dropJobs n

/-- A write of 1 to EN starts bring-up (R200). -/
def Part.bringUpStart (m : Part) (n : Nat) : Part :=
  (m.setFlkLane n { m.flkLane n with trans := none, bring := 0 }).setLnState n lnTrain

/-- A lane in service stops: a write of 0 to EN. -/
def Part.laneOff (m : Part) (n : Nat) : Part := (((m.setLnState n lnOff).framesStop n).transDropped n).dropJobs n

/-- A phase of the lane is in ACTIVE, DRAINING or JOINING (R206). -/
def Part.laneSwitches (m : Part) (n : Nat) : Bool := (lanePhases n).any m.switches

/-- A write of FLK_LCFGn is refused (R206, R456 and the field descriptions). -/
def Part.lcfgRefused (m : Part) (n : Nat) (v : Word) : Bool :=
  let np := fieldOf v F.FLK_LCFG_NPOS
  let en := m.is F.FLK_LCFG_EN n
  decide (fieldOf v F.FLK_LCFG_STO < 3) || np = 0 || decide (8 < np) || (en && m.changes F.FLK_LCFG_NPOS n v) ||
    (en && fieldOf v F.FLK_LCFG_EN = 0 && m.laneSwitches n) || (!en && fieldOf v F.FLK_LCFG_EN = 1 && m.domainOff (6 + n / 8))

def Part.writeLcfg (m : Part) (i : Initiator) (n : Nat) (v : Word) : Part :=
  let a := R.FLK_LCFG.addr n
  if m.lcfgRefused n v then m.refuse (F.FLK_LSTAT_REFUSED.at n) i a v
  else
    let was := m.is F.FLK_LCFG_EN n
    let m := m.plainWrite a v
    let now := m.is F.FLK_LCFG_EN n
    if now && !was then m.bringUpStart n else if was && !now then m.laneOff n else m

/-- A write of FLK_MCMDn: GO starts a raw transaction (R197). -/
def Part.writeMcmd (m : Part) (i : Initiator) (n : Nat) (v : Word) : Part :=
  let a := R.FLK_MCMD.addr n
  if m.is F.FLK_MCMD_GO n then m.refuse (F.FLK_LSTAT_REFUSED.at n) i a v
  else
    let m := m.plainWrite a v
    if m.is F.FLK_MCMD_GO n && m.lnState n != lnUp then
      (m.put F.FLK_MSTAT_RESULT n 3).put F.FLK_MCMD_GO n 0
    else m

/-- A fabric write to a register of the FLK block. -/
def Part.writeFLK (m : Part) (i : Initiator) (a : Nat) (v : Word) : Part :=
  if R.FLK_LCFG.covers a then m.writeLcfg i (R.FLK_LCFG.inst a) v
  else if R.FLK_MCMD.covers a then m.writeMcmd i (R.FLK_MCMD.inst a) v
  else if R.FLK_MBUF.covers a then
    let n := (a - R.FLK_LCFG.base) / 0x100
    if m.is F.FLK_MCMD_GO n then m.refuse (F.FLK_LSTAT_REFUSED.at n) i a v else m.plainWrite a v
  else m.plainWrite a v

/-- The receiver aligns during bring-up: ENUM frames begin (R200). -/
def Part.receiverAligned (m : Part) (n : Nat) : Part := if m.lnState n = lnTrain then m.setLnState n lnEnum else m

/-- 64 consecutive valid ENUM frames have returned with HOP = `found` (R200 step 4). -/
def Part.enumerationComplete (m : Part) (n found : Nat) : Part :=
  if m.lnState n != lnEnum then m
  else if found = m.npos n then (m.setFlkLane n { m.flkLane n with bring := 0, trans := none }).setLnState n lnConfig
  else m.bringUpFails n F.FLK_LSTAT_TOPO

/-- A limit of bring-up has passed: step 4's sets TOPO, step 7's sets TRAINF (R200). -/
def Part.bringUpTimeout (m : Part) (n : Nat) : Part :=
  let st := m.lnState n
  if st = lnTrain || st = lnEnum then m.bringUpFails n F.FLK_LSTAT_TOPO
  else if st = lnConfig then m.bringUpFails n F.FLK_LSTAT_TRAINF
  else m

/-- Effect of a configuration transaction's answer (R200, R205, R216). -/
def State.configAnswered (s : State) (n : Nat) (t : FlkTrans) (data : List Nat) : State :=
  let p := 8 * n + t.pos
  let x := s.part.flkLane n
  let next := fun (s : State) (x : FlkLane) =>
    s.lift (fun m =>
      let m := m.setFlkLane n { x with trans := none, bring := x.bring + 1 }
      if m.npos n * (1 + m.configSteps) ≤ x.bring + 1 then m.setLnState n lnUp else m)
  if t.addr = 0 && !t.wr then
    let cls := data.headD 0
    if cls / 256 = 0x5A && 1 ≤ cls % 256 then next s x else s.lift (fun m => m.bringUpFails n F.FLK_LSTAT_IDERR)
  else if t.addr = 0x20 then next s { x with faults := min 8 (data.headD 0) }
  else if t.addr = 0x21 then next (s.segmentsFail p (data.take x.faults)) x
  else if t.addr = 0x10 then
    next (s.lift (fun m => m.setStageCfg p (some ⟨t.data.getD 0 0, t.data.getD 1 0, t.data.getD 2 0, t.data.getD 3 0⟩))) x
  else if t.addr = 0x14 then next s { x with stagedHs := t.data.getD 0 0, stagedLs := t.data.getD 1 0 }
  else if t.addr = 0x18 then
    next (s.lift (fun m =>
      let m := (m.put F.MICA_USE_U_HS p x.stagedHs).put F.MICA_USE_U_LS p x.stagedLs
      let m := (m.put F.MICA_ROT_R_HS p 0).put F.MICA_ROT_R_LS p 0
      let os := (m.mica.orders.set [] (2 * p) (lightingOrder s.mem p false)).set [] (2 * p + 1) (lightingOrder s.mem p true)
      let m := { m with mica := { m.mica with orders := os } }
      m.retireIfShort s.mem p)) x
  else next s x

/-- Words a read put into FLK_MBUF (R197). -/
def Part.fillMbuf (m : Part) (n : Nat) (data : List Nat) : Part :=
  (List.range data.length).foldl (fun (m : Part) (k : Nat) =>
    let a := R.FLK_MBUF.base + 0x100 * n + 4 * (k / 2)
    m.setWord a (withBits (m.word a) (16 * (k % 2)) 16 (data.getD k 0))) m

/-- A transaction fails once: it is retried up to RETRY times, then given up (R197). -/
def State.transFails (s : State) (n : Nat) (t : FlkTrans) (result : Nat) : State :=
  s.lift (fun m =>
    let x := m.flkLane n
    if t.tries < m.get F.FLK_LCFG_RETRY n then
      m.setFlkLane n { x with trans := some { t with sent := 0, tries := t.tries + 1, tag := x.tag }, tag := (x.tag + 1) % 256,
                              resp := [], broken := false }
    else (m.transFailed n t result).ownerTold n t)

/-- Effect of the answer to a job's transaction (R215 to R217, R221): the fault list's segments fail and their sides are rebuilt; a rebuild
waits until no activation is pending, then forms its order; ACTIVATE takes the staged values into force. -/
def State.jobAnswered (s : State) (n : Nat) (data : List Nat) : State :=
  let s := s.lift (fun m => m.setFlkLane n { m.flkLane n with trans := none })
  let x := s.part.flkLane n
  let next := fun (y : FlkLane) => s.lift (fun m => m.setFlkLane n { y with step := x.step + 1 })
  match x.jobs with
  | [] => s
  | .faults p :: _ =>
    if x.step = 0 then
      if data.headD 0 = 0 then s.lift (fun m => m.endJob n) else next { x with faults := min 8 (data.headD 0) }
    else
      let l := data.take x.faults
      (s.segmentsFail p l).lift (fun m =>
        let m := m.endJob n
        let m := if l.any (fun f => decide (f % 2048 < 1024)) then m.addJob n (.rebuild p false) else m
        if l.any (fun f => decide (1024 ≤ f % 2048)) then m.addJob n (.rebuild p true) else m)
  | .rebuild p low :: _ =>
    if x.step = 0 then
      if data.headD 0 / 4 % 2 = 1 then s
      else next { x with order := lightingOrder s.mem p low, usable := usableCount s.mem p low }
    else if x.step < 20 then next x
    else s.lift (fun m => (m.endJob n).activated s.mem p low x.usable x.order)
  | .rotate p :: _ =>
    if x.step = 0 then next x
    else s.lift (fun m => ((m.endJob n).put F.MICA_ROT_R_HS p (m.rotated p false)).put F.MICA_ROT_R_LS p (m.rotated p true))

/-- Fields of R0: [15:14], POS, RCODE, TAG (R196). -/
def r0Code (w : Nat) : Nat := w / 256 % 8

/-- R0 is that of the transaction's response: the mark, the POS and the TAG sent (R196, R197). -/
def r0Match (t : FlkTrans) (w : Nat) : Bool := w / 2 ^ 14 % 4 = 3 && w / 2 ^ 11 % 8 = t.pos % 8 && w % 256 = t.tag % 256

/-- The response is complete: R0 alone of a write, of an error or of another transaction, R0 and the data of a read (R196). -/
def responseDone (t : FlkTrans) : List Nat → Bool
  | [] => false
  | w :: d => t.wr || r0Code w != 0 || !r0Match t w || decide (t.len ≤ d.length)

/-- A received frame brings its management word to the response that the lane waits for: R0 is the first word with the mark 0b11, and a
frame that is not valid inside the response breaks it (R196, R197). -/
def Part.gatherWord (m : Part) (n : Nat) (word : Option Nat) : Part :=
  let x := m.flkLane n
  match x.trans with
  | none => m
  | some t =>
    if t.sent < (requestWords t).length || responseDone t x.resp then m
    else match word with
      | none => if x.resp.isEmpty then m else m.setFlkLane n { x with broken := true }
      | some w => if x.resp.isEmpty && w / 2 ^ 14 % 4 != 3 then m else m.setFlkLane n { x with resp := x.resp ++ [w] }

/-- MANAGEMENT_RESPONSE: the response gathered is complete, or broken. It fails by an RCODE, another TAG or POS, or a frame that was not
valid; otherwise its owner has the data (R197). -/
def State.managementResponse (s : State) (n : Nat) : State :=
  let x := s.part.flkLane n
  match x.trans with
  | none => s
  | some t =>
    let w := x.resp.headD 0
    let data := x.resp.tail.take t.len
    if t.sent < (requestWords t).length || !(x.broken || responseDone t x.resp) then s
    else
      let s := s.lift (fun m => if t.raw then m.put F.FLK_MSTAT_RCODE n (r0Code w) else m)
      if x.broken || !r0Match t w || r0Code w != 0 then s.transFails n t 2
      else if t.raw then
        s.lift (fun m =>
          let m := m.setFlkLane n { m.flkLane n with trans := none }
          let m := if t.wr then m else m.fillMbuf n data
          (m.put F.FLK_MSTAT_RESULT n 0).put F.FLK_MCMD_GO n 0)
      else match t.work with
        | .config => if s.part.lnState n = lnConfig then s.configAnswered n t data else s
        | .job => s.jobAnswered n data
        | .survey => s.surveyAnswered n t data
        | .rewrite =>
          s.lift (fun m =>
            (m.setFlkLane n { m.flkLane n with trans := none }).setStageCfg (8 * n + t.pos)
              (some ⟨t.data.getD 0 0, t.data.getD 1 0, t.data.getD 2 0, t.data.getD 3 0⟩))

/-- MANAGEMENT_TIMEOUT: 32 frames have passed after the request without R0 (R197). -/
def State.managementTimeout (s : State) (n : Nat) : State :=
  let x := s.part.flkLane n
  match x.trans with
  | none => s
  | some t => if t.sent < (requestWords t).length || !x.resp.isEmpty then s else s.transFails n t 1

/-! ## Reports (R194, R228, R229, R234, R238) -/

/-- One accepted report of a phase. One of the new epoch during STEERING reaches no loop (R235). -/
def Part.acceptReport (m : Part) (p : Nat) (w : Word) : Part :=
  let m := m.setWord (R.FLK_LASTR.addr p) w
  let m := if bitsOf w 27 1 = 1 then m.bump F.FLK_LCNT2_HELD (laneOf p) else m
  let m := if bitsOf w 26 1 = 1 then m.put F.MICA_STAT_SEGF 0 1 else m
  let e := bitsOf w 28 2
  let ep := m.get F.POOL_PSTAT_EPOCH p
  let new := decide (bitsOf w 24 1 = 1)
  let cur := toSigned 16 (bitsOf w 0 16)
  let temp : Int := ((bitsOf w 16 8 : Nat) - 40 : Int) * 64
  let x := m.poolAt p
  let x := if !new || e = ep then { x with temp := temp } else x
  let x := if e = ep then { x with reported := true, ready := decide (bitsOf w 25 2 = 0),
                                   openConf := x.openConf || decide (m.phState p = phSteering) } else x
  if !new then m.setPool p x
  else if e = ep then
    let x := { x with repI := cur, repRail := m.phRail p }
    if m.phState p = phSteering then m.setPool p x
    else (m.setPool p { x with imeas := cur, fresh := true, inLoop := true }).drainReport p cur
  else if (e + 1) % 4 = ep then m.setPool p { x with repI := cur, repRail := x.oldRail }
  else (m.setPool p x).event (codeOf 10 2) (srcPhase p) (1 + e * 256 + ep * 1024) w.toNat

/-- A byte of a frame by its symbol number, 1 to 69. -/
def symbolAt (symbols : List Byte) (k : Nat) : Nat := (symbols.getD (k - 1) 0).toNat

/-- The CRC of R186 over symbols 1 to 67 stands in symbols 68 and 69. -/
def frameCrcOk (symbols : List Byte) : Bool :=
  decide (symbols.length = 69) && decide (crc16 (symbols.take 67) = 256 * symbolAt symbols 68 + symbolAt symbols 69)

/-- HOP of a frame. -/
def frameHop (symbols : List Byte) : Nat := symbolAt symbols 1 % 16

/-- Report slot `i` of a frame, least significant byte first (R185). -/
def reportSlot (symbols : List Byte) (i : Nat) : Word :=
  BitVec.ofNat 32 ((List.range 4).foldl (fun acc k => acc + symbolAt symbols (36 + 4 * i + k) * 256 ^ k) 0)

/-- A frame is valid at the receiver: symbol 0 was K28.5 and every symbol decoded, which `clean` says; the CRC is correct, and HOP is
NPOS (R187). -/
def Part.frameValid (m : Part) (n : Nat) (clean : Bool) (symbols : List Byte) : Bool :=
  clean && frameCrcOk symbols && decide (frameHop symbols = m.npos n)

/-- A frame comes back to the lane's receiver: not valid, or with eight report slots and a management word (R187, R194, R197). -/
def Part.frameReceive (m : Part) (n : Nat) (clean : Bool) (symbols : List Byte) : Part :=
  if m.lnState n < lnEnum then m
  else if !m.frameValid n clean symbols then
    let m := (m.bump F.FLK_LCNT1_BAD n).gatherWord n none
    if clean && frameCrcOk symbols then m.bump F.FLK_LCNT1_HOP n else m
  else
    let m := m.gatherWord n (some (256 * symbolAt symbols 2 + symbolAt symbols 3))
    m.each (List.range (m.npos n)) (fun i m =>
      let w := reportSlot symbols i
      if reportParity w then m.acceptReport (8 * n + i) w else m.bump F.FLK_LCNT2_PAR n)

/-! ## MICA registers and RAIL_OPT -/

/-- XSEG is set: Mica does none of R215 to R219 any more. Its jobs and a survey end where they are; neither SDONE nor SABORT reports it
(R222, log entry 46). -/
def Part.micaStops (m : Part) : Part :=
  let m := m.each allLanes (fun n m => m.dropJobs n)
  let m := { m with mica := { m.mica with survey := none, due := [] } }
  ((m.put F.MICA_CTRL_SURVEY 0 0).put F.MICA_STAT_SBUSY 0 0).put F.MICA_CTRL_REBUILD 0 0

/-- A write of MICA_CTRL (R32, R216, R219, R220, R222). -/
def Part.writeMicaCtrl (m : Part) (i : Initiator) (v : Word) : Part :=
  let a := R.MICA_CTRL.base
  if (m.changes F.MICA_CTRL_XOPT 0 v || m.changes F.MICA_CTRL_XSEG 0 v) && !m.allOff then m.refuse F.MICA_STAT_REFUSED i a v
  else
    let m := m.plainWrite a (v &&& 0x23)
    let m := if m.is F.MICA_CTRL_XSEG 0 then m.micaStops else m
    let m := if fieldOf v F.MICA_CTRL_ABORT = 1 then m.surveyAbort else m
    let m := if fieldOf v F.MICA_CTRL_SURVEY = 1 then m.surveyStart else m
    if fieldOf v F.MICA_CTRL_REBUILD = 1 then m.rebuildAll else m

/-- A fabric write to a register of the MICA block. -/
def Part.writeMICA (m : Part) (i : Initiator) (a : Nat) (v : Word) : Part :=
  let no := m.refuse F.MICA_STAT_REFUSED i a v
  if a = R.MICA_CTRL.base then m.writeMicaCtrl i v
  else if a = R.MICA_CFG.base then if fieldOf v F.MICA_CFG_SPREAD = 0 then no else m.plainWrite a v
  else if a = R.MICA_AGE.base then if fieldOf v F.MICA_AGE_UNIT = 0 then no else m.plainWrite a v
  else if R.MICA_USE.covers a then
    let good := fun (u : Nat) => decide (1 ≤ u) && decide (u ≤ 1024)
    if m.is F.MICA_CTRL_XSEG 0 && good (fieldOf v F.MICA_USE_U_HS) && good (fieldOf v F.MICA_USE_U_LS) then
      m.setWord a (v &&& 0x07FF07FF)
    else no
  else if R.MICA_ROT.covers a then
    if m.is F.MICA_CTRL_XSEG 0 then m.setWord a (v &&& 0x03FF03FF) else no
  else m.plainWrite a v

/-- A write of RAIL_OPT (R207, R221). -/
def Part.writeRailOpt (m : Part) (i : Initiator) (r : Nat) (v : Word) : Part :=
  let a := R.RAIL_OPT.addr r
  if 48 ≤ fieldOf v F.RAIL_OPT_PROFILE || m.railState r != railOff then m.refuse F.MICA_STAT_REFUSED i a v
  else m.plainWrite a v

/-! ## The rows -/

def execFrameTransmit (n : Fin 16) (s : State) : Out := .next (s.lift (fun m => m.frameTransmit s.mem n))
def execFrameReceive (n : Fin 16) (comma decoded : Bool) (symbols : List Byte) (s : State) : Out :=
  .next (s.lift (fun m => m.frameReceive n (comma && decoded) symbols))
def execLaneLoss (n : Fin 16) (s : State) : Out := .next (s.lift (fun m => m.laneLost n))

/-- BRING_UP_START: a write of FLK_LCFGn with its other fields as they stand and EN = 1. -/
def execBringUpStart (i : Initiator) (n : Fin 16) (s : State) : Out :=
  .next (s.lift (fun m => m.writeLcfg i n (withBits (m.word (R.FLK_LCFG.addr n)) 31 1 1)))
def execEnumerationComplete (n : Fin 16) (found : Nat) (s : State) : Out :=
  .next (s.lift (fun m => m.enumerationComplete n found))
def execBringUpTimeout (n : Fin 16) (s : State) : Out := .next (s.lift (fun m => m.bringUpTimeout n))
def execLaneDisableWrite (i : Initiator) (n : Fin 16) (v : Word) (s : State) : Out :=
  .next (s.lift (fun m => m.writeLcfg i n (withBits v 31 1 0)))
def execManagementResponse (n : Fin 16) (_ _ _ : Unit) (s : State) : Out := .next (s.managementResponse n)
def execManagementTimeout (n : Fin 16) (s : State) : Out := .next (s.managementTimeout n)
def execRawTransaction (i : Initiator) (n : Fin 16) (v : Word) (s : State) : Out :=
  .next (s.lift (fun m => m.writeMcmd i n (withBits v 31 1 1)))
def execReceiverAlignment (n : Fin 16) (s : State) : Out := .next (s.lift (fun m => m.receiverAligned n))
def execSegmentFaultHandling (p : Fin 128) (_ _ : Unit) (s : State) : Out := .next (s.lift (fun m => m.handleFaults p))
def execRebuild (p : Fin 128) (low : Bool) (_ : Unit) (s : State) : Out := .next (s.lift (fun m => m.rebuildSide s.mem p low))
def execRebuildAll (i : Initiator) (s : State) : Out :=
  .next (s.lift (fun m => m.writeMicaCtrl i (withBits (m.word R.MICA_CTRL.base &&& 0x23) 4 1 1)))
def execRotation (p : Fin 128) (_ : Unit) (s : State) : Out := .next (s.lift (fun m => m.rotateStage p))
def execAgeIncrement (p : Fin 128) (low : Bool) (seg : Fin 1024) (s : State) : Out := .next (s.ageIncrement p low seg)
def execSurveyStart (i : Initiator) (s : State) : Out :=
  .next (s.lift (fun m => m.writeMicaCtrl i (withBits (m.word R.MICA_CTRL.base &&& 0x23) 2 1 1)))
def execSurveyStageDone (p : Fin 128) (_ : Unit) (s : State) : Out := .next (s.lift (fun m => m.surveyStageDone p))
def execSurveyAbort (i : Initiator) (s : State) : Out :=
  .next (s.lift (fun m => m.writeMicaCtrl i (withBits (m.word R.MICA_CTRL.base &&& 0x23) 3 1 1)))

end Sys2Proof.Machine
end

