-- ==== Sys2Proof/Machine/Rails.lean ====
section
/-! DEFINITION. Rail states, requests to a rail, the RAIL registers, discharge, and the fault manager (R26 to R28, R77,
R87, R104, R301 to R318). -/
namespace Sys2Proof.Machine

/-! ## Entering states -/

/-- A DEVICE response is in force (R308). -/
def Part.deviceOn (m : Part) : Bool := m.is F.FLT_STAT_DEVICE 0

/-- Tasks of a rail: its voltage task and the current tasks of its phases. -/
def Part.railTasks (m : Part) (r : Nat) : List Task :=
  voltTask r :: (allPhases.filter (fun p => m.phRail p = r && m.switches p)).map currTask

/-- The results of a rail's invocations are discarded (R114); a fault response counts them (R318). -/
def Part.discardWork (m : Part) (r : Nat) (count : Bool) : Part :=
  (m.railTasks r).foldl (fun m t =>
    if m.outstanding t then
      let m := m.dropTask t
      if count then m.bump F.RAIL_FSTAT_DISC r else m
    else m) m

/-- HAND of a rail: a response of LIMIT or above is in force on it, or a DEVICE response on the device (R301). -/
def Part.refreshHand (m : Part) (r : Nat) : Part :=
  let resp := m.get F.RAIL_FSTAT_RESP r
  m.put F.RAIL_FSTAT_HAND r (if m.deviceOn || (2 ≤ resp && resp ≤ 5) then 1 else 0)

/-- The severity of the rail's own responses in force, a DEVICE response apart; 7 for none. -/
def RailFault.ownResp (x : RailFault) : Nat :=
  if x.latch then 4 else if x.trip then 3 else if x.limit || x.laneLoss then 2 else 7

/-- No response is left on the rail (R305, R309). -/
def Part.clearResponses (m : Part) (r : Nat) : Part :=
  let m := m.setRailFault r {}
  (((m.put F.RAIL_FSTAT_RESP r 7).put F.RAIL_FSTAT_CODE r 0).put F.RAIL_FSTAT_LATCHED r 0).refreshHand r

/-- The rail leaves OFF where it is enabled, the boot image is accepted and no DEVICE response is in force (R26, R27, R308). -/
def Part.tryArm (m : Part) (r : Nat) : Part :=
  if m.railState r = railOff && m.is F.RAIL_CTRL_EN r && !m.tb.boot && !m.deviceOn then
    let m := (m.setRail r railArming).setBslRail r { m.bslRail r with noPlan := false }
    m.assignPhases r
  else m

/-- The rail enters OFF: its active phases park and no response stays in force (R228, R305). A phase in DRAINING finishes its drain
first, as R228 has no way from there to PARKED (log entry 16). Where the rail was shut for re-admission, what is left is looked at
again (R38). -/
def Part.railToOff (m : Part) (r : Nat) : Part :=
  let m := m.discardWork r false
  let m := m.setRail r railOff
  let m := m.each (allPhases.filter (fun p => m.phRail p = r && m.phState p = phActive)) (fun p m => m.parkPhase p 5)
  let m := m.setBslRail r { m.bslRail r with shut := false }
  ((m.clearResponses r).tryArm r).continueReadmit

/-- Committed IREF during a discharge (R306). -/
def Part.dischargeIref (m : Part) (mem : Mem) (r : Nat) (active : Bool) : Part :=
  m.putIref r (if active then -((min (m.get F.RAIL_DISI_IDIS r) (m.sinkInForce mem r) : Nat) : Int) else 0)

/-- The rail enters DISCHARGE (R306). -/
def Part.startDischarge (m : Part) (mem : Mem) (r : Nat) (passive : Bool) : Part :=
  let active := !passive && m.is F.RAIL_DISI_MODE r
  let m := m.setRail r railDischarge
  let m := m.setRailFault r { m.railFault r with activeDis := active, vend := m.get F.RAIL_DIS_VEND r }
  m.dischargeIref mem r active

/-- A rail request that the fabric made is discarded (R28). -/
def Part.discard (m : Part) (i : Initiator) (addr : Nat) (v : Word) : Part :=
  (m.put F.BSL_ERR_DISC 0 1).refusedWrite i addr v

/-- Phases that a faulted rail has in DRAINING, or that are to enter it: their moves end, with a record of the pool where no
transition makes one, and they stay with its other phases (R247, R318). -/
def Part.drainsEnd (m : Part) (r : Nat) : Part :=
  m.each (allPhases.filter (fun p => m.phRail p = r)) (fun p m =>
    if m.phState p = phDraining then (m.setPool p { m.poolAt p with ramp := 32768 }).backToActive p 5
    else if m.phState p = phActive && (m.poolAt p).move.isSome then
      (m.endMove p 5).event (codeOf 10 2) (srcPhase p) 0 (m.word R.POOL_STAT.base).toNat
    else m)

/-- The rail enters DISCHARGE through FAULTED (R26, R306): its work is discarded and counted, its drains end. -/
def Part.dischargeAnew (m : Part) (mem : Mem) (r : Nat) (device : Bool) : Part :=
  (((m.discardWork r true).setRail r railFaulted).drainsEnd r).startDischarge mem r device

/-- The rail's regulating state for its selected source; entry to TRACK squashes (R64, R68). -/
def Part.enterSource (m : Part) (r : Nat) : Part :=
  let st := railTrack + m.sourceOf r
  let was := m.railState r
  let m := m.setRail r st
  if st = railTrack && was != railTrack then m.squash r true else m

/-- A change of source is asked for: taken in TRACK, HOLD and FOLLOW (R26). A rail in SOFTSTART or FALLBACK that comes to follow a
plan and has none starts one (R64, log entry 104). -/
def Part.changeSource (m : Part) (r : Nat) : Part :=
  let st := m.railState r
  if (st = railSoftstart || st = railFallback) && m.tracks r && (m.plan r).cfg.isNone then m.squash r true else
  if (st = railTrack || st = railHold || st = railFollow) && st != railTrack + m.sourceOf r then m.enterSource r else m

/-! ## Leaving ARMING and SOFTSTART (R26, R77, R87, R104) -/

/-- The rail's sense slice delivers valid conversions (R26). -/
def Part.senseValid (m : Part) (r : Nat) : Bool :=
  bitsOf (m.word (resAddr r 0)) 31 1 = 1 && !m.is F.ADC_SPSTAT_STALE r

/-- The rail and its assigned phases as they stand in SOFTSTART (R87, R229). -/
def Part.inSoftstart (m : Part) (r : Nat) : Part :=
  let ps := m.assigned r
  let v := m.vrail r
  let m := m.setRail r railSoftstart
  let m := m.setBslRail r { m.bslRail r with setp := v, last := m.tb.ticks, target := none }
  m.each ps (fun p m => (m.setPool p { m.poolAt p with ramp := 32768 }).setPhase p phActive true)

/-- A rail in ARMING is looked at: it is held while Saffron is off and TRACK its source; otherwise, with its phases ready
and its sense valid, admission decides (R26, R77, R104). The flag and the record of the hold come at the first look, not at the
enable, a moment that the spec leaves open (DESIGN CHOICE, log entry 114). -/
def Part.leaveArming (m : Part) (r : Nat) : Part :=
  if m.railState r != railArming then m
  else
    let m := m.assignPhases r
    if m.get F.RAIL_SRC_SRC r = 0 && !m.is F.SAF_CTRL_EN 0 then
      if (m.bslRail r).noPlan then m
      else
        let m := (m.put F.SAF_ERR_NOPLAN 0 1).setBslRail r { m.bslRail r with noPlan := true }
        m.event (codeOf 8 2) (srcRail r) 4 (m.word (R.RAIL_SRC.addr r)).toNat
    else if m.armingReady r && m.senseValid r then
      let m := m.releaseLanes
      let m' := m.inSoftstart r
      match m'.decideAdmission with
      | .ok m'' => if m''.needsPlan r then m''.squash r true else m''
      | .error e => m.admitRefused e 1 (srcRail r) true m'.demand
    else m

/-- SOFTSTART ends when SETP equals the target and VRAIL is within the FEV limit (R87). -/
def Part.softstartComplete (m : Part) (r : Nat) : Part :=
  let x := m.bslRail r
  if m.railState r = railSoftstart && x.target = some x.setp &&
      decide (((x.setp : Int) - m.vrail r).natAbs ≤ m.get F.RAIL_FEV_LIMIT r) then m.enterSource r
  else m

/-! ## Requests (R27, R28, R104) -/

/-- A disable (R26, R27): ARMING goes to OFF, a regulating rail to DISCHARGE. -/
def Part.disableRail (m : Part) (mem : Mem) (r : Nat) (passive : Bool) : Part :=
  if m.railState r = railArming then m.railToOff r
  else if m.regulating r then (m.discardWork r false).startDischarge mem r passive
  else m

/-- What became of a write of RAIL_CTRL.EN. -/
inductive EnOutcome where
  | taken | refused | discarded
deriving DecidableEq, Repr

/-- Ask for EN = `en` (R27, R28). -/
def Part.setEnable (m : Part) (mem : Mem) (r : Nat) (en passive : Bool) : EnOutcome × Part :=
  if en = m.is F.RAIL_CTRL_EN r then (.taken, m)
  else if en then
    if m.railState r = railFaulted || m.deviceOn then (.refused, m.put F.RAIL_CTRL_REF r 1)
    else (.taken, (m.put F.RAIL_CTRL_EN r 1).tryArm r)
  else if m.outranked r then (.discarded, m)
  else (.taken, (m.put F.RAIL_CTRL_EN r 0).disableRail mem r passive)

/-- A fabric write of RAIL_CTRL (R27, R28). A discarded write leaves the whole register as it was. -/
def Part.writeRailCtrl (m : Part) (mem : Mem) (i : Initiator) (r : Nat) (v : Word) : Part :=
  let a := R.RAIL_CTRL.addr r
  let en := fieldOf v F.RAIL_CTRL_EN = 1
  if !en && m.is F.RAIL_CTRL_EN r && m.outranked r then m.discard i a v
  else
  let m := if fieldOf v F.RAIL_CTRL_REF = 1 then m.put F.RAIL_CTRL_REF r 0 else m
  let o := m.setEnable mem r en false
  match o.1 with
  | .taken => o.2
  | .refused => o.2.refusedWrite i a v
  | .discarded => o.2.discard i a v

/-- A fabric write of RAIL_SRC (R28, R32, R77, R120). -/
def Part.writeRailSrc (m : Part) (i : Initiator) (r : Nat) (v : Word) : Part :=
  let a := R.RAIL_SRC.addr r
  let src := fieldOf v F.RAIL_SRC_SRC
  let st := m.railState r
  if src = 3 || 0x1F < fieldOf v F.RAIL_SRC_FIN then m.refuse F.BSL_ERR_RANGE i a v
  else if m.changes F.RAIL_SRC_MIX r v && st != railOff then m.refuse F.BSL_ERR_BOUND i a v
  else if src = 0 && st != railOff && !m.is F.SAF_CTRL_EN 0 then m.refuse F.SAF_ERR_NOPLAN i a v
  else if m.changes F.RAIL_SRC_SRC r v && (st = railTrack || st = railHold || st = railFollow) && m.outranked r then m.discard i a v
  else (m.plainWrite a v).changeSource r

/-- A request of entry to FALLBACK (R26, R28, R104). -/
def Part.requestFallback (m : Part) (i : Initiator) (r : Nat) (v : Word) : Part :=
  if m.outranked r then m.discard i (R.RAIL_LCMD.addr r) v
  else if m.regulating r && m.railState r != railFallback then m.enterFallback r
  else m

/-- A request of return from FALLBACK, which waits for admission (R28, R104). -/
def Part.requestReturn (m : Part) (i : Initiator) (r : Nat) (v : Word) : Part :=
  if m.outranked r then m.discard i (R.RAIL_LCMD.addr r) v
  else if m.railState r = railFallback then
    (m.setBslRail r { m.bslRail r with retPend := some i }).put F.RAIL_LCMD_RET r 1
  else m

/-- A fabric write of RAIL_LCMD: an entry to FALLBACK prevails over a return (R28). -/
def Part.writeRailLcmd (m : Part) (i : Initiator) (r : Nat) (v : Word) : Part :=
  let fb := fieldOf v F.RAIL_LCMD_FB = 1
  let ret := fieldOf v F.RAIL_LCMD_RET = 1
  if fb then
    let m := m.requestFallback i r v
    if ret then m.discard i (R.RAIL_LCMD.addr r) v else m
  else if ret then m.requestReturn i r v
  else m

/-- Admission decides a return from FALLBACK (R104). A rail that has left FALLBACK meanwhile discards it (R28). -/
def Part.decideReturn (m : Part) (r : Nat) : Part :=
  match (m.bslRail r).retPend with
  | none => m
  | some i =>
    let m := (m.setBslRail r { m.bslRail r with retPend := none }).put F.RAIL_LCMD_RET r 0
    if m.railState r != railFallback || m.outranked r then m.discard i (R.RAIL_LCMD.addr r) 1
    else
      let m' := m.setRail r (railTrack + m.sourceOf r)
      match m'.decideAdmission with
      | .ok m'' => if m''.railState r = railTrack then m''.squash r true else m''
      | .error e => m.admitRefused e 4 (srcRail r) true m'.demand

/-! ## Responses (R301 to R311) -/

/-- A TRIP, LATCH or DEVICE response takes the rail through FAULTED to DISCHARGE (R26, R27, R306, R308, R311). A rail that a disable
has in DISCHARGE starts a new one; a TRIP, LATCH or DEVICE response in progress (`going`) is not restarted, and a DEVICE response
goes on in passive mode. -/
def Part.faultRail (m : Part) (mem : Mem) (r : Nat) (device going : Bool) : Part :=
  let st := m.railState r
  if st = railOff then m
  else
    let m := m.put F.RAIL_CTRL_EN r 0
    if st = railFaulted then (if device then m.discardWork r true else m)
    else if st = railDischarge && device then
      ((m.discardWork r true).setRailFault r { m.railFault r with activeDis := false }).putIref r 0
    else if st = railDischarge && going then m
    else m.dischargeAnew mem r device

/-- The response in force becomes the more severe of the two (R311). -/
def Part.mergeResp (m : Part) (r sev code : Nat) : Part :=
  let old := m.get F.RAIL_FSTAT_RESP r
  let m := if old = 7 || old < sev then (m.put F.RAIL_FSTAT_RESP r sev).put F.RAIL_FSTAT_CODE r code else m
  m.refreshHand r

/-- A response of LIMIT, TRIP or LATCH on one rail (R305, R306, R311). A rail in OFF takes none (R305). -/
def Part.respondRail (m : Part) (mem : Mem) (r : Nat) (e : FaultEntry) : Part :=
  let x := m.railFault r
  let y := if x.ownResp = 7 || x.ownResp < e.sev then { x with ownCode := e.code } else x
  if m.railState r = railOff then m
  else if e.sev = 2 then
    let y := if e.code = 0x9400 then { y with laneLoss := true, lossLanes := e.lane :: y.lossLanes } else { y with limit := true }
    ((m.setRailFault r y).mergeResp r 2 e.code).alert 1 (some r)
  else
    let m := m.setRailFault r { y with trip := true, latch := x.latch || e.sev = 4 }
    let m := if e.sev = 4 then m.put F.RAIL_FSTAT_LATCHED r 1 else m
    ((m.mergeResp r e.sev e.code).alert 1 (some r)).faultRail mem r false (x.trip || x.deviceLatch)

/-- A DEVICE response (R308). -/
def Part.respondDevice (m : Part) (mem : Mem) (code : Nat) : Part :=
  let first := !m.deviceOn
  let m := if first then { m with flt := { m.flt with bySupply := decide (code = 0x8000) } } else m
  let m := m.put F.FLT_STAT_DEVICE 0 1
  let m := m.each (allRails.filter (fun r => m.railState r != railOff)) (fun r m =>
    let m := m.setRailFault r { m.railFault r with deviceLatch := true }
    let m := (m.put F.RAIL_FSTAT_LATCHED r 1).mergeResp r 5 code
    (m.alert 1 (some r)).faultRail mem r true true)
  let m := m.each allRails (fun r m => m.refreshHand r)
  m.setCause causeDevice true

/-- The response of an applied entry (R301, R302): on its rail, or on every rail not in OFF, but for the rails on which it is only a
record (R313, R317). -/
def Part.respond (m : Part) (mem : Mem) (e : FaultEntry) : Part :=
  if e.sev = 5 then m.respondDevice mem e.code
  else if e.sev < 2 then m
  else
    let rails := if e.rail < 63 then [e.rail] else allRails.filter (fun r => m.railState r != railOff)
    m.each (rails.filter (fun r => !e.mute.contains r)) (fun r m => m.respondRail mem r e)

/-- Which entry is applied next: the highest severity, in raising order (R310). -/
def headEntry (q : List FaultEntry) : Option FaultEntry :=
  (q.filter (fun e => !e.applied)).foldl (fun acc e => match acc with
    | none => some e
    | some x => if x.sev < e.sev then some e else some x) none

/-- Entries are applied: in basic mode, and for a NOTE, one leaves its queue; in expert mode it stays until acknowledged
(R310, R315). -/
def Part.markApplied (m : Part) (e : FaultEntry) : Part :=
  let stays := m.is F.FLT_CTRL_XF 0 && decide (1 ≤ e.sev)
  let q := if stays then m.flt.queue.map (fun x => if x.tag = e.tag then { x with applied := true } else x)
           else m.flt.queue.filter (fun x => x.tag ≠ e.tag)
  { m with flt := { m.flt with queue := q } }

/-- Apply one entry. HFAULT takes the handler flag with it (R316); a rail shut for want of capacity lets re-admission go
on (R38). -/
def Part.applyEntry (m : Part) (mem : Mem) (e : FaultEntry) : Part :=
  let m := (m.markApplied e).respond mem e
  let m := if e.code = 0xB801 then m.put F.FLT_STAT_INH 0 0 else m
  m.continueReadmit

def Part.faultApply (m : Part) (mem : Mem) : Part :=
  match headEntry m.flt.queue with
  | none => m
  | some e => m.applyEntry mem e

/-! ## The end of a discharge (R306, R307) and clears (R308, R309) -/

/-- A latch is held. -/
def Part.latched (m : Part) (r : Nat) : Bool := (m.railFault r).latch || (m.railFault r).deviceLatch

/-- A discharge has ended. What its tasks still run is discarded (R114); in FAULTED IREF is 0, in OFF it stays as it was. -/
def Part.endDischarge (m : Part) (mem : Mem) (r : Nat) : Part :=
  if m.latched r then ((m.discardWork r false).setRail r railFaulted).putIref r 0
  else (m.putIref r (m.irefNow mem r)).railToOff r

/-- VRAIL is at or below VEND (R306). -/
def Part.dischargeEnd (m : Part) (mem : Mem) (r : Nat) : Part :=
  if m.railState r = railDischarge && decide (m.vrail r ≤ (m.railFault r).vend) then m.endDischarge mem r else m

/-- Discharge not ended after DIS_T: DISTO is applied ahead of every queued entry, then discharge counts as ended (R307). -/
def Part.dischargeTimeout (m : Part) (mem : Mem) (r : Nat) : Part :=
  if m.railState r != railDischarge then m
  else
    let tag := m.grn.nextTag
    let n := m.flt.queue.length
    let m := m.raise 0xA400 r 4 (srcRail r)
    let m := match (m.flt.queue.drop n).find? (fun e => e.tag = tag) with
      | some e => m.applyEntry mem e
      | none => m.respondRail mem r { code := 0xA400, rail := r, sev := 4, tag := tag }
    m.endDischarge mem r

/-- An unacknowledged entry of the rail, in expert mode (R309). -/
def Part.unacked (m : Part) (r : Nat) : Bool := m.is F.FLT_CTRL_XF 0 && m.flt.queue.any (fun e => e.rail = r)

/-- A write of RAIL_FCLR (R309). -/
def Part.writeRailFclr (m : Part) (i : Initiator) (r : Nat) (v : Word) : Part :=
  if fieldOf v F.RAIL_FCLR_CLR = 0 then m
  else if m.deviceOn || m.railState r = railDischarge || m.unacked r then
    m.refuse F.FLT_STAT_REFUSED i (R.RAIL_FCLR.addr r) v
  else
    let m := m.clearResponses r
    if m.railState r = railFaulted then m.railToOff r else m

/-- What stays in force on a rail when the DEVICE response ends: the rail's own response, with its code (R308, R311). -/
def Part.deviceEnds (m : Part) (r : Nat) : Part :=
  let x := m.railFault r
  let m := m.setRailFault r { x with deviceLatch := false }
  let resp := if m.railState r = railOff then 7 else x.ownResp
  let m := m.put F.RAIL_FSTAT_LATCHED r (if x.latch then 1 else 0)
  let m := if m.get F.RAIL_FSTAT_RESP r = 5 then
      (m.put F.RAIL_FSTAT_RESP r resp).put F.RAIL_FSTAT_CODE r (if resp = 7 then 0 else x.ownCode)
    else m
  let m := m.refreshHand r
  if m.railState r = railFaulted && !x.latch then m.railToOff r else m.tryArm r

/-- A write of FLT_DEVCLR (R308). -/
def Part.writeDevclr (m : Part) (i : Initiator) (v : Word) : Part :=
  if fieldOf v F.FLT_DEVCLR_CLR = 0 then m
  else if m.tb.lossNow || (m.flt.bySupply && m.sys.failing) then m.refuse F.FLT_STAT_REFUSED i R.FLT_DEVCLR.base v
  else if !m.deviceOn then m
  else
    let m := (m.put F.FLT_STAT_DEVICE 0 0).setCause causeDevice false
    let m := { m with flt := { m.flt with bySupply := false } }
    m.each allRails (fun r m => m.deviceEnds r)

/-! ## The expert handler (R315, R316) -/

/-- The entry FLT_NEXT presents. -/
def Part.presented (m : Part) : Option FaultEntry :=
  if m.is F.FLT_CTRL_XF 0 then
    (m.flt.queue.filter (fun e => decide (1 ≤ e.sev))).foldl (fun acc e => match acc with
      | none => some e
      | some x => if x.sev < e.sev then some e else some x) none
  else none

def Part.nextWord (m : Part) : Word :=
  match m.presented with
  | none => 0
  | some e => BitVec.ofNat 32 (2 ^ 31 + e.sev * 2 ^ 26 + e.rail * 2 ^ 16 + e.code)

def Part.nextSeq (m : Part) : Word :=
  match m.presented with
  | none => 0
  | some e => BitVec.ofNat 32 e.seq

/-- FLT_QLEV: fill of each queue. -/
def Part.qlevWord (m : Part) : Word :=
  BitVec.ofNat 32 ((List.range 6).foldl (fun acc k => acc + min 16 (m.queueFill k) * 2 ^ (5 * k)) 0)

/-- The initiator is the handler core. -/
def Part.isHandler (m : Part) (i : Initiator) : Bool := initIndex i = m.get F.FLT_CTRL_HCORE 0

/-- A read of FLT_NEXT: by the handler core with VALID = 1 it sets INH (R316). -/
def Part.readNext (m : Part) (i : Initiator) : Word × Part :=
  (m.nextWord, if m.presented.isSome && m.isHandler i then m.put F.FLT_STAT_INH 0 1 else m)

/-- A write of FLT_ACK (R315, R317). RAISE writes a record with the handler flag in every case, SOURCE that of the entry; the response
follows where SEV is above the entry's severity (log entry 115). -/
def Part.writeAck (m : Part) (mem : Mem) (i : Initiator) (v : Word) : Part :=
  let sev := fieldOf v F.FLT_ACK_SEV
  match m.presented with
  | none => m.refuse F.FLT_STAT_REFUSED i R.FLT_ACK.base v
  | some e =>
    if 6 ≤ sev then m.refuse F.FLT_STAT_REFUSED i R.FLT_ACK.base v
    else
      let m := if e.applied then m else m.applyEntry mem e
      let m := { m with flt := { m.flt with queue := m.flt.queue.filter (fun x => x.tag ≠ e.tag) } }
      let m := if m.isHandler i then m.put F.FLT_STAT_INH 0 0 else m
      if fieldOf v F.FLT_ACK_RAISE = 1 then
        let m := m.submit { code := e.code, source := e.source, sev := sev, osev := sev, hnd := true, data0 := e.rail }
        if e.sev < sev then m.respond mem { e with sev := sev, mute := m.muted e.rail sev } else m
      else m

/-- A policy word is legal: no code above DEVICE in the fields used (R303, R330). -/
def policyLegal (w n : Nat) : Bool := (List.range n).all (fun k => decide (w / 16 ^ k % 8 < 6))

/-- A fabric write to a register of the FLT block. -/
def Part.writeFLT (m : Part) (mem : Mem) (i : Initiator) (a : Nat) (v : Word) : Part :=
  let no := m.refuse F.FLT_STAT_REFUSED i a v
  if a = R.FLT_CTRL.base then
    let xf := m.changes F.FLT_CTRL_XF 0 v
    if m.is F.FLT_STAT_INH 0 || (xf && !m.allOff) then no
    else
      let m := m.plainWrite a v
      if xf then
        let m := (List.range 128).foldl (fun m _ => m.faultApply mem) m
        { m with flt := { m.flt with queue := [] } }
      else m
  else if a = R.FLT_ACK.base then m.writeAck mem i v
  else if a = R.FLT_DEVCLR.base then m.writeDevclr i v
  else if a = R.FLT_SEV0.base then if policyLegal v.toNat 8 then m.setWord a (v &&& 0x77777777) else no
  else if a = R.FLT_SEV1.base then if policyLegal v.toNat 5 then m.setWord a (v &&& 0x00077777) else no
  else m.plainWrite a v

/-! ## Other RAIL registers (R118 to R120, R330) -/

/-- Severity codes 6 and 7 are refused (R120). -/
def badSev (n : Nat) : Bool := decide (6 ≤ n)

/-- Why a slot may not be bound to a task of kind `kind` (R120, BSL_ERR). -/
def Part.slotFault (m : Part) (slot kind : Nat) (xl : Bool) : Option FieldAt :=
  if m.slotCost slot = 0 || m.get F.BSL_PCOST_KIND slot != kind then some F.BSL_ERR_KIND
  else if 8 ≤ slot && !xl then some F.BSL_ERR_LEVEL
  else none

/-- What refuses a write of RAIL_LCFG. -/
def Part.lcfgFault (m : Part) (r : Nat) (v : Word) : Option FieldAt :=
  let xl := fieldOf v F.RAIL_LCFG_XL = 1
  if m.railState r != railOff then some F.BSL_ERR_BOUND
  else if badSev (fieldOf v F.RAIL_LCFG_MISS_SEV) then some F.BSL_ERR_SEV
  else match m.slotFault (fieldOf v F.RAIL_LCFG_VPROG) 0 xl with
    | some f => some f
    | none => m.slotFault (fieldOf v F.RAIL_LCFG_VPROG_FB) 0 xl

/-- A write, or its refusal by a flag. -/
def Part.writeUnless (m : Part) (f : Option FieldAt) (i : Initiator) (a : Nat) (v : Word) : Part :=
  match f with
  | some f => m.refuse f i a v
  | none => m.plainWrite a v

/-- A fabric write to a register of the RAIL block. -/
def Part.writeRAIL (m : Part) (mem : Mem) (i : Initiator) (a : Nat) (v : Word) : Part :=
  let r := (a - R.RAIL_CTRL.base) / 0x200
  if R.RAIL_CTRL.covers a then m.writeRailCtrl mem i r v
  else if R.RAIL_LCFG.covers a then m.writeUnless (m.lcfgFault r v) i a v
  else if R.RAIL_LCMD.covers a then m.writeRailLcmd i r v
  else if R.RAIL_LCOEF.covers a then
    m.writeUnless (if fieldOf v F.RAIL_LCOEF_ICOEF < 0x0C00 || fieldOf v F.RAIL_LCOEF_VCOEF < 0x0C00 then some F.BSL_ERR_RANGE else none) i a v
  else if R.RAIL_DLIM.covers a then
    m.writeUnless (if fieldOf v F.RAIL_DLIM_DMAX < fieldOf v F.RAIL_DLIM_DMIN then some F.BSL_ERR_RANGE else none) i a v
  else if R.RAIL_FEV.covers a then m.writeUnless (if badSev (fieldOf v F.RAIL_FEV_SEV) then some F.BSL_ERR_SEV else none) i a v
  else if R.RAIL_FEI.covers a then m.writeUnless (if badSev (fieldOf v F.RAIL_FEI_SEV) then some F.BSL_ERR_SEV else none) i a v
  else if R.RAIL_SRC.covers a then m.writeRailSrc i r v
  else if R.RAIL_OPT.covers a then m.writeRailOpt i r v
  else if R.RAIL_DIS.covers a then m.writeUnless (if fieldOf v F.RAIL_DIS_DIS_T = 0 then some F.FLT_STAT_REFUSED else none) i a v
  else if R.RAIL_DERATE.covers a then m.writeUnless (if fieldOf v F.RAIL_DERATE_F = 0 then some F.FLT_STAT_REFUSED else none) i a v
  else if R.RAIL_FCLR.covers a then m.writeRailFclr i r v
  else m.plainWrite a v

/-! ## The rows -/

def execRailEnable (i : Initiator) (r : Fin 63) (s : State) : Out :=
  .next (s.lift (fun m => m.writeRailCtrl s.mem i r 0x80000000))
def execRailDisable (i : Initiator) (r : Fin 63) (s : State) : Out :=
  .next (s.lift (fun m => m.writeRailCtrl s.mem i r 0))
def execRailLeavesArming (r : Fin 63) (s : State) : Out := .next (s.lift (fun m => m.leaveArming r))
def execSoftstartComplete (r : Fin 63) (s : State) : Out := .next (s.lift (fun m => m.softstartComplete r))
def execRailSrcWrite (i : Initiator) (r : Fin 63) (v : Word) (s : State) : Out := .next (s.lift (fun m => m.writeRailSrc i r v))
def execFallbackRequest (i : Initiator) (r : Fin 63) (s : State) : Out := .next (s.lift (fun m => m.writeRailLcmd i r 2))
def execFallbackReturn (i : Initiator) (r : Fin 63) (s : State) : Out := .next (s.lift (fun m => m.writeRailLcmd i r 1))
def execDischargeEnd (r : Fin 63) (s : State) : Out := .next (s.lift (fun m => m.dischargeEnd s.mem r))
def execDisto (r : Fin 63) (s : State) : Out := .next (s.lift (fun m => m.dischargeTimeout s.mem r))
def execRailFaultClear (i : Initiator) (r : Fin 63) (s : State) : Out := .next (s.lift (fun m => m.writeRailFclr i r 1))
def execFaultApply (s : State) : Out := .next (s.lift (fun m => m.faultApply s.mem))

/-- FLT_NEXT_READ: a read of FLT_NEXT, answered on the fabric. -/
def execFltNextRead (i : Initiator) (s : State) : Out :=
  .next (s.lift (fun m =>
    let x := m.readNext i
    { x.2 with bus := { data := BitVec.ofNat 64 x.1.toNat, error := false } }))
def execFltAck (i : Initiator) (v : Word) (s : State) : Out := .next (s.lift (fun m => m.writeAck s.mem i v))
def execFltDevclr (i : Initiator) (s : State) : Out := .next (s.lift (fun m => m.writeDevclr i 1))

end Sys2Proof.Machine
end

