-- ==== Sys2Proof/Machine/Tasks.lean ====
section
/-! DEFINITION. Basalt's own events, admission's decisions, the lanes, optional tasks, the BSL registers and the guards of
loop memory (R81, R82, R100 to R120). -/
namespace Sys2Proof.Machine

/-! ## Bindings (R118 to R120) -/

/-- A voltage task can be dispatched: Basalt dispatches, and the rail regulates with a lead phase (R78, R79). A halt by the
debugger, of which R118 and R119 say nothing, lifts no guard (DESIGN CHOICE, log entry 113). -/
def Part.voltRuns (m : Part) (r : Nat) : Bool := m.is F.BSL_CTRL_EN 0 && m.regulating r && (m.leadPhase r).isSome

/-- A current task can be dispatched: Basalt dispatches, and the phase switches (R78). -/
def Part.currRuns (m : Part) (p : Nat) : Bool := m.is F.BSL_CTRL_EN 0 && m.switches p

/-- Some register names the slot. -/
def Part.slotNamed (m : Part) (i : Nat) : Bool :=
  allRails.any (fun r => m.get F.RAIL_LCFG_VPROG r = i || m.get F.RAIL_LCFG_VPROG_FB r = i) ||
  allPhases.any (fun p => m.get F.BSL_PTASK_PROG p = i || m.get F.BSL_PTASK_PROG_FB p = i) ||
  (List.range 16).any (fun j => m.get F.BSL_OTASK_PROG j = i)

/-- The slot is bound to a task that can be dispatched: a voltage or current task of it, or an optional task that is requested, timed
or under way. -/
def Part.slotBound (m : Part) (i : Nat) : Bool :=
  allRails.any (fun r => m.voltRuns r && (m.get F.RAIL_LCFG_VPROG r = i || m.get F.RAIL_LCFG_VPROG_FB r = i)) ||
  allPhases.any (fun p => m.currRuns p && (m.get F.BSL_PTASK_PROG p = i || m.get F.BSL_PTASK_PROG_FB p = i)) ||
  m.is F.BSL_CTRL_EN 0 && (List.range 16).any (fun j => m.get F.BSL_OTASK_PROG j = i && (m.is F.BSL_OTASK_EN j || m.is F.BSL_OTASK_PEND j ||
    m.taskRunning (.opt (Fin.ofNat 16 j)) || allLanes.any (fun l => match (m.lane l).held with
      | some x => x.task = .opt (Fin.ofNat 16 j)
      | none => false)))

/-- Two byte ranges meet; an empty one meets none. -/
def meets (a n b k : Nat) : Bool := decide (0 < n) && decide (0 < k) && decide (a < b + k) && decide (b < a + n)

/-- A fabric write to LPM falls inside the extent of a bound slot (R118). -/
def Part.lpmGuarded (m : Part) (a n : Nat) : Bool :=
  (List.range 120).any (fun k => m.slotBound (k + 8) &&
    meets a n (0x12080000 + 4 * m.get F.BSL_PDIR_ADDR (k + 8)) (4 * m.get F.BSL_PDIR_LEN (k + 8)))

/-- A fabric write to LSM falls inside the state area of a task that can be dispatched (R119). An optional task's state lies where
its program puts it and no register names the place, so none is guarded (DESIGN CHOICE, log entry 113). -/
def Part.lsmGuarded (m : Part) (a n : Nat) : Bool :=
  allRails.any (fun r => m.voltRuns r && meets a n (lsmAddr (0x2000 + 0x40 * r)) 256) ||
  allPhases.any (fun p => m.currRuns p && meets a n (lsmAddr (0x40 * p)) 256)

/-! ## The BSL registers -/

/-- A write of BSL_LANEEN: a bit written 0 retires its lane, and ends a self-check under way; a bit written 1 on a retired
lane starts its self-check. -/
def Part.writeLaneen (m : Part) (v : Word) : Part :=
  let m := m.plainWrite R.BSL_LANEEN.base v
  m.each allLanes (fun l m =>
    if !m.bit F.BSL_LANEEN_EN 0 l then
      let m := m.retireLane l true
      m.setLane l { m.lane l with check := false }
    else if !m.bit F.BSL_LANEST_INSV 0 l then m.setLane l { m.lane l with check := true }
    else m)

/-- What refuses an optional program (R120). An optional task serves no rail: a user slot may be bound to it where the XL of some
rail permits user slots (DESIGN CHOICE, log entry 19). -/
def Part.otaskFault (m : Part) (j : Nat) (v : Word) : Option FieldAt :=
  if m.changes F.BSL_OTASK_PROG j v && m.is F.BSL_OTASK_EN j then some F.BSL_ERR_BOUND
  else m.slotFault (fieldOf v F.BSL_OTASK_PROG) 2 (allRails.any (fun r => m.is F.RAIL_LCFG_XL r))

/-- The rail whose XL permits user slots to a phase's current task: its current rail. -/
def Part.phaseLevel (m : Part) (p : Nat) : Bool := m.phRail p < 63 && m.is F.RAIL_LCFG_XL (m.phRail p)

/-- What refuses the current programs of a phase: any write while it switches, and a slot of the wrong kind or level (R120). -/
def Part.ptaskFault (m : Part) (p : Nat) (v : Word) : Option FieldAt :=
  if m.switches p then some F.BSL_ERR_BOUND
  else m.slotFault (fieldOf v F.BSL_PTASK_PROG) 1 (m.phaseLevel p) <|> m.slotFault (fieldOf v F.BSL_PTASK_PROG_FB) 1 (m.phaseLevel p)

/-- What refuses a write of a slot's cost word (R120). -/
def Part.pcostFault (m : Part) (k : Nat) (v : Word) : Option FieldAt :=
  if m.slotNamed k then some F.BSL_ERR_BOUND
  else if fieldOf v F.BSL_PCOST_KIND = 3 then some F.BSL_ERR_RANGE
  else none

/-- A fabric write to a register of the BSL block. Slots 0 to 7 are read-only. -/
def Part.writeBSL (m : Part) (i : Initiator) (a : Nat) (v : Word) : Part :=
  if a = R.BSL_CTRL.base then
    m.writeUnless (if fieldOf v F.BSL_CTRL_EN = 0 && !m.allOff then some F.BSL_ERR_ENOFF else none) i a v
  else if a = R.BSL_LANEEN.base then m.writeLaneen v
  else if R.BSL_OTASK.covers a then m.writeUnless (m.otaskFault (R.BSL_OTASK.inst a) v) i a v
  else if R.BSL_PTASK.covers a then m.writeUnless (m.ptaskFault (R.BSL_PTASK.inst a) v) i a v
  else if R.BSL_PDIR.covers a then
    let k := R.BSL_PDIR.inst a
    if k < 8 then m else m.writeUnless (if m.slotBound k then some F.BSL_ERR_BOUND else none) i a v
  else if R.BSL_PCOST.covers a then
    let k := R.BSL_PCOST.inst a
    if k < 8 then m else m.writeUnless (m.pcostFault k v) i a v
  else m.plainWrite a v

/-- BSL_DEMAND and BSL_LDEM as they read. -/
def Part.demandWord (m : Part) : Word := withBits (m.word R.BSL_DEMAND.base) 0 16 (min 0xFFFF (inUnits m.demand))
def Part.laneDemandWord (m : Part) (l : Nat) : Word :=
  BitVec.ofNat 32 (min 255 (m.tasksOn l).length * 2 ^ 24 + min 0xFFF (inUnits (m.laneLoad l)))

/-! ## Live margin (R106) -/

/-- Achieved rate of a lane, lane-ops/s. With no busy time in the interval the quotient has no stated value: it is free
(log entry 49). -/
def Part.achieved (m : Part) (l busy : Nat) : Rat :=
  if busy = 0 then ((Config.freeWord (m.free + l)).toNat : Rat) else ((m.lane l).ops : Rat) * 1000000000 / busy

/-- LIVE_MARGIN_UPDATE: MINRATE and HEAD over the lanes in service; HEADLOW when HEAD falls below its threshold. -/
def Part.liveMargin (m : Part) (busy : List Nat) : Part :=
  let rates := m.lanesIn.map (fun l => (l, m.achieved l (busy.getD l 0)))
  let low := rates.foldl (fun (acc : Option Rat) q => some (match acc with
    | none => q.2
    | some x => min x q.2)) none
  let ratio := fun (q : Nat × Rat) => if q.2 = 0 then (if m.laneLoad q.1 = 0 then (0 : Rat) else 1) else m.laneLoad q.1 / q.2
  let u := rates.foldl (fun acc q => max acc (ratio q)) (0 : Rat)
  let m := m.each allLanes (fun l m => m.setLane l { m.lane l with ops := 0 })
  let m := { m with free := m.free + 16 }
  match low with
  | none => m
  | some x =>
    let head := min 1023 (max 0 (1000 * (1 - u))).floor.toNat
    let m := m.put F.BSL_MARGIN_MINRATE 0 (min 0xFFFF (x / 1000000).floor.toNat)
    let m := m.put F.BSL_MARGIN_HEAD 0 head
    let below := decide (head < m.get F.BSL_CTRL_HEADMIN 0)
    let was := m.bsl.headLow
    let m := { m with bsl := { m.bsl with headLow := below } }
    if below && !was then (m.put F.BSL_STAT_HEADLOW 0 1).raise 0x9C02 63 1 0 else m

/-! ## The rows -/

def execInvocationDispatch (l : Fin 16) (s : State) : Out := .next (s.lift (fun m => m.dispatch s.mem l))
def execInvocationDeadline (t : Task) (s : State) : Out := .next (s.lift (fun m => m.abandon t))
def execCostOverrun (l : Fin 16) (s : State) : Out := .next (s.lift (fun m => m.programFailure l))

/-- Admission decides one of the events of R104. -/
def Part.admissionDecision (m : Part) (w : AdmitWhat) : Part :=
  match w with
  | .leaveArming r => m.leaveArming r
  | .joining p => m.decideJoin p
  | .period p => m.decidePeriod (R.PWM_PERIOD.addr p)
  | .railPeriod r => m.decidePeriod (R.PWM_RPER.addr r)
  | .fallbackReturn r => m.decideReturn r
  | .laneLoss => m.continueReadmit

def execAdmissionDecision (w : AdmitWhat) (s : State) : Out := .next (s.lift (fun m => m.admissionDecision w))
def execLaneParityError (l : Fin 16) (s : State) : Out := .next (s.lift (fun m => m.retireLane l true))

/-- BSL_LANEEN with bit `l` replaced. -/
def Part.laneenWith (m : Part) (l : Nat) (on : Bool) : Word :=
  BitVec.ofNat 32 (if m.bit F.BSL_LANEEN_EN 0 l = on then m.get F.BSL_LANEEN_EN 0
    else if on then m.get F.BSL_LANEEN_EN 0 + 2 ^ l else m.get F.BSL_LANEEN_EN 0 - 2 ^ l)

def execLaneDisable (i : Initiator) (l : Fin 16) (s : State) : Out :=
  .next (s.lift (fun m => m.writeBSL i R.BSL_LANEEN.base (m.laneenWith l false)))
def execLaneEnable (i : Initiator) (l : Fin 16) (s : State) : Out :=
  .next (s.lift (fun m => m.writeBSL i R.BSL_LANEEN.base (m.laneenWith l true)))
def execLaneSelfCheckDone (l : Fin 16) (pass : Bool) (s : State) : Out :=
  .next (s.lift (fun m => if (m.lane l).check then m.laneChecked l pass else m))
def execLiveMarginUpdate (busyNs : List Nat) (s : State) : Out := .next (s.lift (fun m => m.liveMargin busyNs))

/-- OPTIONAL_TASK_TIMER: the interval timer of an enabled task with an interval requests an invocation (R78, R82). -/
def execOptionalTaskTimer (j : Fin 16) (s : State) : Out :=
  .next (s.lift (fun m => if m.is F.BSL_OTASK_EN j && 0 < m.get F.BSL_OTASK_INTERVAL j then m.put F.BSL_OTASK_PEND j 1 else m))
def execOptionalTaskRequest (_i : Initiator) (j : Fin 16) (s : State) : Out := .next (s.lift (fun m => m.put F.BSL_OTASK_PEND j 1))

end Sys2Proof.Machine
end

