-- ==== Sys2Proof/Machine/Audio.lean ====
section
/-! DEFINITION. Output frames, the SAF and AUD registers, and the rows of Saffron and the audio ports (R42 to R77, R359 to
R370). -/
namespace Sys2Proof.Machine

/-! ## Output frames (R45, R367, R368) -/

/-- What a port sends in one slot: the channel that entered in it; in a slot without one 0, or with DOZ nothing, at high
impedance (R362). -/
def Part.slotOut (m : Part) (g n k : Nat) : Option Word :=
  match (m.portChannels n).find? (fun q => q.2 = k) with
  | none => if m.is F.AUD_PCFG_DOZ n then none else some 0
  | some q => some (m.outSample g q.1 (m.wordBits n) (m.chan q.1).gain)

/-- The timeline of a group moves on by one output frame, and each of its channels takes the frame's gain (R44, R259). -/
def Part.nextFrame (m : Part) (mem : Mem) (g : Nat) : Part :=
  let m := m.advanceFrame mem g
  m.each (m.groupChannels g) (fun c m => m.stepGain c g (m.outFrame g))

/-- The group's frame counter runs by itself: it has measured a period, and no sync can steer it in its state (R44). -/
def Part.freeRuns (m : Part) (g : Nat) : Bool :=
  (m.get F.SAF_GSTAT_STATE g = grpLost || m.get F.SAF_GSTAT_STATE g = grpAcquire) && decide (0 < (m.group g).period)

/-- The tick at which a counter that runs by itself ends its frame period: the next output frame begins (R44). -/
def Part.counterTick (m : Part) (mem : Mem) (g : Nat) : Part :=
  if m.freeRuns g && decide ((m.group g).outStart + (m.group g).period ≤ m.tb.ticks) then m.nextFrame mem g else m

/-- MISSING_SYNC: the time at which a sync of the port was expected passes without one (R71, R366). The timeline goes on
with the master's, at the period measured last; in LOST and ACQUIRE the counter's own ticks move it (R44, R368, log entry 50). -/
def State.missingSync (s : State) (n : Nat) (held : Option (List Word)) : State :=
  match s.part.groupOfPort n with
  | none => s
  | some g =>
    if s.part.master g = some n then
      let runs := s.part.onTimeline g
      let s := if s.part.wasStopped g n then s else s.masterMissing g (held.map (fun h => (n, h)))
      s.lift (fun m => let m := m.setStopped g n false
                       if runs then m.nextFrame s.mem g else m)
    else if s.part.is F.AUD_PCFG_EN n && s.part.onTimeline g then s.portMissing g n held
    else s

/-- A frame sync of the port starts an output frame. While the group follows its timeline the master's sync moves the timeline
on; in every other state the frame counter runs by itself (R44, R367). -/
def Part.outputFrame (m : Part) (mem : Mem) (n : Nat) : Part :=
  if !m.is F.AUD_PCFG_EN n then m
  else
    match m.groupOfPort n with
    | none => m
    | some g =>
      let m := if m.master g = some n && m.onTimeline g then m.nextFrame mem g else m
      m.setAudPort n { m.audPort n with sent := (List.range (m.slotCount n)).map (m.slotOut g n), shifted := none }

/-! ## Channels (R46 to R48, R67, R68) -/

/-- Rail a channel is mapped to. -/
def Part.railOfChannel (m : Part) (c : Nat) : Option Nat :=
  if m.is F.SAF_CHMAP_MAPEN c then some (m.get F.SAF_CHMAP_RAIL c) else none

/-- What refuses a write of SAF_CHMAP (R47). -/
def Part.chmapFault (m : Part) (c : Nat) (v : Word) : Option FieldAt :=
  let r := fieldOf v F.SAF_CHMAP_RAIL
  let others := (m.railChannels r).filter (fun x => x ≠ c)
  let new := fieldOf v F.SAF_CHMAP_MAPEN = 1 && m.railOfChannel c != some r
  if r = 63 then some F.SAF_ERR_MAPALL
  else if new && decide (8 ≤ others.length) then some F.SAF_ERR_MAPFULL
  else if new && (match m.groupOfChannel c with
      | none => false
      | some g => others.any (fun x => (m.groupOfChannel x).isSome && m.groupOfChannel x != some g)) then some F.SAF_ERR_MAPGRP
  else none

/-- A write of SAF_CHMAP: a remap squashes both rails and silences the channel until F_safe, as a release of mute does on
its rail; a mute squashes (R48, R68). Two changes of one write are one event for a rail (R69). -/
def Part.writeChmap (m : Part) (i : Initiator) (c : Nat) (v : Word) : Part :=
  match m.chmapFault c v with
  | some f => m.refuse f i (R.SAF_CHMAP.addr c) v
  | none =>
    let a := m.railOfChannel c
    let was := m.is F.SAF_CHMAP_MUTE c
    let m := m.plainWrite (R.SAF_CHMAP.addr c) v
    let b := m.railOfChannel c
    let now := m.is F.SAF_CHMAP_MUTE c
    let x := m.chan c
    let m := if b.isNone then m.setChan c { x with zeroed := false, safeAt := none }
      else if a != b || (was && !now) then m.setChan c { x with zeroed := true, safeAt := none }
      else m
    let m := match a with
      | some r => if (m.railGroup r).isNone then m.dropPlan r else m
      | none => m
    if a = b && was = now then m
    else
      let rails := if a = b then a.toList else a.toList ++ b.toList
      m.each rails (fun r m => m.squash r false)

/-- A gain of a channel changes: its rail squashes (R68). -/
def Part.writeGain (m : Part) (a c : Nat) (f : FieldAt) (v : Word) : Part :=
  let changed := m.changes f c v
  let m := m.plainWrite a v
  match m.railOfChannel c with
  | none => m
  | some r => if changed then m.squash r false else m

/-! ## Groups (R43, R47, R75, R363, R370) -/

/-- PORTS with a value for group g would let channels of two groups feed one rail (R47). -/
def Part.mixes (m : Part) (g ports : Nat) : Bool :=
  let grp := fun (c : Nat) =>
    if !m.is F.AUD_CHSRC_EN c then none
    else
      let n := m.get F.AUD_CHSRC_PORT c
      if ports / 2 ^ n % 2 = 1 then some g
      else match m.groupOfPort n with
        | some h => if h = g then none else some h
        | none => none
  allRails.any (fun r =>
    let gs := (m.railChannels r).filterMap grp
    gs.any (fun x => gs.any (fun y => x != y)))

/-- What refuses a write of SAF_GCFG. -/
def Part.gcfgFault (m : Part) (g : Nat) (v : Word) : Option FieldAt :=
  let depth := fieldOf v F.SAF_GCFG_DEPTH
  let ports := fieldOf v F.SAF_GCFG_PORTS
  let bad := (List.range 8).any (fun n =>
    let new := ports / 2 ^ n % 2 = 1
    let old := m.bit F.SAF_GCFG_PORTS g n
    (new && !old && (m.groupOfPort n).isSome) || (old && !new && m.is F.AUD_PCFG_EN n))
  if depth < 16 || 4096 < depth then some F.SAF_ERR_DEPTH
  else if bad then some F.SAF_ERR_PORT
  else if m.mixes g ports then some F.SAF_ERR_MAPGRP
  else none

/-- A depth change restarts the group: its audio and its rails' knots are discarded (R75). -/
def Part.depthChange (m : Part) (g : Nat) : Part :=
  let m := m.setGroup g { m.group g with depthRestart := true, silent := true, cand := 0 }
  m.each (m.groupRails g) (fun r m =>
    let m := m.squash r true
    m.setPlan r { m.plan r with fifo := [], cur := none, heldKnot := false, guarded := none, finish := none })

def Part.writeGcfg (m : Part) (i : Initiator) (g : Nat) (v : Word) : Part :=
  match m.gcfgFault g v with
  | some f => m.refuse f i (R.SAF_GCFG.addr g) v
  | none =>
    let changed := m.changes F.SAF_GCFG_DEPTH g v
    let m := m.plainWrite (R.SAF_GCFG.addr g) v
    if changed && m.get F.SAF_GSTAT_STATE g != grpIdle then m.depthChange g else m

/-! ## SAF registers (R76, R77) -/

/-- The rail of an address in the rail windows of SAF. -/
def safRail (a : Nat) : Nat := (a - R.SAF_RCFG.base) / 0x40

/-- VMIN, VMAX and BLIND_V of a rail stand in order (SAF_ERR.VRANGE). -/
def vrangeBad (vmin vmax blind : Nat) : Bool := decide (vmax ≤ vmin) || decide (blind < vmin) || decide (vmax < blind)

/-- A write under R76. -/
def Part.inTrack (m : Part) (r : Nat) : Bool := m.railState r = railTrack

/-- What refuses a write of a rail register of SAF. -/
def Part.safRailFault (m : Part) (a : Nat) (v : Word) : Option FieldAt :=
  let r := safRail a
  let vmin := m.get F.SAF_VMIN_VALUE r
  let vmax := m.get F.SAF_VMAX_VALUE r
  let blind := m.get F.SAF_BLIND_VALUE r
  let x := bitsOf v 0 20
  let track := if m.inTrack r then some F.SAF_ERR_TRACK else none
  let vr := fun (b : Bool) => if b then some F.SAF_ERR_VRANGE else none
  if R.SAF_RCFG.covers a then
    if m.changes F.SAF_RCFG_TP r v || m.changes F.SAF_RCFG_REL_EN r v then track else none
  else if R.SAF_VMIN.covers a then track <|> vr (vrangeBad x vmax blind)
  else if R.SAF_VMAX.covers a then track <|> vr (vrangeBad vmin x blind)
  else if R.SAF_BLIND.covers a then vr (vrangeBad vmin vmax x)
  else if R.SAF_SLEW.covers a then
    let bad := fun (n : Nat) => n = 0 || decide (32767 < n)
    track <|> (if bad (fieldOf v F.SAF_SLEW_SR_UP) || bad (fieldOf v F.SAF_SLEW_SR_DOWN) then some F.SAF_ERR_SLEW else none)
  else if R.SAF_HOLD.covers a then track
  else none

/-- A write of SAF_CTRL (R77). An accepted 0 discards all knots. -/
def Part.writeSafCtrl (m : Part) (i : Initiator) (v : Word) : Part :=
  let a := R.SAF_CTRL.base
  if fieldOf v F.SAF_CTRL_EN = 1 then m.plainWrite a v
  else if allRails.any (fun r => m.get F.RAIL_SRC_SRC r = 0 && m.railState r != railOff) then
    m.refuse F.SAF_ERR_NOPLAN i a v
  else
    let m := m.plainWrite a v
    m.each allRails (fun r m => m.setPlan r { m.plan r with fifo := [], cur := none, heldKnot := false })

/-- A write of SAF_VDROP or SAF_MARGIN: a change squashes the rail (R68). -/
def Part.writeHeadroom (m : Part) (a r : Nat) (f : FieldAt) (v : Word) : Part :=
  let changed := m.changes f r v
  let m := m.plainWrite a v
  if changed then m.squash r false else m

/-- A fabric write to a register of the SAF block. -/
def Part.writeSAF (m : Part) (i : Initiator) (a : Nat) (v : Word) : Part :=
  if a = R.SAF_CTRL.base then m.writeSafCtrl i v
  else if R.SAF_GCFG.covers a then m.writeGcfg i (R.SAF_GCFG.inst a) v
  else if R.SAF_CHMAP.covers a then m.writeChmap i (R.SAF_CHMAP.inst a) v
  else if R.SAF_FSG.covers a then m.writeGain a (R.SAF_FSG.inst a) F.SAF_FSG_FS_GAIN v
  else if R.SAF_LGAIN.covers a then m.writeGain a (R.SAF_LGAIN.inst a) F.SAF_LGAIN_LGAIN v
  else if R.SAF_VDROP.covers a then m.writeHeadroom a (safRail a) F.SAF_VDROP_VALUE v
  else if R.SAF_MARGIN.covers a then m.writeHeadroom a (safRail a) F.SAF_MARGIN_VALUE v
  else m.writeUnless (m.safRailFault a v) i a v

/-! ## What SAF registers read -/

/-- SAF_RSTAT with LEVEL and HZN. Without a group there is no horizon, and HZN is 0, its reset value (log entry 51). -/
def Part.rstatWord (m : Part) (r : Nat) : Word :=
  let w := withBits (m.word (R.SAF_RSTAT.addr r)) 9 7 (m.plan r).fifo.length
  let hzn := match m.railGroup r with
    | some g => decide (m.wEff r g < m.wRise r g)
    | none => false
  withBits w 8 1 (if hzn then 1 else 0)

/-- SAF_WRISE; 0, its reset value, without a group (log entry 51). -/
def Part.wriseWord (m : Part) (r : Nat) : Word :=
  match m.railGroup r with
  | some g => BitVec.ofNat 32 (m.wEff r g * 65536 + min 0xFFFF (m.wRise r g))
  | none => 0

/-- The knot at the FIFO output, low and high word; 0 while the FIFO is empty (log entry 51). -/
def Part.knotWord (m : Part) (r : Nat) (high : Bool) : Word :=
  match (m.plan r).fifo.head? with
  | some k => BitVec.ofNat 32 (if high then k.hi else k.lo)
  | none => 0

/-! ## AUD registers (R360 to R363, R369, R370) -/

/-- A refused write of AUD_PCFG (R363). The reserved bits [4:2] are no field. -/
def Part.pcfgRefused (m : Part) (n : Nat) (v : Word) : Bool :=
  let old := m.word (R.AUD_PCFG.addr n)
  let en := fieldOf v F.AUD_PCFG_EN = 1
  (m.is F.AUD_PCFG_EN n && bitsOf old 0 16 &&& 0xFFE3 != bitsOf v 0 16 &&& 0xFFE3) ||
    fieldOf v F.AUD_PCFG_SLOTS = 0 || fieldOf v F.AUD_PCFG_WLEN = 3 || fieldOf v F.AUD_PCFG_FMT = 3 ||
    (en && (m.groupOfPort n).isNone)

/-- A port of a group has been enabled or disabled: the group leaves or enters IDLE, or its master changes (R363, R370). -/
def Part.portChanged (m : Part) (g : Nat) (before : Option Nat) : Part :=
  let st := m.get F.SAF_GSTAT_STATE g
  match m.master g with
  | none => (m.setGroup g {}).setGroupState g grpIdle false
  | some q =>
    if st = grpIdle then m.enterAcquire g false
    else if before = some q then m
    else if st = grpLocked || st = grpHoldover then m.setGroup g { m.group g with handover := true, cand := 0 }
    else m.setGroup g { m.group g with cand := 0 }

def Part.writePcfg (m : Part) (i : Initiator) (n : Nat) (v : Word) : Part :=
  let a := R.AUD_PCFG.addr n
  if m.pcfgRefused n v then m.refuse F.AUD_STAT_REFUSED i a v
  else
    let was := m.is F.AUD_PCFG_EN n
    match m.groupOfPort n with
    | none => m.plainWrite a v
    | some g =>
      let before := m.master g
      let m := m.plainWrite a v
      if m.is F.AUD_PCFG_EN n = was then m
      else
        let m := if was then (m.setAudPort n {}).put F.AUD_PSTAT_LOST n 0 else m
        m.portChanged g before

/-- A refused write of AUD_CHSRC (R362). -/
def Part.chsrcRefused (m : Part) (c : Nat) (v : Word) : Bool :=
  let en := fieldOf v F.AUD_CHSRC_EN = 1
  let n := fieldOf v F.AUD_CHSRC_PORT
  let k := fieldOf v F.AUD_CHSRC_SLOT
  let taken := (List.range 64).any (fun x => x ≠ c && m.is F.AUD_CHSRC_EN x && m.get F.AUD_CHSRC_PORT x = n && m.get F.AUD_CHSRC_SLOT x = k)
  let grouped := match m.groupOfPort n, m.railOfChannel c with
    | some g, some r => (m.railChannels r).any (fun x => x ≠ c && (m.groupOfChannel x).isSome && m.groupOfChannel x != some g)
    | _, _ => false
  m.is F.AUD_PCFG_EN (m.get F.AUD_CHSRC_PORT c) || m.is F.AUD_PCFG_EN n ||
    (en && (decide (m.slotCount n ≤ k) || taken || grouped))

/-- A fabric write to a register of the AUD block. -/
def Part.writeAUD (m : Part) (i : Initiator) (a : Nat) (v : Word) : Part :=
  let no := fun (b : Bool) => if b then some F.AUD_STAT_REFUSED else none
  if R.AUD_PCFG.covers a then m.writePcfg i (R.AUD_PCFG.inst a) v
  else if a = R.AUD_CTRL.base then m.writeUnless (no (fieldOf v F.AUD_CTRL_MDIV = 3)) i a v
  else if R.AUD_GFS.covers a then
    m.writeUnless (no (5 < fieldOf v F.AUD_GFS_FS || m.get F.SAF_GSTAT_STATE (R.AUD_GFS.inst a) != grpIdle)) i a v
  else if R.AUD_CHSRC.covers a then m.writeUnless (no (m.chsrcRefused (R.AUD_CHSRC.inst a) v)) i a v
  else m.plainWrite a v

/-- AUD_MCLK as an output: the reference of R155 divided by this; none while the pin is an input (R369). -/
def Part.mclkDivisor (m : Part) : Option Nat := if m.is F.AUD_CTRL_MCLKOE 0 then some (2 ^ m.get F.AUD_CTRL_MDIV 0) else none

/-- AUD_PSTAT with MASTER. -/
def Part.pstatWord (m : Part) (n : Nat) : Word :=
  let master : Bool := match m.groupOfPort n with
    | some g => m.master g == some n
    | none => false
  withBits (m.word (R.AUD_PSTAT.addr n)) 3 1 (if master then 1 else 0)

/-! ## The rows -/

def execAudioFrame (n : Fin 8) (cut onTime long : Bool) (period : Nat) (slots : List Word) (s : State) : Out :=
  .next (s.audioFrame n cut onTime long period slots)
def execMissingSync (n : Fin 8) (held : Option (List Word)) (s : State) : Out := .next (s.missingSync n held)
def execOutputFrame (n : Fin 8) (s : State) : Out := .next (s.lift (fun m => m.outputFrame s.mem n))
def execBclkStop (n : Fin 8) (inFrame : Option Nat) (s : State) : Out := .next (s.bclkStop n inFrame)
def execKnotWrite (r : Fin 63) (s : State) : Out := .next (s.lift (fun m => m.knotWrite s.mem r))
def execRecomputeComplete (r : Fin 63) (s : State) : Out := .next (s.lift (fun m => m.recomputeComplete r))
def execLoadGainChange (i : Initiator) (c : Fin 64) (v : Word) (s : State) : Out :=
  .next (s.lift (fun m => m.writeSAF i (R.SAF_LGAIN.addr c) v))
def execFullScaleGainChange (i : Initiator) (c : Fin 64) (v : Word) (s : State) : Out :=
  .next (s.lift (fun m => m.writeSAF i (R.SAF_FSG.addr c) v))
def execChannelRemap (i : Initiator) (c : Fin 64) (v : Word) (s : State) : Out :=
  .next (s.lift (fun m => m.writeSAF i (R.SAF_CHMAP.addr c) v))
def execChannelMute (i : Initiator) (c : Fin 64) (s : State) : Out :=
  .next (s.lift (fun m => m.writeSAF i (R.SAF_CHMAP.addr c) (withBits (m.word (R.SAF_CHMAP.addr c)) 8 1 1)))
def execReleaseOfMute (i : Initiator) (c : Fin 64) (s : State) : Out :=
  .next (s.lift (fun m => m.writeSAF i (R.SAF_CHMAP.addr c) (withBits (m.word (R.SAF_CHMAP.addr c)) 8 1 0)))
def execVDropOrMarginChange (i : Initiator) (r : Fin 63) (margin : Bool) (v : Word) (s : State) : Out :=
  .next (s.lift (fun m => m.writeSAF i (if margin then R.SAF_MARGIN.addr r else R.SAF_VDROP.addr r) v))
def execDepthChange (i : Initiator) (g : Fin 8) (v : Word) (s : State) : Out :=
  .next (s.lift (fun m => m.writeSAF i (R.SAF_GCFG.addr g) v))
def execSafCtrlWrite (i : Initiator) (v : Word) (s : State) : Out := .next (s.lift (fun m => m.writeSAF i R.SAF_CTRL.base v))
def execPortEnable (i : Initiator) (n : Fin 8) (v : Word) (s : State) : Out :=
  .next (s.lift (fun m => m.writeAUD i (R.AUD_PCFG.addr n) (withBits v 31 1 1)))
def execPortDisable (i : Initiator) (n : Fin 8) (v : Word) (s : State) : Out :=
  .next (s.lift (fun m => m.writeAUD i (R.AUD_PCFG.addr n) (withBits v 31 1 0)))

end Sys2Proof.Machine
end

