-- ==== Sys2Proof/Machine/Nvm.lean ====
section
/-! DEFINITION. The non-volatile array: groups and their code, protection, records, the record directory, recall, scrub
and the lifetime counters (R427 to R449). -/
namespace Sys2Proof.Machine

/-! ## Groups and their code (R427 to R429) -/

def nvmBase : Nat := 0x20000000

/-- Address of the group that holds a byte, and its index. -/
def nvmGroup (a : Nat) : Nat := (a - nvmBase) / 8
def nvmGroupAddr (g : Nat) : Nat := nvmBase + 8 * g

def Part.nvmErr (m : Part) (g : Nat) : Nat := m.nvm.errs.get 0 g
def Part.setNvmErr (m : Part) (g n : Nat) : Part := { m with nvm := { m.nvm with errs := m.nvm.errs.set 0 g n } }

/-- Recall runs (R439). -/
def Part.recalling (m : Part) : Bool := m.is F.NVM_STAT_RECALL 0

/-- A read of one group: true where it is uncorrectable (R429). During recall its fault waits for recall's end (R439). -/
def Part.nvmCheck (m : Part) (g : Nat) : Bool × Part :=
  match m.nvmErr g with
  | 0 => (false, m)
  | 1 =>
    let m := ((m.setNvmErr g 0).bump F.NVM_ECCCNT_CE 0).put F.NVM_STAT_CE 0 1
    (false, m.event 0x4004 0 (nvmGroupAddr g))
  | _ =>
    let m := ((m.put F.NVM_ECCADDR_ADDR 0 (nvmGroupAddr g)).bump F.NVM_ECCCNT_UE 0).put F.NVM_STAT_UE 0 1
    (true, if m.recalling then { m with nvm := { m.nvm with found := m.nvm.found ++ [g] } }
           else m.raise 0xC000 63 (m.policy 10) 0)

/-- Read every group of a range: only groups in error have an effect. -/
def Part.nvmSweep (m : Part) (first count : Nat) : Part :=
  (m.nvm.errs.filter (fun q => decide (first ≤ q.1) && decide (q.1 < first + count))).foldl (fun m q => (m.nvmCheck q.1).2) m

/-- A group from `a` on, `n` bytes, is uncorrectable. -/
def Part.nvmBad (m : Part) (a n : Nat) : Bool :=
  m.nvm.errs.any (fun q => decide (2 ≤ q.2) && decide (nvmGroup a ≤ q.1) && decide (q.1 ≤ nvmGroup (a + n - 1)))

/-! ## Protection (R432, R440) -/

/-- An address lies in the range BP protects. -/
def Part.nvmProtected (m : Part) (a : Nat) : Bool :=
  match m.get F.NVM_PROT_BP 0 with
  | 0 => false
  | 1 => decide (0x20030000 ≤ a)
  | 2 => decide (0x20020000 ≤ a)
  | _ => true

def isKey (a : Nat) : Bool := decide (0x2003FF00 ≤ a) && decide (a < 0x2003FF20)
def isLastPage (a : Nat) : Bool := decide (0x2003FF00 ≤ a)

/-- A refused write to the array: the event of R502 with its full address. -/
def Part.nvmRefused (m : Part) (src a v : Nat) : Part := m.event (codeOf 16 0) src a (v % 2 ^ 32)

/-- One access that writes `n` bytes within a group: whether it ends in a bus error, and what it does (R428, R429, R432,
R440). -/
def State.nvmPut (s : State) (src a v n : Nat) : Bool × State :=
  let m := s.part
  let g := nvmGroup a
  if m.nvmProtected a then (true, { s with part := (m.put F.NVM_STAT_PROTW 0 1).nvmRefused src a v })
  else if isLastPage a && !isKey a then (true, { s with part := m.nvmRefused src a v })
  else if n = 8 then (false, { s with part := m.setNvmErr g 0, mem := Mem.write s.mem a v 8 })
  else
    let x := m.nvmCheck g
    if x.1 then (true, { s with part := x.2 }) else (false, { s with part := x.2, mem := Mem.write s.mem a v n })

/-- One access that reads `n` bytes within a group: a bus error, the data, and what it does (R429, R432). -/
def State.nvmGet (s : State) (a n : Nat) : Bool × Nat × State :=
  if isKey a || decide (0x2003FF28 ≤ a) then (false, 0, s)
  else
    let x := s.part.nvmCheck (nvmGroup a)
    (x.1, if x.1 then 0 else Mem.read s.mem a n, { s with part := x.2 })

/-! ## Records (R433 to R435) -/

/-- CRC-32 over one bit and one byte: reflected polynomial 0x04C11DB7. -/
def crc32Byte (c : Nat) (b : Byte) : Nat :=
  (List.range 8).foldl (fun c _ => if c % 2 = 1 then (c / 2) ^^^ 0xEDB88320 else c / 2) (c ^^^ b.toNat)

/-- The CRC of R434. -/
def crc32 (l : List Byte) : Nat := (l.foldl crc32Byte 0xFFFFFFFF) ^^^ 0xFFFFFFFF

/-- Bytes of memory in address order. -/
def Mem.bytes (mem : Mem) (a n : Nat) : List Byte := (List.range n).map (fun i => Mem.byte mem (a + i))

/-- Store bytes in address order. -/
def Mem.writeBytes (mem : Mem) (a : Nat) : List Byte → Mem
  | [] => mem
  | b :: t => Mem.writeBytes (Mem.setByte mem a b) (a + 1) t

/-- A record group: where its slots lie, and its TYPE (R433, R444). -/
structure RecGroup where
  base : Nat
  slots : Nat
  size : Nat
  type : Nat
deriving DecidableEq, Repr

def RecGroup.slotAddr (g : RecGroup) (k : Nat) : Nat := g.base + g.size * k

/-- The SEQ of a slot's record, where it is valid (R435). -/
def Part.validRecord (m : Part) (mem : Mem) (g : RecGroup) (k : Nat) : Option Nat :=
  let a := g.slotAddr k
  let w0 := Mem.read mem a 4
  let w1 := Mem.read mem (a + 4) 4
  let len := w1 % 65536
  if w0 % 65536 ≠ 0x5E1A || w0 / 65536 % 256 ≠ g.type || w0 / 2 ^ 24 ≠ 0 || w1 / 65536 ≠ 0 || g.size < len + 16 ||
      m.nvmBad a (16 + len) then none
  else if crc32 (Mem.bytes mem a 12 ++ Mem.bytes mem (a + 16) len) ≠ Mem.read mem (a + 12) 4 then none
  else some (Mem.read mem (a + 8) 4)

/-- Payload of a slot. -/
def payloadOf (mem : Mem) (g : RecGroup) (k : Nat) : List Byte :=
  Mem.bytes mem (g.slotAddr k + 16) (Mem.read mem (g.slotAddr k + 4) 2)

/-- Valid slots with their SEQ, by rising address. -/
def Part.validSlots (m : Part) (mem : Mem) (g : RecGroup) : List (Nat × Nat) :=
  (List.range g.slots).filterMap (fun k => (m.validRecord mem g k).map (fun q => (k, q)))

/-- The newest record of a group, and whether the tie rule with differing payloads chose it (R435). -/
def Part.newestRecord (m : Part) (mem : Mem) (g : RecGroup) : Option (Nat × Nat × Bool) :=
  let v := m.validSlots mem g
  match v with
  | [] => none
  | q :: t =>
    let top := t.foldl (fun n q => max n q.2) q.2
    let win := v.filter (fun q => q.2 = top)
    match win with
    | [] => none
    | w :: others => some (w.1, top, others.any (fun q => payloadOf mem g q.1 != payloadOf mem g w.1))

/-- Header bytes 0x00 to 0x0B. -/
def recordHeader (type len seq : Nat) : List Byte :=
  wordBytes (BitVec.ofNat 32 (0x5E1A + type * 65536)) ++ wordBytes (BitVec.ofNat 32 len) ++ wordBytes (BitVec.ofNat 32 seq)

/-- The slot and SEQ of the next record (R435), or none at the end of SEQ. -/
def RecGroup.next (g : RecGroup) (newest : Option (Nat × Nat)) : Option (Nat × Nat) :=
  match newest with
  | none => some (0, 0)
  | some (k, q) => if q + 1 = 0xFFFFFFFF then none else some ((k + 1) % g.slots, q + 1)

/-- The groups a record write replaces whole lose their errors. -/
def Part.clearErrs (m : Part) (first count : Nat) : Part := m.each (List.range count) (fun i m => m.setNvmErr (first + i) 0)

/-- The header groups are written last, with the CRC, and the slot is read back (R438): whether it holds the record. -/
def State.putHeader (s : State) (g : RecGroup) (k q : Nat) (payload : List Byte) : Bool × State :=
  let a := g.slotAddr k
  let h := recordHeader g.type payload.length q
  let crc := wordBytes (BitVec.ofNat 32 (crc32 (h ++ payload)))
  let mem := Mem.writeBytes s.mem a (h ++ crc)
  let m := s.part.clearErrs (nvmGroup a) 2
  (m.validRecord mem g k == some q, { s with mem := mem, part := m })

/-- The payload groups; a last group written in part must be readable (R428, R429). False where it is not. -/
def State.putPayload (s : State) (a : Nat) (payload : List Byte) : Bool × State :=
  let len := payload.length
  let n := len / 8
  let whole := Mem.writeBytes s.mem a (payload.take (8 * n))
  let m := s.part.clearErrs (nvmGroup a) n
  if len % 8 = 0 then (true, { s with mem := whole, part := m })
  else
    let x := m.nvmCheck (nvmGroup (a + len))
    if x.1 then (false, { s with mem := whole, part := x.2 })
    else (true, { s with mem := Mem.writeBytes s.mem a payload, part := x.2 })

/-- What a record write came to. -/
structure RecordPut where
  result : Nat
  slot : Nat := 0
  seq : Nat := 0
deriving DecidableEq, Repr

/-- The record write of R438, steps 1 to 3. -/
def State.putRecord (s : State) (src : Nat) (g : RecGroup) (newest : Option (Nat × Nat)) (payload : List Byte) :
    RecordPut × State :=
  match g.next newest with
  | none => ({ result := 4 }, s.lift (fun m => m.put F.NVM_STAT_SEQEND 0 1))
  | some (k, q) =>
    let a := g.slotAddr k
    if s.part.nvmProtected a then
      ({ result := 2, slot := k, seq := q }, s.lift (fun m => (m.put F.NVM_STAT_PROTW 0 1).nvmRefused src a 0))
    else
      let x := s.putPayload (a + 16) payload
      if !x.1 then ({ result := 2, slot := k, seq := q }, x.2)
      else
        let y := x.2.putHeader g k q payload
        ({ result := if y.1 then 0 else 3, slot := k, seq := q }, y.2)

/-! ## The directory (R436, R437) -/

/-- The group that a directory entry describes. -/
def dirGroup (e : Nat × Nat) : RecGroup :=
  { base := nvmBase + 16 * (e.1 % 2 ^ 14), slots := e.1 / 2 ^ 16 % 256 + 1, type := e.1 / 2 ^ 24 % 256, size := e.2 % 2 ^ 13 }

def dirEnabled (e : Nat × Nat) : Bool := e.2 / 2 ^ 31 % 2 = 1

/-- R437 refuses an enabled entry; `lower` are the entries with a lower number. -/
def dirRefused (e : Nat × Nat) (lower : List (Nat × Nat)) : Bool :=
  let g := dirGroup e
  let n := g.slots * g.size
  (g.slots ≠ 2 && g.slots < 16) || g.size % 8 ≠ 0 || g.size < 24 || 4096 < g.size ||
    g.base < 0x20008000 || 0x20010000 < g.base + n || g.type < 0x10 ||
    lower.any (fun f => dirEnabled f && meets g.base n (dirGroup f).base ((dirGroup f).slots * (dirGroup f).size))

/-- The directory as it was last read. -/
def Part.dirEntry (m : Part) (k : Nat) : Nat × Nat := m.nvm.dir.get (0, 0) k

/-- A tie of differing payloads: flag and event, which names the group and the SEQ (R435). -/
def Part.noteTie (m : Part) (k q : Nat) : Part := (m.put F.NVM_STAT_TIE 0 1).event 0x4005 0 k q

/-- Take over the newest record of a group, with the event of a tie (R435). -/
def Part.noteNewest (m : Part) (mem : Mem) (k : Nat) (g : RecGroup) : Part :=
  match m.newestRecord mem g with
  | none => (m.setWord (R.NVM_RGS.addr k) (BitVec.ofNat 32 (2 ^ 30))).setWord (R.NVM_RGQ.addr k) 0
  | some (slot, q, tie) =>
    let m := m.setWord (R.NVM_RGS.addr k) (BitVec.ofNat 32 (2 * 2 ^ 30 + (if tie then 2 ^ 29 else 0) + slot))
    let m := m.setWord (R.NVM_RGQ.addr k) (BitVec.ofNat 32 q)
    if tie then m.noteTie k q else m

/-- Read the directory and find the newest record of every enabled group (R436, R439). The groups' reads act under R429. -/
def Part.readDirectory (m : Part) (mem : Mem) : Part :=
  let m := m.nvmSweep 0 32
  let entry := fun (m : Part) (k : Nat) =>
    if m.nvmBad (nvmBase + 8 * k) 8 then (0, 0) else (Mem.read mem (nvmBase + 8 * k) 4, Mem.read mem (nvmBase + 8 * k + 4) 4)
  let es := (List.range 32).map (entry m)
  let m := { m with nvm := { m.nvm with dir := (List.range 32).foldl (fun d k => d.set (0, 0) k (es.getD k (0, 0))) [] } }
  let m := m.nvmSweep (nvmGroup 0x20008000) 0x1000
  m.each (List.range 32) (fun k m =>
    let e := es.getD k (0, 0)
    if !dirEnabled e then (m.setWord (R.NVM_RGS.addr k) 0).setWord (R.NVM_RGQ.addr k) 0
    else if dirRefused e (es.take k) then (m.setWord (R.NVM_RGS.addr k) (BitVec.ofNat 32 (3 * 2 ^ 30))).setWord (R.NVM_RGQ.addr k) 0
    else m.noteNewest mem k (dirGroup e))

/-- The newest record of a group for its next write: as last found, or chosen afresh where it is no longer valid (R448). -/
def Part.newestOf (m : Part) (mem : Mem) (g : RecGroup) (known : Option (Nat × Nat)) : Option (Nat × Nat) :=
  match known with
  | none => none
  | some (k, q) => if m.validRecord mem g k = some q then some (k, q) else (m.newestRecord mem g).map (fun x => (x.1, x.2.1))

/-! ## A record write by a program (R438) -/

/-- The payload lies wholly in core memory or in shared buffer memory. -/
def payloadPlace (a n : Nat) : Bool :=
  (decide (0x10000000 ≤ a) && decide (a + n ≤ 0x10100000)) || (decide (0x13040000 ≤ a) && decide (a + n ≤ 0x13100000))

/-- A bank of shared buffer memory that holds a part of the payload is off: its read ends in a bus error (R438, R456; log entry 127). -/
def Part.sourceOff (m : Part) (a n : Nat) : Bool :=
  ([3, 4, 5] : List Nat).any (fun d => m.domainOff d && meets a (max n 1) (0x13040000 + (d - 3) * 0x40000) 0x40000)

/-- A write of NVM_RWR: with GO = 1 the record is written, and its outcome waits for RECORD_WRITE_DONE. -/
def State.recordWrite (s : State) (i : Initiator) (v : Word) : State :=
  let m := s.part
  if m.is F.NVM_RWR_GO 0 || m.recalling then { s with part := m.refuse F.NVM_STAT_REFUSED i R.NVM_RWR.base v }
  else
    let m := m.plainWrite R.NVM_RWR.base v
    let s := { s with part := m }
    if fieldOf v F.NVM_RWR_GO = 0 then s
    else
      let k := m.get F.NVM_RWR_GRP 0
      let len := m.get F.NVM_RWR_LEN 0
      let src := m.get F.NVM_RWSRC_SRC 0
      let st := m.get F.NVM_RGS_STATE k
      let g := dirGroup (m.dirEntry k)
      let x : RecordPut × State :=
        if (st ≠ 1 && st ≠ 2) || g.size < len + 16 then ({ result := 1 }, s)
        else if !payloadPlace src len || m.sourceOff src len then ({ result := 2 }, s)
        else
          let known := if st = 2 then some (m.get F.NVM_RGS_SLOT k, m.get F.NVM_RGQ_SEQ k) else none
          s.putRecord (srcInit i) g (m.newestOf s.mem g known) (Mem.bytes s.mem src len)
      x.2.lift (fun m => { m with nvm := { m.nvm with rwr := some { result := x.1.result, grp := k, slot := x.1.slot, seq := x.1.seq } } })

/-- The record write ends: steps 4 and 5 of R438. -/
def Part.recordDone (m : Part) : Part :=
  match m.nvm.rwr with
  | none => m
  | some x =>
    let m := { m with nvm := { m.nvm with rwr := none } }
    let m := if x.result = 0 then
        (m.setWord (R.NVM_RGS.addr x.grp) (BitVec.ofNat 32 (2 * 2 ^ 30 + x.slot))).setWord (R.NVM_RGQ.addr x.grp) (BitVec.ofNat 32 x.seq)
      else m
    (m.put F.NVM_RWR_RESULT 0 x.result).put F.NVM_RWR_GO 0 0

/-! ## Lifetime counters (R443 to R447) -/

def counterGroup (fam : Nat) (high : Bool) : RecGroup :=
  match fam, high with
  | 0, false => { base := 0x20000100, slots := 16, size := 272, type := 1 }
  | 0, true => { base := 0x20001200, slots := 2, size := 296, type := 2 }
  | 1, false => { base := 0x20001800, slots := 16, size := 528, type := 3 }
  | 1, true => { base := 0x20003900, slots := 2, size := 552, type := 4 }
  | _, false => { base := 0x20004000, slots := 16, size := 528, type := 5 }
  | _, true => { base := 0x20006100, slots := 2, size := 552, type := 6 }

/-- Counters of a family. -/
def counterCount (fam : Nat) : Nat := if fam = 0 then 63 else 128

/-- CLV_REL of a rail. -/
def Part.railEnergy (m : Part) (r : Nat) : Nat := m.get F.CLV_RELO_E r + 2 ^ 32 * m.get F.CLV_REHI_E r

/-- Increments gathered since the last commit. -/
def Part.gathered (m : Part) (fam i : Nat) : Nat :=
  m.life.get 0 (256 * fam + i) + (match fam with
    | 0 => (m.railEnergy i + 2 ^ 64 - m.nvm.energyAt.get 0 i) % 2 ^ 64
    | 1 => (m.swTicks i - m.nvm.swTaken.get 0 i) / (10 * m.kHz)
    | _ => 0)

/-- The increments of a counter are taken: energy up to now, whole units of switching time. -/
def Part.takeGathered (m : Part) (fam i : Nat) : Part :=
  let n := m.gathered fam i - m.life.get 0 (256 * fam + i)
  let m' := { m with life := m.life.set 0 (256 * fam + i) 0 }
  match fam with
  | 0 => { m' with nvm := { m'.nvm with energyAt := m'.nvm.energyAt.set 0 i (m.railEnergy i) } }
  | 1 => { m' with nvm := { m'.nvm with swTaken := m'.nvm.swTaken.set 0 i (m.nvm.swTaken.get 0 i + n * (10 * m.kHz)) } }
  | _ => m'

def Part.committed (m : Part) (fam i : Nat) : Nat := m.nvm.counters.get 0 (256 * fam + i)

/-- The lifetime value that NVM_LCLO and NVM_LCHI present (R446). -/
def Part.lifetime (m : Part) (fam i : Nat) : Nat := (m.committed fam i + m.gathered fam i) % 2 ^ 64

def Part.newestCounter (m : Part) (fam : Nat) (high : Bool) : Option (Nat × Nat) :=
  m.nvm.newest.get none (2 * fam + (if high then 1 else 0))
def Part.setNewestCounter (m : Part) (fam : Nat) (high : Bool) (x : Option (Nat × Nat)) : Part :=
  { m with nvm := { m.nvm with newest := m.nvm.newest.set none (2 * fam + (if high then 1 else 0)) x } }

/-- Payload of a low record, and of a high record with its PEND bits and LSEQ (R444). -/
def lowPayload (n : Nat) (v : Nat → Nat) : List Byte := (List.range n).flatMap (fun i => wordBytes (BitVec.ofNat 32 (v i)))
def highPayload (n : Nat) (v : Nat → Nat) (pend : Nat → Bool) (lseq : Nat) : List Byte :=
  lowPayload n (fun i => v i / 2 ^ 32) ++
  (List.range 16).map (fun k => BitVec.ofNat 8 ((List.range 8).foldl (fun acc b => acc + (if pend (8 * k + b) then 2 ^ b else 0)) 0)) ++
  wordBytes (BitVec.ofNat 32 lseq) ++ wordBytes 0

/-- A record write of the counter engine, retried once where its read-back fails (R448): whether it was made. -/
def State.counterWrite (s : State) (fam : Nat) (high : Bool) (payload : List Byte) : Bool × State :=
  let g := counterGroup fam high
  let x := s.putRecord 0 g (s.part.newestOf s.mem g (s.part.newestCounter fam high)) payload
  let x := if x.1.result = 3 then x.2.putRecord 0 g (some (x.1.slot, x.1.seq - 1)) payload else x
  if x.1.result = 0 then (true, x.2.lift (fun m => m.setNewestCounter fam high (some (x.1.slot, x.1.seq)))) else (false, x.2)

/-- LSEQ of the high record, carried on where step 1 is not made. -/
def nextSeq (g : RecGroup) (newest : Option (Nat × Nat)) : Nat := ((g.next newest).map (fun x => x.2)).getD 0

/-- The commit of one family (R445). A write that is not made ends it, and the increments stay gathered. -/
def State.commitFamily (s : State) (fam : Nat) : State :=
  let m := s.part
  let n := counterCount fam
  let old := m.committed fam
  let new := fun (i : Nat) => (m.committed fam i + m.gathered fam i) % 2 ^ 64
  let wraps := fun (i : Nat) => decide (i < n) && decide (2 ^ 32 ≤ old i % 2 ^ 32 + m.gathered fam i)
  let any := (List.range n).any wraps
  let low := counterGroup fam false
  let lseq := nextSeq low (m.newestOf s.mem low (m.newestCounter fam false))
  let x := if any then s.counterWrite fam true (highPayload n old wraps lseq) else (true, s)
  if !x.1 then x.2
  else
    let y := x.2.counterWrite fam false (lowPayload n new)
    if !y.1 then y.2
    else
      let z := if any then y.2.counterWrite fam true (highPayload n new (fun _ => false) lseq) else y
      z.2.lift (fun m' =>
        let m' := { m' with nvm := { m'.nvm with
          counters := (List.range n).foldl (fun c i => c.set 0 (256 * fam + i) (new i)) m'.nvm.counters } }
        m'.each (List.range n) (fun i m' => m'.takeGathered fam i))

/-- A commit of every family, or its wait while the counter area is protected (R443, R448). -/
def State.commitCounters (s : State) : State :=
  if s.part.recalling then s
  else if s.part.nvmProtected 0x20000100 then s.lift (fun m => m.put F.NVM_STAT_HELD 0 1)
  else
    let s := s.lift (fun m => m.put F.NVM_STAT_HELD 0 0)
    ((s.commitFamily 0).commitFamily 1).commitFamily 2

/-- A word of a payload. -/
def payloadWord (l : List Byte) (i : Nat) : Nat :=
  (List.range 4).foldl (fun acc k => acc + (l.getD (4 * i + k) 0).toNat * 256 ^ k) 0

/-- A tie among a counter group's newest records is reported as any group's is, the group named by 32 + its TYPE (R435; log entry 127). -/
def Part.counterTie (m : Part) (mem : Mem) (g : RecGroup) : Part :=
  match m.newestRecord mem g with
  | some (_, q, true) => m.noteTie (32 + g.type) q
  | _ => m

/-- Recovery of one family at recall (R447). -/
def State.recoverFamily (s : State) (fam : Nat) : State :=
  let n := counterCount fam
  let lowG := counterGroup fam false
  let highG := counterGroup fam true
  let s := s.lift (fun m => (m.counterTie s.mem lowG).counterTie s.mem highG)
  let m := s.part
  match m.newestRecord s.mem lowG, m.newestRecord s.mem highG with
  | some (lk, lq, _), some (hk, hq, _) =>
    let low := payloadOf s.mem lowG lk
    let high := payloadOf s.mem highG hk
    let pend := fun (i : Nat) => (high.getD (4 * n + i / 8) 0).getLsbD (i % 8)
    let lseq := payloadWord high (n + 4)
    let any := (List.range n).any pend
    let before := ((m.validSlots s.mem lowG).filter (fun q => decide (q.2 < lq))).foldl (fun (acc : Option (Nat × Nat)) q =>
      match acc with
      | none => some q
      | some x => if x.2 < q.2 then some q else some x) none
    let fell := fun (i : Nat) => match before with
      | none => true
      | some q => decide (payloadWord low i < payloadWord (payloadOf s.mem lowG q.1) i)
    let carry := fun (i : Nat) => decide (i < n) && any && decide (lq = lseq) && pend i && fell i
    let hi := fun (i : Nat) => payloadWord high i + (if carry i then 1 else 0)
    let m := { m with nvm := { m.nvm with
      counters := (List.range n).foldl (fun c i => c.set 0 (256 * fam + i) (hi i % 2 ^ 32 * 2 ^ 32 + payloadWord low i)) m.nvm.counters } }
    let m := (m.setNewestCounter fam false (some (lk, lq))).setNewestCounter fam true (some (hk, hq))
    let s := { s with part := m }
    if !any then s
    else
      let s := (s.counterWrite fam true (highPayload n (fun i => hi i * 2 ^ 32) (fun _ => false) lseq)).2
      s.lift (fun m => m.each ((List.range n).filter carry) (fun i m =>
        (m.put F.NVM_STAT_CARRY 0 1).event 0x4006 0 (fam + 256 * i) (hi i % 2 ^ 32)))
  | a, b =>
    s.lift (fun m => (m.setNewestCounter fam false (a.map (fun x => (x.1, x.2.1)))).setNewestCounter fam true (b.map (fun x => (x.1, x.2.1))))

/-! ## The Garnet log region (R328, R432, R439) -/

def logSlotAddr (k : Nat) : Nat := 0x20010000 + 32 * k

/-- SEV and SEQ of a valid slot of the log region. -/
def Part.logSlot (m : Part) (mem : Mem) (k : Nat) : Option (Nat × Nat) :=
  let a := logSlotAddr k
  let sev := Mem.read mem (a + 0x1C) 1 % 8
  if 5 < sev || m.nvmBad a 32 then none
  else if crc16 (Mem.bytes mem a 30) ≠ Mem.read mem (a + 30) 2 then none
  else some (sev, Mem.read mem a 4)

/-- Valid slots of the log region: number, SEV, SEQ. -/
def Part.logSlots (m : Part) (mem : Mem) : List (Nat × Nat × Nat) :=
  (List.range 2048).filterMap (fun k => (m.logSlot mem k).map (fun q => (k, q.1, q.2)))

/-- HEAD and TAIL from the mirrored records (R323, R439). -/
def Part.recallLog (m : Part) (mem : Mem) : Part :=
  let v := m.logSlots mem
  let head := match v with
    | [] => 0xFFFFFFFF
    | q :: t => t.foldl (fun n q => max n q.2.2) q.2.2
  let m := (m.put F.GRN_HEAD_SEQ 0 head).put F.GRN_TAIL_SEQ 0 ((head + 1) % 2 ^ 32)
  m.put F.GRN_MCNT_USED 0 v.length

/-! ## Recall (R439) -/

/-- RECALL: the controller's reads and recoveries after a cold reset. -/
def State.recall (s : State) : State :=
  if !s.part.recalling then s
  else
    let m := s.part.nvmSweep (nvmGroup 0x2003FF20) 1
    let bp := if m.nvmBad 0x2003FF20 8 then 0 else Mem.read s.mem 0x2003FF20 1 % 4
    let m := (m.put F.NVM_PROT_BP 0 bp).readDirectory s.mem
    let m := m.nvmSweep (nvmGroup 0x20000100) (0x7F00 / 8)
    let s := { s with part := m }
    let s := ((s.recoverFamily 0).recoverFamily 1).recoverFamily 2
    s.lift (fun m => (m.nvmSweep (nvmGroup 0x20010000) 0x2000).recallLog s.mem)

/-- Recall has ended: READY, and the faults it found (R439). -/
def Part.recallEnds (m : Part) : Part :=
  if !m.recalling then m
  else
    let found := m.nvm.found
    let m := { m with nvm := { m.nvm with found := [] } }
    let m := (m.put F.NVM_STAT_RECALL 0 0).put F.NVM_STAT_READY 0 1
    found.foldl (fun m _ => m.raise 0xC000 63 (m.policy 10) 0) m

/-! ## Scrub (R442) -/

/-- A scrub starts at group 0 (R40, R442). -/
def Part.startScrub (m : Part) : Part :=
  if m.is F.NVM_CTRL_SCRUB 0 then m
  else
    let m := (m.put F.NVM_CTRL_SCRUB 0 1).setProg R.NVM_PROG 0 0 1
    { m with nvm := { m.nvm with scrubbed := 0 } }

/-- The scrub runs: Clove's step 1 does not defer it (R255). -/
def Part.scrubRuns (m : Part) : Bool := m.is F.NVM_CTRL_SCRUB 0 && !m.stepInForce 1

/-- The scrub reads the next group while time passes, and PROG names the one after it, which it then works on (R39, R40; its pace is a
DESIGN CHOICE, log entry 124). The last group is read as the scrub completes. -/
def Part.scrubTick (m : Part) : Part :=
  let k := m.nvm.scrubbed
  if m.scrubRuns && decide (k < 32767) then
    let m := m.nvmSweep k 1
    ({ m with nvm := { m.nvm with scrubbed := k + 1 } }).setProg R.NVM_PROG (k + 1) (k + 1) 32768
  else m

/-- The scrub completes, with the groups it has still to read; one that is deferred does not (R255, R442). -/
def Part.scrubEnds (m : Part) : Part :=
  if m.scrubRuns then
    let m := m.nvmSweep m.nvm.scrubbed (32768 - m.nvm.scrubbed)
    let m := { m with nvm := { m.nvm with scrubbed := 32768 } }
    ((m.put F.NVM_CTRL_SCRUB 0 0).put F.NVM_STAT_SDONE 0 1).setProg R.NVM_PROG 32767 1 1
  else m

def Part.abortScrub (m : Part) : Part := m.put F.NVM_CTRL_SCRUB 0 0

/-! ## The stream port (R430) -/

/-- The address of the next byte of a stream, and whether it wrapped within its page. -/
def streamNext (a : Nat) : Nat × Bool := if a % 256 = 255 then (a - 255, true) else (a + 1, false)

/-- A byte written through NVM_SDATA. -/
def State.streamByte (s : State) (i : Initiator) (v : Word) : State :=
  let a := s.part.get F.NVM_SADDR_ADDR 0
  let x := s.nvmPut (srcInit i) (nvmBase + a) (v.toNat % 256) 1
  let n := streamNext a
  x.2.lift (fun m =>
    let m := m.put F.NVM_SADDR_ADDR 0 n.1
    let m := if n.2 then m.put F.NVM_STAT_WRAP 0 1 else m
    { m with bus := { m.bus with error := x.1 } })

/-! ## NVMC registers (R441, R449) -/

/-- A write of NVM_PROT: BP under its lock, and the protection word (R9, R440, R441). A commit that waited is made when
protection allows (R448). -/
def State.writeProt (s : State) (i : Initiator) (v : Word) : State :=
  let m := s.part
  let locked := m.is F.NVM_PROT_LOCK 0
  let m := if fieldOf v F.NVM_PROT_LOCK = 1 then m.put F.NVM_PROT_LOCK 0 1 else m
  if locked then { s with part := m.refusedWrite i R.NVM_PROT.base v }
  else
    let bp := fieldOf v F.NVM_PROT_BP
    let m := (m.put F.NVM_PROT_BP 0 bp).setNvmErr (nvmGroup 0x2003FF20) 0
    let s := { s with part := m, mem := Mem.write s.mem 0x2003FF20 bp 8 }
    if m.is F.NVM_STAT_HELD 0 then s.commitCounters else s

/-- Actions of NVM_CTRL. -/
def State.writeNvmCtrl (s : State) (v : Word) : State :=
  let s := if fieldOf v F.NVM_CTRL_SABORT = 1 then s.lift Part.abortScrub else s
  let s := if fieldOf v F.NVM_CTRL_SCRUB = 1 then s.lift Part.startScrub else s
  let s := if fieldOf v F.NVM_CTRL_COMMIT = 1 then s.commitCounters else s
  if fieldOf v F.NVM_CTRL_RESCAN = 1 then s.lift (fun m => m.readDirectory s.mem) else s

/-- What refuses a write to other NVMC registers. -/
def nvmValueRefused (a : Nat) (v : Word) : Bool :=
  (a = R.NVM_CCFG.base && fieldOf v F.NVM_CCFG_INT = 0) ||
  (a = R.NVM_LCSEL.base && (fieldOf v F.NVM_LCSEL_FAM = 3 || (fieldOf v F.NVM_LCSEL_FAM = 0 && 62 < fieldOf v F.NVM_LCSEL_IDX))) ||
  (a = R.NVM_RWSRC.base && !payloadPlace v.toNat 1)

/-- A fabric write to a register of the NVMC block. -/
def State.writeNVMC (s : State) (i : Initiator) (a : Nat) (v : Word) : State :=
  if a = R.NVM_STAT.base then s.lift (fun m => m.plainWrite a v)
  else if s.part.recalling || nvmValueRefused a v then s.lift (fun m => m.refuse F.NVM_STAT_REFUSED i a v)
  else if a = R.NVM_CTRL.base then s.writeNvmCtrl v
  else if a = R.NVM_PROT.base then s.writeProt i v
  else if a = R.NVM_SDATA.base then s.streamByte i v
  else if a = R.NVM_RWR.base then s.recordWrite i v
  else s.lift (fun m => m.plainWrite a v)

/-- NVM_LCLO and NVM_LCHI. -/
def Part.lifetimeWord (m : Part) (high : Bool) : Word :=
  let v := m.lifetime (m.get F.NVM_LCSEL_FAM 0) (m.get F.NVM_LCSEL_IDX 0)
  BitVec.ofNat 32 (if high then v / 2 ^ 32 else v)

/-! ## The rows -/

def execNvmSdataWrite (i : Initiator) (v : Word) (s : State) : Out := .next (s.writeNVMC i R.NVM_SDATA.base v)
def execRecordWrite (i : Initiator) (v : Word) (s : State) : Out := .next (s.writeNVMC i R.NVM_RWR.base (withBits v 31 1 1))
def execRecordWriteDone (s : State) : Out := .next (s.lift Part.recordDone)
def execRecall (s : State) : Out := .next s.recall
def execRescan (i : Initiator) (s : State) : Out := .next (s.writeNVMC i R.NVM_CTRL.base 16)
def execBpWrite (i : Initiator) (v : Word) (s : State) : Out := .next (s.writeNVMC i R.NVM_PROT.base v)
def execScrub (i : Initiator) (s : State) : Out := .next (s.writeNVMC i R.NVM_CTRL.base 2)
def execScrubAbort (i : Initiator) (s : State) : Out := .next (s.writeNVMC i R.NVM_CTRL.base 4)
def execScrubDone (s : State) : Out := .next (s.lift Part.scrubEnds)
def execCommit (i : Initiator) (s : State) : Out := .next (s.writeNVMC i R.NVM_CTRL.base 8)

/-- COMMIT_INTERVAL: INT seconds have passed since the last timed commit; it is made while CEN is 1 (R443). -/
def execCommitInterval (s : State) : Out := .next (if s.part.is F.NVM_CCFG_CEN 0 then s.commitCounters else s)

end Sys2Proof.Machine
end

