-- ==== Sys2Proof/Machine/Garnet.lean ====
section
/-! DEFINITION. The Garnet event record: the ring, repeats, the freeze, software records, mirroring (R319 to R330). -/
namespace Sys2Proof.Machine

/-! ## Records as bytes (R320, R322, R323) -/

/-- Bytes of a record with its sequence number. -/
def recordBytes (r : GRec) (seq : Nat) : List Byte :=
  let w := fun (n : Nat) => wordBytes (BitVec.ofNat 32 n)
  let b := fun (x : Bool) (k : Nat) => if x then 2 ^ k else 0
  let flags := r.sev % 8 + b r.esc 3 + r.osev % 8 * 16 + b r.tbl 7 + b r.qovf 8 + b r.hnd 9
  let body := w seq ++ w r.ts ++ w (r.ts / 2 ^ 32 % 2 ^ 16 + r.code * 2 ^ 16) ++ w (r.source + min 0xFFFF r.repeats * 2 ^ 16) ++
    w r.data0 ++ w r.data1 ++ w r.data2 ++ [BitVec.ofNat 8 flags, BitVec.ofNat 8 (flags / 256)]
  let c := crc16 body
  body ++ [BitVec.ofNat 8 c, BitVec.ofNat 8 (c / 256)]

def ringAddr (seq : Nat) : Nat := 0x13000000 + 32 * (seq % 8192)

/-- The record with a sequence number goes into the ring. -/
def putRing (mem : Mem) (r : GRec) (seq : Nat) : Mem := Mem.writeBytes mem (ringAddr seq) (recordBytes r seq)

/-! ## Mirroring (R328, R329) -/

/-- A record is mirrored: a fault of MSEV or above, while MEN is 1. -/
def Part.mirrored (m : Part) (r : GRec) : Bool :=
  m.is F.GRN_CTRL_MEN 0 && decide (r.sev < 6) && decide (m.get F.GRN_CTRL_MSEV 0 ≤ r.sev)

/-- A copy waits; beyond 64 the oldest waiting one is dropped. -/
def Part.queueMirror (m : Part) (r : GRec) (seq : Nat) : Part :=
  if !m.mirrored r then m
  else
    let q := m.grn.mirror ++ [(r, seq)]
    if q.length ≤ 64 then { m with grn := { m.grn with mirror := q } }
    else ({ m with grn := { m.grn with mirror := q.drop 1 } }).bump F.GRN_MCNT_MDROP 0

/-- The slot for a copy: the first empty one, or the least severe of those not above it, lowest sequence on a tie (R328). -/
def chooseSlot (v : List (Nat × Nat × Nat)) (sev : Nat) : Option Nat :=
  match (List.range 2048).find? (fun k => v.all (fun q => q.1 ≠ k)) with
  | some k => some k
  | none => ((v.filter (fun q => decide (q.2.1 ≤ sev))).foldl (fun (acc : Option (Nat × Nat × Nat)) q => match acc with
      | none => some q
      | some x => if q.2.1 < x.2.1 || (q.2.1 = x.2.1 && q.2.2 < x.2.2) then some q else some x) none).map (fun q => q.1)

/-- MIRROR_COPY: the oldest waiting copy is written, unless the NVM refuses access or protects its log region (R329). -/
def State.mirrorCopy (s : State) : State :=
  match s.part.grn.mirror with
  | [] => s
  | (r, seq) :: rest =>
    if s.part.recalling || s.part.nvmProtected 0x20010000 then s
    else
      let m := { s.part with grn := { s.part.grn with mirror := rest } }
      let v := m.logSlots s.mem
      match chooseSlot v r.sev with
      | none => { s with part := m.bump F.GRN_MCNT_MDROP 0 }
      | some k =>
        let mem := Mem.writeBytes s.mem (logSlotAddr k) (recordBytes r seq)
        let m := m.clearErrs (nvmGroup (logSlotAddr k)) 4
        { s with mem := mem, part := m.put F.GRN_MCNT_USED 0 (m.logSlots mem).length }

/-! ## The ring (R323 to R326) -/

/-- A new record matches an older one and lies within the repeat window (R325). -/
def Part.repeats (m : Part) (old new : GRec) : Bool :=
  let win := m.get F.GRN_CFG_RWIN 0
  win ≠ 0 && old.code = new.code && old.source = new.source && old.sev = new.sev && old.esc = new.esc && old.data0 = new.data0 &&
    decide (old.ts ≤ new.ts) && decide ((new.ts - old.ts) * 64 ≤ win * m.kHz)

/-- Number of entries queued for faults whose record this is: their SEQ becomes known. -/
def Part.noteSeq (m : Part) (tag seq : Nat) : Part :=
  { m with flt := { m.flt with queue := m.flt.queue.map (fun e => if e.tag = tag then { e with seq := seq } else e) } }

/-- A record is written to the ring with SEQ = HEAD + 1. The record before it, where it has repeated, is mirrored again
(R324, R328). -/
def State.toRing (s : State) (r : GRec) : State :=
  let m := s.part
  let head := m.get F.GRN_HEAD_SEQ 0
  let seq := (head + 1) % 2 ^ 32
  let m := match m.grn.newest with
    | some x => if 0 < x.repeats then m.queueMirror x head else m
    | none => m
  let tail := m.get F.GRN_TAIL_SEQ 0
  let m := m.put F.GRN_HEAD_SEQ 0 seq
  let m := if 8192 ≤ (seq + 2 ^ 32 - tail) % 2 ^ 32 then m.put F.GRN_TAIL_SEQ 0 ((tail + 1) % 2 ^ 32) else m
  let m := { m with grn := { m.grn with newest := some r } }
  { s with mem := putRing s.mem r seq, part := (m.queueMirror r seq).noteSeq r.tag seq }

/-- The newest record repeats once more: its REPEAT and CRC change, HEAD does not (R325). -/
def State.repeatRing (s : State) (old new : GRec) : State :=
  let head := s.part.get F.GRN_HEAD_SEQ 0
  let x := { old with repeats := min 0xFFFF (old.repeats + 1) }
  let m := { s.part with grn := { s.part.grn with newest := some x } }
  { s with mem := putRing s.mem x head, part := m.noteSeq new.tag head }

/-- The ring is frozen (R326). -/
def Part.frozen (m : Part) : Bool := m.is F.GRN_STAT_FROZEN 0

/-- A record reaches the freeze buffer, where records repeat among themselves, or is lost (R324, R326). -/
def Part.toBuffer (m : Part) (r : GRec) : Part :=
  let b := m.grn.buffer
  let set := fun (b : List GRec) => { m with grn := { m.grn with buffer := b } }
  match b.getLast? with
  | some x =>
    if m.repeats x r then set (b.dropLast ++ [{ x with repeats := min 0xFFFF (x.repeats + 1) }])
    else if b.length < 64 then set (b ++ [r])
    else if r.sev = 5 then (set (dropLowest b ++ [r])).countLost
    else m.countLost
  | none => set [r]

/-- The count of lost records is recorded once the input queue, and the freeze buffer while the ring is frozen, has room
(R324, R326). -/
def Part.reportLost (m : Part) : Part :=
  if 0 < m.grn.lostSince && m.grn.queue.length < 64 && (!m.frozen || m.grn.buffer.length < 64) then
    let n := m.grn.lostSince
    ({ m with grn := { m.grn with lostSince := 0 } }).event 0x3C02 0 n
  else m

/-- GARNET_RECORD_WRITE: the oldest record of the input queue is written (R324). -/
def State.recordOne (s : State) : State :=
  match s.part.grn.queue with
  | [] => s
  | r :: rest =>
    let s := s.lift (fun m => { m with grn := { m.grn with queue := rest } })
    let s := if s.part.frozen then s.lift (fun m => m.toBuffer r)
      else match s.part.grn.newest with
        | some x => if s.part.repeats x r then s.repeatRing x r else s.toRing r
        | none => s.toRing r
    s.lift Part.reportLost

/-- A freeze ends: the buffered records go to the ring in order (R326). -/
def State.unfreeze (s : State) : State :=
  if !s.part.frozen then s.lift (fun m => m.put F.GRN_CTRL_FREEZE 0 0)
  else
    let b := s.part.grn.buffer
    let s := s.lift (fun m => { (m.put F.GRN_CTRL_FREEZE 0 0).put F.GRN_STAT_FROZEN 0 0 with grn := { m.grn with buffer := [] } })
    (b.foldl (fun s r => s.toRing r) s).lift Part.reportLost

def Part.freeze (m : Part) : Part := (m.put F.GRN_CTRL_FREEZE 0 1).put F.GRN_STAT_FROZEN 0 1

/-- A freeze reaches its limit of 2 ms (R326). -/
def State.freezeTimeout (s : State) : State :=
  if s.part.frozen then s.unfreeze.lift (fun m => m.put F.GRN_STAT_FRZTO 0 1) else s

/-! ## Registers and software records (R327, R330) -/

/-- GRN_SWD word `k` of an initiator. -/
def Part.swdWord (m : Part) (i : Initiator) (k : Nat) : Word := m.grn.swd.get 0 (4 * initIndex i + k)

/-- A write of GRN_SWEV submits the initiator's record (R327). It raises no fault. -/
def Part.softwareRecord (m : Part) (i : Initiator) (v : Word) : Part :=
  let sev := fieldOf v F.GRN_SWEV_SEV
  let n := fieldOf v F.GRN_SWEV_EVENT
  if sev = 6 then m.refuse F.GRN_STAT_REFUSED i R.GRN_SWEV.base v
  else
    let d := fun (k : Nat) => (m.swdWord i k).toNat
    m.submit { code := (if sev < 6 then 0xEC00 else 0x6C00) + n, source := srcInit i, sev := sev, osev := if sev < 6 then sev else 0,
               data0 := d 0, data1 := d 1, data2 := d 2 }

/-- A write of GRN_CTRL: a change of FREEZE starts or ends a freeze. -/
def State.writeGrnCtrl (s : State) (i : Initiator) (v : Word) : State :=
  if 5 < fieldOf v F.GRN_CTRL_MSEV then s.lift (fun m => m.refuse F.GRN_STAT_REFUSED i R.GRN_CTRL.base v)
  else
    let s := s.lift (fun m => m.plainWrite R.GRN_CTRL.base v)
    if fieldOf v F.GRN_CTRL_FREEZE = 1 then s.lift Part.freeze else s.unfreeze

/-- A fabric write to a register of the GRN block. -/
def State.writeGRN (s : State) (i : Initiator) (a : Nat) (v : Word) : State :=
  if a = R.GRN_CTRL.base then s.writeGrnCtrl i v
  else if R.GRN_SWD.covers a then
    s.lift (fun m => { m with grn := { m.grn with swd := m.grn.swd.set 0 (4 * initIndex i + R.GRN_SWD.inst a) v } })
  else if a = R.GRN_SWEV.base then s.lift (fun m => m.softwareRecord i v)
  else s.lift (fun m => m.plainWrite a v)

/-- GRN_STAT with PEND. -/
def Part.grnStatWord (m : Part) : Word := withBits (m.word R.GRN_STAT.base) 8 7 m.grn.buffer.length

/-! ## The rows -/

def execGarnetRecordWrite (s : State) : Out := .next s.recordOne
def execFreeze (i : Initiator) (s : State) : Out :=
  .next (s.writeGRN i R.GRN_CTRL.base (withBits (s.part.word R.GRN_CTRL.base) 0 1 1))
def execUnfreeze (i : Initiator) (s : State) : Out :=
  .next (s.writeGRN i R.GRN_CTRL.base (withBits (s.part.word R.GRN_CTRL.base) 0 1 0))
def execFreezeTimeout (s : State) : Out := .next s.freezeTimeout
def execGrnSwev (i : Initiator) (v : Word) (s : State) : Out := .next (s.writeGRN i R.GRN_SWEV.base v)
def execMirrorCopy (s : State) : Out := .next s.mirrorCopy

end Sys2Proof.Machine
end

