-- ==== Sys2Proof/Machine/Policy.lean ====
section
/-! DEFINITION. The POOL and CLV registers, and the rows of the phase pool and of Clove (R224 to R270). -/
namespace Sys2Proof.Machine

/-! ## POOL registers (R244, R247, R248) -/

/-- What refuses a write of a POOL register by its value or by the phase's state. -/
def Part.poolValueRefused (m : Part) (a : Nat) (v : Word) : Bool :=
  if a = R.POOL_CFG.base then
    let d := fieldOf v F.POOL_CFG_STEER_DEAD
    fieldOf v F.POOL_CFG_DRAIN_MAX = 0 || d < 5 || 80 < d
  else if R.POOL_PCFG.covers a then
    let p := R.POOL_PCFG.inst a
    let home := fieldOf v F.POOL_PCFG_HOME
    ((m.changes F.POOL_PCFG_HOME p v || m.changes F.POOL_PCFG_GUEST p v) && m.phState p != phParked) ||
      home = 63 || fieldOf v F.POOL_PCFG_GUEST = home
  else if R.POOL_RCFG.covers a then
    let lo := fieldOf v F.POOL_RCFG_NMIN
    let hi := fieldOf v F.POOL_RCFG_NMAX
    lo = 0 || hi < lo || 32 < hi
  else if R.POOL_RTIM.covers a then fieldOf v F.POOL_RTIM_DRAIN_T = 0 || fieldOf v F.POOL_RTIM_JOIN_T = 0
  else false

/-- A new HOME or GUEST of a parked phase: its current rail follows the switch setting (R225). One left without a guest rail has no
steering switch: it serves its home rail, and its command carries STEER 0 (R224). -/
def Part.rewire (m : Part) (p : Nat) : Part :=
  let old := m.phRail p
  let m := if m.get F.POOL_PCFG_GUEST p = 63 then
      (m.setPool p { m.poolAt p with steerCmd := 0 }).put F.POOL_PSTAT_SW p 0
    else m
  let r := m.steerRail p (m.is F.POOL_PSTAT_SW p)
  if r = old then m
  else (((m.put F.POOL_PSTAT_RAIL p r).put F.PWM_STAT_RAIL p r).recount old).recount r

/-- A fabric write to a register of the POOL block. -/
def Part.writePOOL (m : Part) (mem : Mem) (i : Initiator) (a : Nat) (v : Word) : Part :=
  if m.poolValueRefused a v then m.refuse F.POOL_STAT_REFUSED i a v
  else if a = R.POOL_LREQ.base then
    if fieldOf v F.POOL_LREQ_GO = 1 then m.poolRequest mem i v
    else m.plainWrite a v
  else if R.POOL_PCFG.covers a then (m.plainWrite a v).rewire (R.POOL_PCFG.inst a)
  else m.plainWrite a v

/-! ## CLV registers (R32, R266, R270) -/

/-- What refuses a write of a CLV register. -/
def Part.clvRefused (m : Part) (a : Nat) (v : Word) : Bool :=
  if a = R.CLV_CTRL.base then m.changes F.CLV_CTRL_XB 0 v && !m.allOff
  else if a = R.CLV_CFG.base then
    fieldOf v F.CLV_CFG_HZN = 0 || fieldOf v F.CLV_CFG_QUIET_T = 0 || fieldOf v F.CLV_CFG_MINT = 0
  else if a = R.CLV_TAU.base then fieldOf v F.CLV_TAU_TAU_LONG = 0 || fieldOf v F.CLV_TAU_ETA_PT = 0
  else if a = R.CLV_ISNS.base then m.changes F.CLV_ISNS_AUX 0 v && m.is F.CLV_ISNS_EN 0
  else if a = R.CLV_LIM.base then fieldOf v F.CLV_LIM_ATT_T = 0 || fieldOf v F.CLV_LIM_LREL_T = 0
  else if a = R.CLV_GMIN.base then fieldOf v F.CLV_GMIN_G_MIN = 0 || 32768 < fieldOf v F.CLV_GMIN_G_MIN
  else if a = R.CLV_TWARN.base then
    decide (toSigned 16 (fieldOf v F.CLV_TWARN_T_HOT) ≤ toSigned 16 (fieldOf v F.CLV_TWARN_T_WARN))
  else if a = R.CLV_THM.base then fieldOf v F.CLV_THM_TAU1 = 0 || fieldOf v F.CLV_THM_TAU2 = 0
  else if R.CLV_RCFG.covers a then fieldOf v F.CLV_RCFG_ETA = 0
  else if R.CLV_CHZ.covers a then fieldOf v F.CLV_CHZ_Z = 0
  else false

/-- The level falls to 0: rotation steps of the slice groups and of the stages that fell due meanwhile are taken once (R255). -/
def Part.resumeDeferred (m : Part) : Part := (m.each (List.range 8) (fun k m => m.rotateIfDue k)).resumeRotations

/-- A write of 0 to CLV_CTRL.EN: level 0, S 0, every gain 32,768. -/
def Part.cloveOff (m : Part) : Part :=
  let m := m.setLevel 0
  let m := m.each allRails (fun r m => m.setMarginSteps r 0)
  let m := m.each (List.range 64) (fun c m => m.setChan c { m.chan c with gain := 32768 })
  ({ m.put F.CLV_GNOW_G 0 32768 with clv := { m.clv with q := [], quiet := 0 } }).resumeDeferred

/-- A rail joins a plan again with its margin: a change of a margin register is a squash where the margin in force
changes (R256, R68). -/
def Part.writeRmarg (m : Part) (a r : Nat) (v : Word) : Part :=
  let old := m.margin r
  let m := m.plainWrite a v
  if m.margin r = old then m else m.squash r false

/-- A fabric write to a register of the CLV block. -/
def Part.writeCLV (m : Part) (i : Initiator) (a : Nat) (v : Word) : Part :=
  if m.clvRefused a v then m.refuse F.CLV_STAT_REFUSED i a v
  else if a = R.CLV_CTRL.base then
    let m := m.plainWrite a v
    if fieldOf v F.CLV_CTRL_EN = 0 then m.cloveOff else m
  else if R.CLV_RMARG.covers a then m.writeRmarg a (R.CLV_RMARG.inst a) v
  else m.plainWrite a v

/-! ## The pool's rows -/

def execSteerDeadExpiry (p : Fin 128) (s : State) : Out := .next (s.lift (fun m => m.steerDead p))
def execSteerConfirmTimeout (p : Fin 128) (s : State) : Out := .next (s.lift (fun m => m.steerTimeout p))
def execDrainFail (p : Fin 128) (s : State) : Out := .next (s.lift (fun m => m.drainFails p))

/-- A write of POOL_LREQ with GO = 1 and the row's operation. -/
def Part.lreqWrite (m : Part) (mem : Mem) (i : Initiator) (op : Nat) (v : Word) : Part :=
  m.writePOOL mem i R.POOL_LREQ.base (withBits (withBits v 31 1 1) 16 2 op)

def execMoveToHomeRail (i : Initiator) (v : Word) (s : State) : Out := .next (s.lift (fun m => m.lreqWrite s.mem i 0 v))
def execMoveToGuestRail (i : Initiator) (v : Word) (s : State) : Out := .next (s.lift (fun m => m.lreqWrite s.mem i 1 v))
def execPark (i : Initiator) (v : Word) (s : State) : Out := .next (s.lift (fun m => m.lreqWrite s.mem i 2 v))
def execClear (i : Initiator) (v : Word) (s : State) : Out := .next (s.lift (fun m => m.lreqWrite s.mem i 3 v))
def execSpeculativeAddStart (r : Fin 63) (s : State) : Out := .next (s.lift (fun m => m.specStart s.mem r))

/-! ## Clove's rows -/

def execBudgetTick (s : State) : Out := .next (s.lift (fun m => m.budgetTick s.mem))

/-- LADDER_QUIET_EXPIRY: QUIET_T ms of quiet ticks have passed; the level falls by 1 and the count restarts (R254). -/
def Part.ladderQuiet (m : Part) : Part :=
  if m.is F.CLV_CTRL_EN 0 && 0 < m.get F.CLV_STAT_LEVEL 0 && decide (100 * m.get F.CLV_CFG_QUIET_T 0 ≤ m.clv.quiet) then
    let m := m.setLevel (m.get F.CLV_STAT_LEVEL 0 - 1)
    let m := { m with clv := { m.clv with quiet := 0 } }
    if m.get F.CLV_STAT_LEVEL 0 = 0 then m.resumeDeferred else m
  else m

def execLadderQuietExpiry (s : State) : Out := .next (s.lift Part.ladderQuiet)

/-- MARGIN_STEP: an interval MINT has passed (R256). Clove steps only while it is on. -/
def execMarginStep (s : State) : Out := .next (s.lift (fun m => if m.is F.CLV_CTRL_EN 0 then m.marginStep else m))

/-- BUS_SENSE_TIMEOUT: the bus slice has given no valid conversion for 100 µs (R269). -/
def Part.busSenseLost (m : Part) : Part :=
  let m := { m with clv := { m.clv with noBus := true } }
  (m.put F.CLV_STAT_SENSE 0 1).raise 0xAC00 63 1 0

def execBusSenseTimeout (s : State) : Out := .next (s.lift Part.busSenseLost)
def execClvCtrlWrite (i : Initiator) (v : Word) (s : State) : Out := .next (s.lift (fun m => m.writeCLV i R.CLV_CTRL.base v))

end Sys2Proof.Machine
end

