-- ==== Sys2Proof/Machine/Pmbus.lean ====
section
/-! DEFINITION. The PMBus target port: transactions, packet error checking, the commands the hardware decodes, status,
the mailbox, timeouts and protocol violations (R331 to R353). -/
namespace Sys2Proof.Machine

/-! ## Packet error checking and number formats (R336, R344) -/

/-- One bit of the SMBus CRC-8, polynomial 0x07. -/
def crc8Bit (c : Byte) : Byte := if c.msb then (c <<< 1) ^^^ 7#8 else c <<< 1

def crc8Byte (c b : Byte) : Byte := crc8Bit (crc8Bit (crc8Bit (crc8Bit (crc8Bit (crc8Bit (crc8Bit (crc8Bit (c ^^^ b))))))))

/-- The PEC of the bytes of a transaction. -/
def crc8 (l : List Byte) : Byte := l.foldl crc8Byte 0

def byteOf (n : Nat) : Byte := BitVec.ofNat 8 n

/-- The low `n` bytes of a number, low byte first. -/
def lowBytes (v : Nat) : Nat → List Byte
  | 0 => []
  | n + 1 => byteOf v :: lowBytes (v / 256) n

/-- A number from its bytes, low byte first. -/
def fromBytes : List Byte → Nat
  | [] => 0
  | b :: t => b.toNat + 256 * fromBytes t

/-- Linear16 with exponent −12, saturated (R344). -/
def toLinear16 (v : Nat) : Nat := min v 0xFFFF

/-- The mantissa of `num / den` for exponent N = `n` − 16, rounded half to even. -/
def linearMantissa (num : Int) (den n : Nat) : Int := roundHalfEven (num * 2 ^ 16) (den * 2 ^ n)

/-- The Linear11 word of `num / den`, or none where no exponent of the format reaches it (R344). -/
def toLinear11 (num : Int) (den : Nat) : Option Nat :=
  ((List.range 32).find? (fun (n : Nat) => decide (-1024 ≤ linearMantissa num den n) && decide (linearMantissa num den n ≤ 1023))).map
    (fun (n : Nat) => ofSigned 5 ((n : Int) - 16) * 2048 + ofSigned 11 (linearMantissa num den n))

/-- A Linear11 word in units of 1 / `unit`, rounded half to even. -/
def fromLinear11 (w unit : Nat) : Int :=
  let e := toSigned 5 (w / 2048)
  roundHalfEven (toSigned 11 w * unit * 2 ^ (e + 16).toNat) (2 ^ 16)

/-! ## The port -/

def Part.setPmb (m : Part) (x : Pmb) : Part := { m with pmb := x }

/-- PAGE in force. -/
def Part.page (m : Part) : Nat := m.get F.PMB_STAT_PAGE 0

/-- The rails that a paged write acts on (R340, R341). -/
def Part.pages (m : Part) : List Nat := if m.page = 0xFF then allRails else [m.page]

/-- The port acknowledges its address: EN is 1, recall has ended, and no read holds SCL (R333, R352). -/
def Part.pmbUp (m : Part) : Bool := m.is F.PMB_CTRL_EN 0 && !m.recalling && m.pmb.wait.isNone

/-- START: the address of BASE and the straps comes into use (R332), and the record of the last transaction is dropped. -/
def Part.pmbStart (m : Part) : Part :=
  m.setPmb { m.pmb with address := 8 * m.get F.PMB_CFG_BASE 0 + m.sys.straps, acked := 0, sent := [] }

/-- The port does not acknowledge its address, which leaves no status (R333). Where a read holds SCL, no transaction can begin. -/
def Part.pmbDown (m : Part) : Part := if m.pmb.wait.isNone then m.setPmb { m.pmb with acked := 0, sent := [] } else m

/-- PMB_STAT as it reads, with the address in use. -/
def Part.pmbStatWord (m : Part) : Word := withBits (m.word R.PMB_STAT.base) 8 7 m.pmb.address

/-- Set a bit of STATUS_CML. -/
def Part.cml (m : Part) (b : Nat) : Part := m.pmbLatch F.PMB_STAT_CML 0 b
def cmlCmd : Nat := 7
def cmlData : Nat := 6
def cmlPec : Nat := 5
def cmlOther : Nat := 1

/-- STATUS_CML bit of each situation of R350, in the order of its table. -/
def violationBit : Nat → Option Nat
  | 0 => some cmlOther
  | 1 => some cmlOther
  | 2 => some cmlData
  | 3 => some cmlData
  | 4 => some cmlCmd
  | 5 => some cmlData
  | _ => none

/-- A protocol violation: its STATUS_CML bit, the count, the flag and the record (R350). -/
def Part.violation (m : Part) (kind : Nat) : Part :=
  let m := match violationBit kind with
    | some b => m.cml b
    | none => m
  let m := (m.bump F.PMB_VCNT_COUNT 0).put F.PMB_STAT_VIOL 0 1
  m.event (codeOf 17 2) (srcInit .pmb) 0 m.pmbStatWord.toNat (m.get F.PMB_VCNT_COUNT 0)

/-- The bytes of a transaction before its data: the address with write, and the code. -/
def Part.pmbHead (m : Part) (code : Nat) : List Byte := [byteOf (2 * m.pmb.address), byteOf code]

/-- `n` bytes were acknowledged. -/
def Part.ackBytes (m : Part) (n : Nat) : Part := m.setPmb { m.pmb with acked := n }

/-- Send the bytes of a read: the command's, then the PEC, then 0xFF (R337). -/
def Part.sendBytes (m : Part) (crc data : List Byte) (count : Nat) : Part :=
  let all := data ++ [crc8 (crc ++ data)]
  m.setPmb { m.pmb with sent := all.take count ++ List.replicate (count - all.length) 0xFF }

/-- A read that returns 0xFF bytes only. -/
def Part.sendFF (m : Part) (count : Nat) : Part := m.setPmb { m.pmb with sent := List.replicate count 0xFF }

/-- WRITE_PROTECT forbids a write of the code (R343). -/
def Part.protects (m : Part) (code : Nat) : Bool :=
  let wp := m.get F.PMB_CTRL_WP 0
  if code = 0x10 || code = 0x03 then false
  else if wp = 0x80 then true
  else if code = 0x00 || code = 0x01 then false
  else if wp = 0x40 then true
  else if code = 0x02 || code = 0x21 then false
  else wp = 0x20

/-- A write of a command with `n` data bytes: the checks of R335, R336, R343 and R350, then its effect. -/
def Part.pmbWrite (m : Part) (code n : Nat) (op : PmbOp) (act : List Byte → Part → Part) : Part :=
  let len := op.data.length
  let m := m.ackBytes (2 + len)
  if len < n then m.violation 2
  else if n < len && some (crc8 (m.pmbHead code ++ op.data.take n)) != op.data[n]? then
    let m := (m.ackBytes (2 + n)).cml cmlPec
    if n + 1 < len then m.violation 3 else m
  else if n + 1 < len then (m.ackBytes (3 + n)).violation 3
  else if len = n && m.is F.PMB_CTRL_PECREQ 0 then m.cml cmlPec
  else if m.protects code then m.cml cmlCmd
  else act (op.data.take n) m

/-- A read of a command whose bytes are `data`, and what its completion clears (R337, R341, R346, R350). -/
def Part.pmbRead (m : Part) (code : Nat) (paged block : Bool) (n : Nat) (op : PmbOp) (data : List Byte) (clear : Part → Part) : Part :=
  let crc := m.pmbHead code ++ [byteOf (2 * m.pmb.address + 1)]
  let m := m.ackBytes (3 + op.data.length)
  if op.data.length ≠ 0 then (m.sendFF op.count).violation 5
  else
    let odd := if block then op.count = 2 || op.count = 3 else n + 1 < op.count
    let m := if odd then m.violation 6 else m
    if paged && m.page = 0xFF then (m.sendBytes crc (List.replicate n 0xFF) op.count).cml cmlCmd
    else
      let m := m.sendBytes crc data op.count
      if op.complete && m.is F.PMB_CTRL_COR 0 then clear m else m

/-- A command of R339 that reads and writes: `n` data bytes, what a read returns and clears, and what a write does. -/
def Part.pmbBoth (m : Part) (code : Nat) (paged : Bool) (n : Nat) (op : PmbOp) (get : Part → Nat) (clear : Part → Part)
    (act : List Byte → Part → Part) : Part :=
  if !m.pmbUp then m.pmbDown
  else
    let m := m.pmbStart
    if op.read then m.pmbRead code paged false n op (lowBytes (get m) n) clear else m.pmbWrite code n op act

/-- A command of R339 that only reads. -/
def Part.pmbGet (m : Part) (code : Nat) (paged block : Bool) (op : PmbOp) (get : Part → Part × List Byte) : Part :=
  if !m.pmbUp then m.pmbDown
  else
    let m := m.pmbStart
    if op.read then
      let x := get m
      x.1.pmbRead code paged block x.2.length op x.2 id
    else (m.ackBytes (2 + op.data.length)).violation 4

/-! ## PAGE, OPERATION, ON_OFF_CONFIG, WRITE_PROTECT (R340 to R343) -/

def Part.writePage (m : Part) (d : List Byte) : Part :=
  let v := fromBytes d
  if v ≤ 0x3E || v = 0xFF then m.put F.PMB_STAT_PAGE 0 v else m.cml cmlData

/-- The values of OPERATION that R342 lists. -/
def operLegal (v : Nat) : Bool := v = 0x80 || v = 0x00 || v = 0x40 || v = 0x98 || v = 0xA8

/-- The margin that a value of OPERATION asks for. -/
def operMargin (v : Nat) : Nat := if v = 0x98 then 1 else if v = 0xA8 then 2 else 0

/-- The on or off request of OPERATION, and whether it was refused or discarded (R342). -/
def Part.operRequest (m : Part) (mem : Mem) (i : Initiator) (r v : Nat) : Bool × Part :=
  let en := v = 0x80 || v = 0x98 || v = 0xA8
  let w : Word := if en then 0x80000000 else 0
  let o := m.setEnable mem r en (v = 0x00)
  match o.1 with
  | .taken => (false, o.2)
  | .refused => (true, o.2.refusedWrite i (R.RAIL_CTRL.addr r) w)
  | .discarded => (true, o.2.discard i (R.RAIL_CTRL.addr r) w)

/-- The source change of margining: a request under R28, which a higher request of the fault manager discards. -/
def Part.marginRequest (m : Part) (i : Initiator) (r v : Nat) : Bool × Part :=
  let new := operMargin v
  let st := m.railState r
  if new = m.marginAsked r then (false, m)
  else if (new = 0 || m.marginAsked r = 0) && (st = railTrack || st = railHold || st = railFollow) && m.outranked r then
    (true, m.discard i (R.PMB_OP.addr r) (BitVec.ofNat 32 v))
  else (false, (m.setPmb { m.pmb with margin := m.pmb.margin.set 0 r new }).changeSource r)

/-- A write of OPERATION on one page (R342). -/
def Part.writeOperation (m : Part) (mem : Mem) (i : Initiator) (r v : Nat) : Part :=
  let m := m.put F.PMB_OP_OPER r v
  let a := if m.get F.PMB_OP_ONOFF r = 0x18 then m.operRequest mem i r v else (false, m)
  let b := a.2.marginRequest i r v
  if a.1 || b.1 then b.2.cml cmlData else b.2

/-- OPERATION as it reads: bits [7:6] follow the rail's state (R342). -/
def Part.operRead (m : Part) (r : Nat) : Nat :=
  m.get F.PMB_OP_OPER r % 64 + (if m.railState r = railArming || m.regulating r then 0x80 else 0)

def Part.writeOnOff (m : Part) (r v : Nat) : Part := m.put F.PMB_OP_ONOFF r v

/-- The values of WRITE_PROTECT (R343). -/
def wpLegal (v : Nat) : Bool := v = 0x80 || v = 0x40 || v = 0x20 || v = 0x00

/-- MARGACT: the margin is in force and the rail regulates (R342). -/
def Part.marginActive (m : Part) (r : Nat) : Bool := m.marginAsked r != 0 && m.regulating r

/-! ## Status (R346) -/

/-- OFF and POWER_GOOD# of a page. -/
def Part.pageOff (m : Part) (r : Nat) : Bool := !(m.regulating r)
def Part.pageNotGood (m : Part) (r : Nat) : Bool := !(m.regulating r) || m.railState r = railSoftstart

/-- The budget limiter attenuates a channel of the rail. -/
def Part.limited (m : Part) (r : Nat) : Bool :=
  (List.range 64).any (fun c => m.railOfChannel c = some r && decide ((m.chan c).gain < 32768))

/-- STATUS_IOUT: the latched bits and bit 2, power limiting. -/
def Part.statusIout (m : Part) (r : Nat) : Nat :=
  let x := m.railFault r
  m.get F.PMB_ST_IOUT r / 8 * 8 + (if x.limit || x.laneLoss || m.limited r then 4 else 0)

/-- A flag as a bit. -/
def flag (b : Bool) (n : Nat) : Nat := if b then 2 ^ n else 0

/-- STATUS_WORD of a page. -/
def Part.statusWord (m : Part) (r : Nat) : Nat :=
  let v := m.get F.PMB_ST_VOUT r
  let i := m.statusIout r
  let t := m.get F.PMB_ST_TEMP r
  let c := m.get F.PMB_STAT_CML 0
  let mfr := m.get F.RAIL_FSTAT_RESP r != 7
  let other := m.get F.CLV_STAT_LEVEL 0 = 5
  flag (v != 0) 15 + flag (i != 0) 14 + flag mfr 12 + flag (m.pageNotGood r) 11 + flag other 9 + flag (m.pmb.busy.get false r) 7 +
    flag (m.pageOff r) 6 + flag (v / 128 % 2 = 1) 5 + flag (i / 128 % 2 = 1) 4 + flag (t != 0) 2 + flag (c != 0) 1 +
    flag (mfr || other || v % 128 != 0 || i % 128 != 0) 0

/-- Clear BUSY of a page. -/
def Part.clearBusy (m : Part) (r : Nat) : Part := m.setPmb { m.pmb with busy := m.pmb.busy.set false r false }

/-- Clear bits of a status field. -/
def Part.clearBits (m : Part) (f : FieldAt) (i bits : Nat) : Part := m.put f i (m.get f i - (m.get f i &&& bits))

/-- CLEAR_FAULTS of a page: its latched bits and, with CFRAIL, its rail's faults (R346). -/
def Part.clearPage (m : Part) (r : Nat) : Part :=
  (m.clearBusy r).setWord (R.PMB_ST.addr r) (m.word (R.PMB_ST.addr r) &&& 0xFF000000)

/-- RAIL_FCLR of a page, a refusal of which sets STATUS_CML.DATA (R342, R346). -/
def Part.clearRail (m : Part) (r : Nat) : Part :=
  let refused := m.deviceOn || m.railState r = railDischarge || m.unacked r
  let m := m.writeRailFclr .pmb r 1
  if refused then m.cml cmlData else m

def Part.clearFaults (m : Part) : Part :=
  let m := m.each m.pages (fun r m => m.clearPage r)
  let m := (m.put F.PMB_STAT_CML 0 0).setPmb { m.pmb with alert := false }
  if m.is F.PMB_CTRL_CFRAIL 0 then m.each m.pages (fun r m => m.clearRail r) else m

/-- A write of a status command: a 1 clears a latched bit, on every page the PAGE in force selects. -/
def Part.statusClear (m : Part) (f : FieldAt) (d : List Byte) : Part := m.each m.pages (fun r m => m.clearBits f r (fromBytes d))

/-- The same for STATUS_BYTE and STATUS_WORD, whose one latched bit is BUSY. -/
def Part.statusClearBusy (m : Part) (d : List Byte) : Part :=
  if fromBytes d / 128 % 2 = 1 then m.each m.pages (fun r m => m.clearBusy r) else m

/-! ## Words and limits (R344, R345) -/

/-- The warning of a voltage command above VOUT_MAX. -/
def Part.warnMax (m : Part) (r v : Nat) : Part := if m.get F.RAIL_CEIL_VALUE r < v then m.pmbLatch F.PMB_ST_VOUT r 3 else m

/-- Write one word to each selected page, by `act`. -/
def Part.onPages (m : Part) (d : List Byte) (act : Nat → Nat → Part → Part) : Part :=
  m.each m.pages (fun r m => act r (fromBytes d) m)

/-- The Linear11 word of a measured value; where no exponent of the format reaches it, the spec gives no word and it is free
(log entry 57). -/
def Part.linear11 (m : Part) (num : Int) (den : Nat) : Part × List Byte :=
  match toLinear11 num den with
  | some w => (m, lowBytes w 2)
  | none => let x := m.freeWord; (x.2, lowBytes x.1.toNat 2)

/-- A rational value as a Linear11 word. -/
def Part.linearRat (m : Part) (x : Rat) : Part × List Byte := m.linear11 x.num x.den

/-- The page a paged read answers for; a page of 0xFF is refused before it matters. -/
def Part.readPage (m : Part) : Nat := min m.page 62

/-- One limit of R345: above it, its bit is latched and the event is written. -/
def Part.limitCheck (m : Part) (r : Nat) (above : Bool) (f : FieldAt) : Part :=
  if above then
    let m := m.pmbLatch f r 7
    m.event (codeOf 17 2) (srcRail r) 0 m.pmbStatWord.toNat
  else m

/-- PMBUS_LIMIT_CHECK: the comparisons of one rail (R345). -/
def Part.limitChecks (m : Part) (r : Nat) : Part :=
  if m.railState r = railOff then m
  else
    let m := m.limitCheck r (decide (m.get F.PMB_OV_OV r < m.vrail r)) F.PMB_ST_VOUT
    let m := m.limitCheck r (decide ((m.get F.PMB_OC_OC r : Int) < m.railImeas r)) F.PMB_ST_IOUT
    m.limitCheck r (decide (m.getS F.PMB_OT_OT r < m.railTemp r)) F.PMB_ST_TEMP

/-! ## The mailbox (R351 to R353) -/

/-- Fill the data words of a mailbox from bytes. -/
def Part.mailData (m : Part) (reg : RegAt) (d : List Byte) : Part :=
  m.each (List.range 9) (fun k m => m.setWord (reg.addr k) (BitVec.ofNat 32 (fromBytes ((d.drop (4 * k)).take 4))))

/-- The last byte is a correct PEC of the transaction up to it (R351). -/
def pecCorrect (head d : List Byte) : Bool := d.getLast? = some (crc8 (head ++ d.dropLast))

/-- Place a manufacturer command in the inbox, FULL set (R351). -/
def Part.deposit (m : Part) (code : Nat) (read : Bool) (d : List Byte) : Part :=
  let d := d.take 34
  let m := m.mailData R.PMB_MBIND d
  m.setWord R.PMB_MBIN.base (BitVec.ofNat 32 (2 ^ 31 + flag read 30 + flag (pecCorrect (m.pmbHead code) d) 29 + d.length * 2 ^ 16 +
    m.page * 256 + code))

/-- The inbox is full: the code is not acknowledged and BUSY is latched (R351). -/
def Part.mailBusy (m : Part) : Part :=
  (m.ackBytes 1).each m.pages (fun r m =>
    if m.pmb.busy.get false r then m
    else m.setPmb { m.pmb with busy := m.pmb.busy.set false r true, alert := m.pmb.alert || m.is F.PMB_CTRL_ALEN 0 })

/-- A code of 0xD0 to 0xEF arrives (R343, R351, R352). -/
def Part.mailArrives (m : Part) (code : Nat) (op : PmbOp) : Part :=
  if !m.pmbUp then m.pmbDown
  else
    let m := m.pmbStart
    if m.is F.PMB_MBIN_FULL 0 then m.mailBusy
    else if !op.read && m.protects code then (m.ackBytes (2 + op.data.length)).cml cmlCmd
    else
      let m := (m.ackBytes (2 + min 34 op.data.length + op.read.toNat)).deposit code op.read op.data
      if op.read then
        m.setPmb { m.pmb with wait := some { crc := m.pmbHead code ++ op.data.take 34 ++ [byteOf (2 * m.pmb.address + 1)], count := op.count } }
      else m

/-- The bytes of the outbox. -/
def Part.outbox (m : Part) : List Byte :=
  ((List.range 9).flatMap (fun k => lowBytes (m.word (R.PMB_MBOUTD.addr k)).toNat 4)).take (m.get F.PMB_MBOUT_LEN 0)

/-- A write of PMB_MBOUT: with READY and a read that waits, the answer is sent and READY clears at the end of that read; an
answer no read waits for is discarded (R352). -/
def Part.writeMbout (m : Part) (i : Initiator) (v : Word) : Part :=
  if 34 < fieldOf v F.PMB_MBOUT_LEN then m.refuse F.PMB_STAT_REFUSED i R.PMB_MBOUT.base v
  else
    let m := m.put F.PMB_MBOUT_LEN 0 (fieldOf v F.PMB_MBOUT_LEN)
    if fieldOf v F.PMB_MBOUT_READY = 0 then m
    else match m.pmb.wait with
      | none => m
      | some w => (m.setPmb { m.pmb with wait := none }).sendBytes w.crc m.outbox w.count

/-- No answer within MBT ms (R352). -/
def Part.mailboxTimeout (m : Part) : Part :=
  match m.pmb.wait with
  | none => m
  | some w => (((m.setPmb { m.pmb with wait := none }).sendFF w.count).put F.PMB_STAT_MBLATE 0 1).cml cmlOther

/-- A command the service program answers with 3 bytes (R353): through the inbox, released after it, under the checks of a
hardware-decoded command. A read's answer passes through the outbox. -/
def Part.serviceCommand (m : Part) (code : Nat) (writes : Bool) (op : PmbOp) (get : Nat → Part → Nat) (act : Nat → Nat → Part → Part) : Part :=
  if !m.pmbUp then m.pmbDown
  else
    let m := m.pmbStart
    if m.is F.PMB_MBIN_FULL 0 then m.mailBusy
    else
      let m := (m.deposit code op.read op.data).put F.PMB_MBIN_FULL 0 0
      if op.read then
        let d := byteOf 3 :: lowBytes (get m.readPage m) 3
        let m := (m.put F.PMB_MBOUT_LEN 0 4).mailData R.PMB_MBOUTD d
        m.pmbRead code true true 4 op d id
      else if !writes then (m.ackBytes (2 + op.data.length)).violation 4
      else m.pmbWrite code 4 op (fun d m =>
        if d.head? = some 3 then m.each m.pages (fun r m => act r (fromBytes (d.drop 1)) m) else m.cml cmlData)

/-! ## Register writes (R358) -/

/-- BASE values whose block of eight addresses holds a reserved SMBus address (R332). -/
def baseRefused (b : Nat) : Bool := b = 0 || b = 1 || b = 5 || b = 6 || b = 12 || b = 15

/-- PMB_OP: ON_OFF_CONFIG is stored and OPERATION acts as a PMBus write (R342). -/
def Part.writePmbOp (m : Part) (mem : Mem) (i : Initiator) (r : Nat) (v : Word) : Part :=
  let on := fieldOf v F.PMB_OP_ONOFF
  let op := fieldOf v F.PMB_OP_OPER
  if on ≠ 0x18 && on ≠ 0 then m.refuse F.PMB_STAT_REFUSED i (R.PMB_OP.addr r) v
  else
    let m := m.writeOnOff r on
    if operLegal op then m.writeOperation mem i r op else m.cml cmlData

/-- A fabric write to a register of the PMB block. -/
def Part.writePMB (m : Part) (mem : Mem) (i : Initiator) (a : Nat) (v : Word) : Part :=
  let no := m.refuse F.PMB_STAT_REFUSED i a v
  if a = R.PMB_CTRL.base then if wpLegal (fieldOf v F.PMB_CTRL_WP) then m.plainWrite a v else no
  else if a = R.PMB_CFG.base then
    let t := fieldOf v F.PMB_CFG_MBT
    if t < 1 || 25 < t || fieldOf v F.PMB_CFG_SPEED = 3 || baseRefused (fieldOf v F.PMB_CFG_BASE) then no else m.plainWrite a v
  else if a = R.PMB_MBIN.base then if fieldOf v F.PMB_MBIN_FULL = 0 then m.put F.PMB_MBIN_FULL 0 0 else m
  else if a = R.PMB_MBOUT.base then m.writeMbout i v
  else if R.PMB_OP.covers a then m.writePmbOp mem i (R.PMB_OP.inst a) v
  else m.plainWrite a v

/-! ## The rows -/

def execPage (op : PmbOp) (s : State) : Out :=
  .next (s.lift (fun m => m.pmbBoth 0x00 false 1 op Part.page id (fun d m => m.writePage d)))

def execOperation (op : PmbOp) (s : State) : Out :=
  .next (s.lift (fun m => m.pmbBoth 0x01 true 1 op (fun m => m.operRead m.readPage) id (fun d m =>
    if operLegal (fromBytes d) then m.onPages d (fun r v m => m.writeOperation s.mem .pmb r v) else m.cml cmlData)))

def execOnOffConfig (op : PmbOp) (s : State) : Out :=
  .next (s.lift (fun m => m.pmbBoth 0x02 true 1 op (fun m => m.get F.PMB_OP_ONOFF m.readPage) id (fun d m =>
    if fromBytes d = 0x18 || fromBytes d = 0 then m.onPages d (fun r v m => m.writeOnOff r v) else m.cml cmlData)))

/-- CLEAR_FAULTS: a read of this send-byte command is a violation (R350). -/
def execClearFaults (op : PmbOp) (s : State) : Out :=
  .next (s.lift (fun m =>
    if !m.pmbUp then m.pmbDown
    else
      let m := m.pmbStart
      if op.read then ((m.ackBytes 3).sendFF op.count).violation 4 else m.pmbWrite 0x03 0 op (fun _ m => m.clearFaults)))

def execWriteProtect (op : PmbOp) (s : State) : Out :=
  .next (s.lift (fun m => m.pmbBoth 0x10 false 1 op (fun m => m.get F.PMB_CTRL_WP 0) id (fun d m =>
    if wpLegal (fromBytes d) then m.put F.PMB_CTRL_WP 0 (fromBytes d) else m.cml cmlData)))

def execCapability (op : PmbOp) (s : State) : Out := .next (s.lift (fun m => m.pmbGet 0x19 false false op (fun m => (m, [0xD0]))))
def execVoutMode (op : PmbOp) (s : State) : Out := .next (s.lift (fun m => m.pmbGet 0x20 false false op (fun m => (m, [0x14]))))

def execVoutCommand (op : PmbOp) (s : State) : Out :=
  .next (s.lift (fun m => m.pmbBoth 0x21 true 2 op (fun m => toLinear16 (m.get F.RAIL_VSET_VALUE m.readPage)) id (fun d m =>
    m.onPages d (fun r v m => (m.writeRAIL s.mem .pmb (R.RAIL_VSET.addr r) (BitVec.ofNat 32 v)).warnMax r v))))

def execVoutMax (op : PmbOp) (s : State) : Out :=
  .next (s.lift (fun m => m.pmbBoth 0x24 true 2 op (fun m => toLinear16 (m.get F.RAIL_CEIL_VALUE m.readPage)) id (fun d m =>
    m.onPages d (fun r v m => m.writeRAIL s.mem .pmb (R.RAIL_CEIL.addr r) (BitVec.ofNat 32 v)))))

def execVoutMarginHigh (op : PmbOp) (s : State) : Out :=
  .next (s.lift (fun m => m.pmbBoth 0x25 true 2 op (fun m => m.get F.PMB_MARG_HIGH m.readPage) id (fun d m =>
    m.onPages d (fun r v m => (m.put F.PMB_MARG_HIGH r v).warnMax r v))))

def execVoutMarginLow (op : PmbOp) (s : State) : Out :=
  .next (s.lift (fun m => m.pmbBoth 0x26 true 2 op (fun m => m.get F.PMB_MARG_LOW m.readPage) id (fun d m =>
    m.onPages d (fun r v m => (m.put F.PMB_MARG_LOW r v).warnMax r v))))

def execVoutOvFaultLimit (op : PmbOp) (s : State) : Out :=
  .next (s.lift (fun m => m.pmbBoth 0x40 true 2 op (fun m => toLinear16 (m.get F.PMB_OV_OV m.readPage)) id (fun d m =>
    m.onPages d (fun r v m => m.put F.PMB_OV_OV r v))))

/-- A Linear11 limit as it reads; its fields lie inside the format's range. -/
def linearField (num : Int) (den : Nat) : Nat := (toLinear11 num den).getD 0

def execIoutOcFaultLimit (op : PmbOp) (s : State) : Out :=
  .next (s.lift (fun m => m.pmbBoth 0x46 true 2 op (fun m => linearField (m.get F.PMB_OC_OC m.readPage) 256) id (fun d m =>
    if toSigned 11 (fromBytes d) < 0 then m.cml cmlData
    else m.onPages d (fun r v m => m.put F.PMB_OC_OC r (min 0xFFFFFF (fromLinear11 v 256).toNat)))))

def execOtFaultLimit (op : PmbOp) (s : State) : Out :=
  .next (s.lift (fun m => m.pmbBoth 0x4F true 2 op (fun m => linearField (m.getS F.PMB_OT_OT m.readPage) 64) id (fun d m =>
    m.onPages d (fun r v m => m.put F.PMB_OT_OT r (ofSigned 16 (satS 16 (fromLinear11 v 64)))))))

def execStatusByte (op : PmbOp) (s : State) : Out :=
  .next (s.lift (fun m => m.pmbBoth 0x78 true 1 op (fun m => m.statusWord m.readPage) (fun m => m.clearBusy m.readPage)
    (fun d m => m.statusClearBusy d)))

def execStatusWord (op : PmbOp) (s : State) : Out :=
  .next (s.lift (fun m => m.pmbBoth 0x79 true 2 op (fun m => m.statusWord m.readPage) (fun m => m.clearBusy m.readPage)
    (fun d m => m.statusClearBusy d)))

def execStatusVout (op : PmbOp) (s : State) : Out :=
  .next (s.lift (fun m => m.pmbBoth 0x7A true 1 op (fun m => m.get F.PMB_ST_VOUT m.readPage) (fun m => m.put F.PMB_ST_VOUT m.readPage 0)
    (fun d m => m.statusClear F.PMB_ST_VOUT d)))

def execStatusIout (op : PmbOp) (s : State) : Out :=
  .next (s.lift (fun m => m.pmbBoth 0x7B true 1 op (fun m => m.statusIout m.readPage) (fun m => m.put F.PMB_ST_IOUT m.readPage 0)
    (fun d m => m.statusClear F.PMB_ST_IOUT d)))

def execStatusTemperature (op : PmbOp) (s : State) : Out :=
  .next (s.lift (fun m => m.pmbBoth 0x7D true 1 op (fun m => m.get F.PMB_ST_TEMP m.readPage) (fun m => m.put F.PMB_ST_TEMP m.readPage 0)
    (fun d m => m.statusClear F.PMB_ST_TEMP d)))

def execStatusCml (op : PmbOp) (s : State) : Out :=
  .next (s.lift (fun m => m.pmbBoth 0x7E false 1 op (fun m => m.get F.PMB_STAT_CML 0) (fun m => m.put F.PMB_STAT_CML 0 0)
    (fun d m => m.clearBits F.PMB_STAT_CML 0 (fromBytes d))))

def execReadVin (op : PmbOp) (s : State) : Out := .next (s.lift (fun m => m.pmbGet 0x88 false false op (fun m => m.linear11 m.vbus 4096)))
def execReadVout (op : PmbOp) (s : State) : Out :=
  .next (s.lift (fun m => m.pmbGet 0x8B true false op (fun m => (m, lowBytes (toLinear16 (m.vrail m.readPage)) 2))))
def execReadIout (op : PmbOp) (s : State) : Out :=
  .next (s.lift (fun m => m.pmbGet 0x8C true false op (fun m => m.linear11 (m.railImeas m.readPage) 256)))
def execReadTemperature1 (op : PmbOp) (s : State) : Out :=
  .next (s.lift (fun m => m.pmbGet 0x8D true false op (fun m => m.linear11 (m.railTemp m.readPage) 64)))
def execReadPout (op : PmbOp) (s : State) : Out :=
  .next (s.lift (fun m => m.pmbGet 0x96 true false op (fun m => m.linearRat (m.pMeasRail m.readPage))))
def execPmbusRevision (op : PmbOp) (s : State) : Out := .next (s.lift (fun m => m.pmbGet 0x98 false false op (fun m => (m, [0x44]))))

/-- A block: its byte count, then its bytes. -/
def blockOfBytes (l : List Byte) : List Byte := byteOf l.length :: l

/-- "ELVALIS" and "KL-9063" in ASCII. -/
def mfrIdBytes : List Byte := [0x45, 0x4C, 0x56, 0x41, 0x4C, 0x49, 0x53]
def mfrModelBytes : List Byte := [0x4B, 0x4C, 0x2D, 0x39, 0x30, 0x36, 0x33]

def execMfrId (op : PmbOp) (s : State) : Out :=
  .next (s.lift (fun m => m.pmbGet 0x99 false true op (fun m => (m, blockOfBytes mfrIdBytes))))
def execMfrModel (op : PmbOp) (s : State) : Out :=
  .next (s.lift (fun m => m.pmbGet 0x9A false true op (fun m => (m, blockOfBytes mfrModelBytes))))

def execMfrVoutCommandFull (op : PmbOp) (s : State) : Out :=
  .next (s.lift (fun m => m.serviceCommand 0xD0 true op (fun r m => m.get F.RAIL_VSET_VALUE r) (fun r v m => m.put F.RAIL_VSET_VALUE r v)))
def execMfrReadVoutFull (op : PmbOp) (s : State) : Out :=
  .next (s.lift (fun m => m.serviceCommand 0xD1 false op (fun r m => m.vrail r) (fun _ _ m => m)))
def execMfrVoutMaxFull (op : PmbOp) (s : State) : Out :=
  .next (s.lift (fun m => m.serviceCommand 0xD2 true op (fun r m => m.get F.RAIL_CEIL_VALUE r) (fun r v m => m.put F.RAIL_CEIL_VALUE r v)))

def execProtocolViolation (kind : Fin 7) (s : State) : Out :=
  .next (s.lift (fun m => if m.is F.PMB_CTRL_EN 0 && !m.recalling then m.violation kind else m))

def execMailboxAnswer (i : Initiator) (v : Word) (s : State) : Out := .next (s.lift (fun m => m.writeMbout i (v ||| 0x80000000)))
def execMailboxTimeout (s : State) : Out := .next (s.lift (fun m => m.mailboxTimeout))

/-- ALERT_RESPONSE (R347). -/
def execAlertResponse (won : Bool) (s : State) : Out :=
  .next (s.lift (fun m =>
    if !m.pmbUp || !m.pmb.alert then m.pmbDown
    else
      let m := m.pmbStart
      if won then m.setPmb { m.pmb with acked := 1, sent := [byteOf (2 * m.pmb.address)], alert := false }
      else m.ackBytes 1))

def execPmbusLimitCheck (r : Fin 63) (s : State) : Out := .next (s.lift (fun m => m.limitChecks r))

/-- SCL_TIMEOUT: the transaction is abandoned (R348). -/
def execSclTimeout (s : State) : Out :=
  .next (s.lift (fun m =>
    if m.is F.PMB_CTRL_EN 0 then ((m.setPmb { m.pmb with wait := none }).put F.PMB_STAT_SCLTO 0 1).cml cmlOther else m))

/-- SDA_TIMEOUT: flag and record; the port waits for a START (R348). -/
def execSdaTimeout (s : State) : Out :=
  .next (s.lift (fun m =>
    if m.is F.PMB_CTRL_EN 0 then
      let m := (m.setPmb { m.pmb with wait := none }).put F.PMB_STAT_SDALTO 0 1
      m.event (codeOf 17 2) (srcInit .pmb) 0 m.pmbStatWord.toNat
    else m))

end Sys2Proof.Machine
end

