-- ==== Sys2Proof/Machine/Twowire.lean ====
section
/-! DEFINITION. The two-wire controller port: transactions, the bus clear and the alert list (R354 to R358). -/
namespace Sys2Proof.Machine

def Part.setPmc (m : Part) (x : Pmc) : Part := { m with pmc := x }

/-- Every transaction ends with STOP, DONE set, and GO and BUSY clear (R354). -/
def Part.pmcEnds (m : Part) : Part :=
  (((m.setPmc { m.pmc with tries := 0 }).put F.PMC_STAT_DONE 0 1).put F.PMC_STAT_BUSY 0 0).put F.PMC_CMD_GO 0 0

/-- The bytes that the port sends in a transaction: the write phase, with its PEC where PEC is 1, and the address with read. A
transaction that writes nothing and reads begins with the latter (R354). -/
def Part.pmcBytes (m : Part) (cmd : Word) : List Byte :=
  let addr := fieldOf cmd F.PMC_CMD_ADDR
  let wlen := fieldOf cmd F.PMC_CMD_WLEN
  let rlen := fieldOf cmd F.PMC_CMD_RLEN
  let en := fieldOf cmd F.PMC_CMD_CMDEN = 1
  let buf := ((List.range 8).flatMap (fun k => lowBytes (m.word (R.PMC_BUF.addr k)).toNat 4)).take wlen
  let head := byteOf (2 * addr) :: ((if en then [byteOf (fieldOf cmd F.PMC_CMD_CMD)] else []) ++ buf)
  let write := if wlen = 0 && !en && rlen != 0 then []
    else if fieldOf cmd F.PMC_CMD_PEC = 1 then head ++ [crc8 head] else head
  if rlen = 0 then write else write ++ [byteOf (2 * addr + 1)]

/-- Put received bytes into PMC_BUF from byte 0. -/
def Part.pmcStore (m : Part) (d : List Byte) : Part :=
  (d.zipIdx).foldl (fun m x => m.put ⟨⟨R.PMC_BUF.base + 4 * (x.2 / 4), 4, 1, 1⟩, 8 * (x.2 % 4), 8⟩ 0 x.1.toNat) m

/-- The end of a transaction, with the data read and the PEC after it, which covers every byte of the transaction before it (R336, R354);
a NACK; or lost arbitration, after which it is retried up to RETRY times (R355). -/
def Part.pmcEnd (m : Part) (e : PmcEnd) : Part :=
  if !m.is F.PMC_STAT_BUSY 0 || m.pmc.stuck then m
  else match e with
  | .done d pec =>
    let n := fieldOf m.pmc.cmd F.PMC_CMD_RLEN
    let bad := decide (fieldOf m.pmc.cmd F.PMC_CMD_PEC = 1) && n != 0 && crc8 (m.pmc.sent ++ d.take n) != pec
    let m := m.pmcStore (d.take n)
    let m := if bad then m.put F.PMC_STAT_PECERR 0 1 else m
    m.pmcEnds
  | .nack b => ((m.put F.PMC_STAT_NACK 0 1).put F.PMC_STAT_NACKAT 0 b).pmcEnds
  | .arbLost =>
    if m.pmc.tries < m.get F.PMC_CFG_RETRY 0 then m.setPmc { m.pmc with tries := m.pmc.tries + 1 }
    else (m.put F.PMC_STAT_ARBLOST 0 1).pmcEnds

/-- The outcome of one bus clear: SDA reads high after it, or the bus is stuck (R356). -/
def Part.busClear (m : Part) (freed : Bool) : Part :=
  if freed then m.setPmc { m.pmc with stuck := false }
  else
    let m := (m.setPmc { m.pmc with stuck := true }).put F.PMC_STAT_BUS_STUCK 0 1
    m.event (codeOf 18 2) 0 0 (m.word R.PMC_STAT.base).toNat

/-- A write of PMC_CMD (R354). `clear` is none when the bus is idle as it should be; otherwise SDA was low and the bus is
cleared first, with that outcome. A transaction requested while the bus is stuck waits and reports it (R356). GO while the
port is disabled starts nothing (log entry 59). -/
def Part.writePmcCmd (m : Part) (i : Initiator) (v : Word) (clear : Option Bool) : Part :=
  let go := fieldOf v F.PMC_CMD_GO = 1
  if 32 < fieldOf v F.PMC_CMD_WLEN || 32 < fieldOf v F.PMC_CMD_RLEN || (go && m.is F.PMC_STAT_BUSY 0) then
    m.refuse F.PMC_STAT_REFUSED i R.PMC_CMD.base v
  else
    let busy := m.get F.PMC_CMD_GO 0
    let m := (m.plainWrite R.PMC_CMD.base v).put F.PMC_CMD_GO 0 busy
    if !go || !m.is F.PMC_CFG_EN 0 then m
    else
      let m := (m.put F.PMC_CMD_GO 0 1).put F.PMC_STAT_BUSY 0 1
      let m := m.setPmc { m.pmc with cmd := v, sent := m.pmcBytes v, tries := 0 }
      if m.pmc.stuck then m.put F.PMC_STAT_BUS_STUCK 0 1
      else match clear with
        | none => m
        | some freed => m.busClear freed

/-- A write of PMC_CFG; writing 1 to EN clears the bus, with the given outcome (R356). -/
def Part.writePmcCfg (m : Part) (i : Initiator) (v : Word) (freed : Bool) : Part :=
  if fieldOf v F.PMC_CFG_SPEED = 3 then m.refuse F.PMC_STAT_REFUSED i R.PMC_CFG.base v
  else
    let m := m.plainWrite R.PMC_CFG.base v
    if fieldOf v F.PMC_CFG_EN = 1 then m.busClear freed else m

/-- Place of an address in PMC_APRI0–1, earliest first; 8 where it is not listed. -/
def Part.alertPlace (m : Part) (a : Nat) : Nat :=
  ((List.range 8).find? (fun k => a ≠ 0 && bitsOf (m.word (R.PMC_APRI.addr (k / 4))) (8 * (k % 4)) 7 = a)).getD 8

/-- The order of the alert list (R357). -/
def Part.alertBefore (m : Part) (a b : Nat) : Bool :=
  if m.alertPlace a = m.alertPlace b then a < b else m.alertPlace a < m.alertPlace b

/-- Enter one address: not twice, and not beyond 8 entries. -/
def Part.enterAlert (m : Part) (a : Nat) : Part :=
  let l := m.pmc.alist
  if l.contains a || 8 ≤ l.length then m
  else m.setPmc { m.pmc with alist := l.filter (fun b => m.alertBefore b a) ++ [a] ++ l.filter (fun b => !m.alertBefore b a) }

/-- PMC_ALIST as a read returns it, and the list after it. -/
def Part.readAlist (m : Part) : Word × Part :=
  match m.pmc.alist with
  | [] => (0, m)
  | a :: t => (BitVec.ofNat 32 (2 ^ 31 + t.length * 2 ^ 16 + a), m.setPmc { m.pmc with alist := t })

/-- A fabric write to a register of the PMC block. What a store that has no row of its own meets on the bus is a free bit (log
entry 59). -/
def Part.writePMC (m : Part) (i : Initiator) (a : Nat) (v : Word) : Part :=
  if a = R.PMC_CFG.base then
    let x := m.freeBit
    if fieldOf v F.PMC_CFG_EN = 1 then x.2.writePmcCfg i v x.1 else m.writePmcCfg i v true
  else if a = R.PMC_CMD.base then
    if fieldOf v F.PMC_CMD_GO = 0 then m.writePmcCmd i v none
    else
      let x := m.freeBit
      let y := x.2.freeBit
      y.2.writePmcCmd i v (if x.1 then none else some y.1)
  else if R.PMC_BUF.covers a && m.is F.PMC_STAT_BUSY 0 then m.refuse F.PMC_STAT_REFUSED i a v
  else m.plainWrite a v

/-! ## The rows -/

def execPmcTransaction (i : Initiator) (v : Word) (clear : Option Bool) (s : State) : Out :=
  .next (s.lift (fun m => m.writePmcCmd i (v ||| 0x80000000) clear))
def execPmcTransactionEnd (r : PmcEnd) (s : State) : Out := .next (s.lift (fun m => m.pmcEnd r))

/-- PMC_SCL_TIMEOUT (R355). -/
def execPmcSclTimeout (s : State) : Out :=
  .next (s.lift (fun m => if m.is F.PMC_STAT_BUSY 0 && !m.pmc.stuck then (m.put F.PMC_STAT_TOUT 0 1).pmcEnds else m))

def execPmcBusClear (i : Initiator) (v : Word) (freed : Bool) (s : State) : Out :=
  .next (s.lift (fun m => m.writePmcCfg i (v ||| 1) freed))

/-- BUS_CLEAR_RETRY: the clear is repeated while the bus is stuck (R356). -/
def execBusClearRetry (freed : Bool) (s : State) : Out := .next (s.lift (fun m => if m.pmc.stuck then m.busClear freed else m))

/-- PMC_ALERT_SERVICE: the addresses that answered, at most 8 reads (R357). -/
def execPmcAlertService (addrs : List (BitVec 7)) (s : State) : Out :=
  .next (s.lift (fun m =>
    if m.is F.PMC_CFG_EN 0 && m.is F.PMC_CFG_ARAEN 0 && !m.is F.PMC_STAT_BUSY 0 && !m.pmc.stuck then
      (addrs.take 8).foldl (fun m a => m.enterAlert a.toNat) m
    else m))

def execAlistRead (_i : Initiator) (s : State) : Out :=
  .next (s.lift (fun m =>
    let x := m.readAlist
    { x.2 with bus := { data := BitVec.ofNat 64 x.1.toNat, error := false } }))

end Sys2Proof.Machine
end

