-- ==== Sys2Proof/Machine/LoadPorts.lean ====
section
/-! DEFINITION. The load command ports: bursts, checks, commands, responses, alerts (R371 to R382). -/
namespace Sys2Proof.Machine

def Part.lcpPort (m : Part) (n : Nat) : LcpPort := m.lcp.get {} n
def Part.setLcpPort (m : Part) (n : Nat) (x : LcpPort) : Part := { m with lcp := m.lcp.set {} n x }

/-- The CRC-8 of bits [47:8] of a frame (R372). -/
def frameCrc (head : Nat) : Nat := (crc8 ((List.range 5).map (fun k => byteOf (head / 256 ^ (4 - k))))).toNat

/-- A response frame (R373). -/
def responseFrame (rail code data : Nat) (al : Bool) : BitVec 48 :=
  let head := 10 * 2 ^ 36 + rail * 2 ^ 30 + flag al 29 + code * 2 ^ 24 + data
  BitVec.ofNat 48 (head * 256 + frameCrc head)

/-- A burst sends the response that waited (R373). -/
def Part.sendResponse (m : Part) (n : Nat) : Part :=
  let x := m.lcpPort n
  let a := x.answer.getD (1, 0, 0)
  m.setLcpPort n { x with sent := responseFrame a.2.1 a.1 a.2.2 (m.get F.LCP_STAT_ALAT n != 0) }

/-- The decision on a command: what the next burst answers, and CODE in LASTCODE. -/
def Part.answer (m : Part) (n code rail data : Nat) : Part :=
  (m.setLcpPort n { m.lcpPort n with answer := some (code, rail, data) }).put F.LCP_STAT_LASTCODE n code

/-- The counter of each violation code. -/
def violationCounter : Nat → Option FieldAt
  | 2 => some F.LCP_VCNT1_BADCRC
  | 3 => some F.LCP_VCNT1_BADSYNC
  | 4 => some F.LCP_VCNT2_RSVOP
  | 5 => some F.LCP_VCNT2_SHORT
  | 6 => some F.LCP_VCNT3_RAILRANGE
  | 7 => some F.LCP_VCNT3_LONG
  | _ => none

/-- A violation: counter, flag, record of bits [47:16], and answer (R374). The record's SOURCE is of kind 7 with the port's number, as a
port is none of the other kinds (R321; DESIGN CHOICE, log entry 125). -/
def Part.lcpViolation (m : Part) (n code rail high : Nat) : Part :=
  let m := match violationCounter code with
    | some f => m.bump f n
    | none => m
  let m := (m.put F.LCP_STAT_VIOL n 1).event (codeOf 19 4) (srcOf 7 n) code high
  m.answer n code rail 0

/-! ## Checks 5 to 7 (R374 to R376) -/

/-- RAIL 63 is open to these opcodes (R375). -/
def allRailOp (op : Nat) : Bool := op ≤ 7 || op = 0x18

/-- The rail is permitted (R375). -/
def Part.railPermitted (m : Part) (n rail op : Nat) : Bool :=
  if rail = 63 then allRailOp op && allRails.all (fun r => m.portPermits n r) else m.portPermits n rail

/-- The rails a command acts on. -/
def lcpRails (rail : Nat) : List Nat := if rail = 63 then allRails else [rail]

/-- Channel of SET_GAIN and MUTE. -/
def argChannel (arg : Nat) : Nat := arg / 2 ^ 16 % 64

/-- The argument is in order: unused bits 0, and the channel mapped to the rail named (R376). -/
def Part.argOk (m : Part) (rail op arg : Nat) : Bool :=
  let mine := rail ≠ 63 && m.railOfChannel (argChannel arg) = some rail
  match op with
  | 0x01 => arg < 2 ^ 20
  | 0x02 => arg < 2 ^ 20
  | 0x03 => arg < 2 ^ 20
  | 0x04 => arg < 2 ^ 22 && mine
  | 0x05 => arg < 2 ^ 22 && arg % 2 ^ 16 < 2 && mine
  | 0x06 => arg < 2 ^ 20
  | 0x10 => arg < 4
  | 0x18 => arg < 16
  | _ => arg = 0

/-- The command would change the rail. A RELEASE without a force changes nothing (R378). -/
def Part.wouldChange (m : Part) (op r : Nat) : Bool := (1 ≤ op && op ≤ 6) || (op = 7 && m.holdForced r)

/-- Check 7: a change of a rail in FAULTED or DISCHARGE, or of any under a DEVICE response. -/
def Part.stateBars (m : Part) (rail op : Nat) : Bool :=
  (lcpRails rail).any (fun r =>
    m.wouldChange op r && (m.railState r = railFaulted || m.railState r = railDischarge || m.deviceOn))

/-! ## Effects (R376 to R379) -/

/-- Put the rail under a HOLD force or take it out. -/
def Part.putForce (m : Part) (r : Nat) (v : Bool) : Part :=
  if r < 32 then m.putBit F.LCP_FHOLD0_RAILS 0 r v else m.putBit F.LCP_FHOLD1_RAILS 0 (r - 32) v

/-- Check 8: the source change that a HOLD or RELEASE asks for is discarded for a higher request (R28). -/
def Part.forceBarred (m : Part) (r : Nat) (v : Bool) : Bool :=
  let m' := m.putForce r v
  let st := m.railState r
  (st = railTrack || st = railHold || st = railFollow) && st != railTrack + m'.sourceOf r && m.outranked r

/-- HOLD and RELEASE on one rail (R378). -/
def Part.force (m : Part) (r : Nat) (v : Bool) : Part := (m.putForce r v).changeSource r

/-- Check 8 of R374. -/
def Part.lcpRefused (m : Part) (rail op : Nat) : Bool :=
  match op with
  | 0x06 => (lcpRails rail).any (fun r => m.forceBarred r true)
  | 0x07 => (lcpRails rail).any (fun r => m.holdForced r && m.forceBarred r false)
  | _ => false

/-- DATA of READ_RAIL. -/
def Part.readRail (m : Part) (mem : Mem) (r sel : Nat) : Nat :=
  match sel with
  | 0 => m.vrail r
  | 1 => (m.bslRail r).vset
  | 2 => ofSigned 24 (m.irefNow mem r)
  | _ => (m.knotWord r false).toNat % 2 ^ 20

/-- DATA of READ_STATUS (R379). -/
def Part.readStatus (m : Part) (n r : Nat) : Nat :=
  let budget := m.stepInForce 5
  m.railState r + m.get F.RAIL_FSTAT_RESP r * 2 ^ 4 + m.get F.RAIL_FSTAT_LATCHED r * 2 ^ 7 + flag budget 8 +
    flag (m.holdForced r) 9 + flag (m.limited r) 10 + bitsOf (m.rstatWord r) 8 1 * 2 ^ 11 +
    m.get F.LCP_STAT_ALAT n * 2 ^ 12 + m.get F.SAF_RSTAT_EPOCH r * 2 ^ 16

/-- A command that passed every check: its effect. -/
def Part.lcpEffect (m : Part) (n rail op arg : Nat) : Part :=
  let c := argChannel arg
  match op with
  | 0x01 => m.each (lcpRails rail) (fun r m => m.put F.RAIL_FLOOR_VALUE r arg)
  | 0x02 => m.each (lcpRails rail) (fun r m => m.put F.RAIL_CEIL_VALUE r arg)
  | 0x03 => m.each (lcpRails rail) (fun r m => m.writeHeadroom (R.SAF_MARGIN.addr r) r F.SAF_MARGIN_VALUE (BitVec.ofNat 32 arg))
  | 0x04 => m.writeGain (R.SAF_LGAIN.addr c) c F.SAF_LGAIN_LGAIN (BitVec.ofNat 32 (arg % 2 ^ 16))
  | 0x05 => m.writeChmap .pmb c (withBits (m.word (R.SAF_CHMAP.addr c)) F.SAF_CHMAP_MUTE.lo 1 (arg % 2))
  | 0x06 => m.each (lcpRails rail) (fun r m => (m.put F.RAIL_VSET_VALUE r arg).force r true)
  | 0x07 => m.each (lcpRails rail) (fun r m => if m.holdForced r then m.force r false else m)
  | 0x18 => m.clearBits F.LCP_STAT_ALAT n arg
  | _ => m

/-- DATA of the ACK, read before the effect. -/
def Part.lcpData (m : Part) (mem : Mem) (n rail op arg : Nat) : Nat :=
  match op with
  | 0x10 => m.readRail mem rail arg
  | 0x11 => m.readStatus n rail
  | 0x18 => m.get F.LCP_STAT_ALAT n
  | _ => 0

/-- Bits [47:16] of a command frame. -/
def frameHigh (rail op arg : Nat) : Nat := 10 * 2 ^ 28 + rail * 2 ^ 22 + op * 2 ^ 16 + arg / 256

/-- A command whose frame is in order reaches an enabled port: the last response goes out, checks 5 to 8 run, and the command
acts or changes nothing (R374). -/
def Part.lcpCommand (m : Part) (mem : Mem) (n rail op arg : Nat) : Part :=
  let m := m.put F.LCP_STAT_LASTOP n op
  if !m.railPermitted n rail op then m.lcpViolation n 6 rail (frameHigh rail op arg)
  else if !m.argOk rail op arg then m.answer n 8 rail 0
  else if m.stateBars rail op then m.answer n 9 rail 0
  else if m.lcpRefused rail op then m.answer n 10 rail 0
  else (m.lcpEffect n rail op arg).answer n 0 rail (m.lcpData mem n rail op arg)

/-- The opcodes of R376. -/
def opKnown (op : Nat) : Bool := op ≤ 7 || op = 0x10 || op = 0x11 || op = 0x18

/-- A burst of `edges` rising edges with these bits (the bits not received 0), through all checks of R374. -/
def Part.burst (m : Part) (mem : Mem) (n edges bits : Nat) : Part :=
  if !m.is F.LCP_CFG_EN n then m
  else
    let m := m.sendResponse n
    let rail := bits / 2 ^ 38 % 64
    let op := bits / 2 ^ 32 % 64
    let high := bits / 2 ^ 16
    if edges < 48 then m.lcpViolation n 5 rail high
    else if 48 < edges then m.lcpViolation n 7 rail high
    else if frameCrc (bits / 256) ≠ bits % 256 then m.lcpViolation n 2 rail high
    else if bits / 2 ^ 44 ≠ 10 then m.lcpViolation n 3 rail high
    else if !opKnown op then m.lcpViolation n 4 rail high
    else m.lcpCommand mem n rail op (bits / 256 % 2 ^ 24)

/-- A frame of opcode `op` that is in order. -/
def Part.lcpFrame (m : Part) (mem : Mem) (f : LcpFrame) (op : Nat) : Part :=
  if !m.is F.LCP_CFG_EN f.port then m else (m.sendResponse f.port).lcpCommand mem f.port f.rail op f.arg.toNat

/-- CK stays low for 1 ms after a burst: the waiting response is discarded (R381). -/
def Part.lcpTimeout (m : Part) (n : Nat) : Part :=
  if !m.is F.LCP_CFG_EN n then m
  else ((m.setLcpPort n { m.lcpPort n with answer := none }).put F.LCP_STAT_TOUT n 1).bump F.LCP_VCNT3_TOUT n

/-- A write of LCP_CFG: a disable discards the response and clears the latches (R382). -/
def Part.writeLcpCfg (m : Part) (n : Nat) (v : Word) : Part :=
  let m := m.plainWrite (R.LCP_CFG.addr n) v
  if m.is F.LCP_CFG_EN n then m else (m.setLcpPort n { m.lcpPort n with answer := none }).put F.LCP_STAT_ALAT n 0

/-- A fabric write to a register of the LCP block. -/
def Part.writeLCP (m : Part) (_i : Initiator) (a : Nat) (v : Word) : Part :=
  if R.LCP_CFG.covers a then m.writeLcpCfg (R.LCP_CFG.inst a) v else m.plainWrite a v

/-! ## The rows -/

def execNop (f : LcpFrame) (s : State) : Out := .next (s.lift (fun m => m.lcpFrame s.mem f 0x00))
def execSetFloor (f : LcpFrame) (s : State) : Out := .next (s.lift (fun m => m.lcpFrame s.mem f 0x01))
def execSetCeil (f : LcpFrame) (s : State) : Out := .next (s.lift (fun m => m.lcpFrame s.mem f 0x02))
def execSetMargin (f : LcpFrame) (s : State) : Out := .next (s.lift (fun m => m.lcpFrame s.mem f 0x03))
def execSetGain (f : LcpFrame) (s : State) : Out := .next (s.lift (fun m => m.lcpFrame s.mem f 0x04))
def execMute (f : LcpFrame) (s : State) : Out := .next (s.lift (fun m => m.lcpFrame s.mem f 0x05))
def execHold (f : LcpFrame) (s : State) : Out := .next (s.lift (fun m => m.lcpFrame s.mem f 0x06))
def execRelease (f : LcpFrame) (s : State) : Out := .next (s.lift (fun m => m.lcpFrame s.mem f 0x07))
def execReadRail (f : LcpFrame) (s : State) : Out := .next (s.lift (fun m => m.lcpFrame s.mem f 0x10))
def execReadStatus (f : LcpFrame) (s : State) : Out := .next (s.lift (fun m => m.lcpFrame s.mem f 0x11))
def execAckAlert (f : LcpFrame) (s : State) : Out := .next (s.lift (fun m => m.lcpFrame s.mem f 0x18))

/-- LCP_VIOLATION: a burst as it came, with its number of rising edges. -/
def execLcpViolation (n : Fin 4) (edges : Nat) (bits : BitVec 48) (s : State) : Out :=
  .next (s.lift (fun m => m.burst s.mem n edges bits.toNat))
def execLcpTimeout (n : Fin 4) (s : State) : Out := .next (s.lift (fun m => m.lcpTimeout n))
def execLcpPortDisable (_i : Initiator) (n : Fin 4) (v : Word) (s : State) : Out :=
  .next (s.lift (fun m => m.writeLcpCfg n (v &&& 0x7FFFFFFF)))

end Sys2Proof.Machine
end

