-- ==== Sys2Proof/Machine/Icu.lean ====
section
/-! DEFINITION. The interrupt controller, semaphores, timers and watchdogs, and what they do to the cores (R384 to
R405, R460). -/
namespace Sys2Proof.Machine

def Part.core (m : Part) (c : Nat) : Core := m.cores.get {} c
def Part.setCore (m : Part) (c : Nat) (x : Core) : Part := { m with cores := m.cores.set {} c x }
def allCores : List Nat := [0, 1, 2, 3]

/-! ## Watchdog counts and core states (R400) -/

/-- Microseconds since a tick of the timebase. -/
def Part.usSince (m : Part) (t : Nat) : Nat := (m.tb.ticks - t) * 1000 / m.kHz

/-- The watchdog counts: it pauses in HALT and OFF. -/
def Part.wdRuns (m : Part) (c : Nat) : Bool :=
  m.is F.TMR_WDCFG_EN c && (m.core c).st != .halt && (m.core c).st != .off

/-- Remaining time of a watchdog, in µs. -/
def Part.wdLeft (m : Part) (c : Nat) : Nat :=
  if m.wdRuns c then (m.core c).wdLeft - m.usSince (m.core c).wdAt else (m.core c).wdLeft

/-- Restart a watchdog from TIMEOUT. -/
def Part.wdRestart (m : Part) (c : Nat) : Part :=
  m.setCore c { m.core c with wdLeft := 100 * m.get F.TMR_WDCFG_TIMEOUT c, wdAt := m.tb.ticks }

/-- A core changes its state; its watchdog's count is taken along. -/
def Part.setCoreState (m : Part) (c : Nat) (st : CoreState) : Part :=
  m.setCore c { m.core c with st := st, wdLeft := m.wdLeft c, wdAt := m.tb.ticks }

/-! ## Levels of the sources (R384) -/

/-- Any W1C bit of a register is 1. -/
def Part.anyFlag (m : Part) (a : Nat) : Bool :=
  match regSpecAt a with
  | none => false
  | some r => r.fields.any (fun f => (match f.kind with | .w1c => true | _ => false) && fieldOf (m.word a) f.fld != 0)

/-- PWM flags of a lane group (R172). -/
def Part.pwmSource (m : Part) (n : Nat) : Bool :=
  (lanePhases n).any (fun p =>
    (m.get F.PWM_EVF_EVF p &&& m.get F.PWM_EVC_IE p) != 0 || (m.is F.PWM_EVC_SIE p && m.anyFlag (R.PWM_STAT.addr p)))

/-- Flags of a DMA channel (R425). -/
def Part.dmaSource (m : Part) (n : Nat) : Bool :=
  let on := fun (b : Nat) => m.bit F.DMA_CCFG_IE n b
  (m.is F.DMA_CSTAT_DONE n && on 0) || (m.is F.DMA_CSTAT_END n && on 1) ||
    ((m.is F.DMA_CSTAT_HALT n || m.is F.DMA_CSTAT_TRGOVR n) && on 2) || (m.is F.DMA_CSTAT_MIS n && on 3)

/-- Sources 24 to 38, in the order of R384. -/
def Part.blockSource (m : Part) (k : Nat) : Bool :=
  match k with
  | 0 => m.anyFlag R.SAF_STAT.base
  | 1 => m.anyFlag R.BSL_STAT.base
  | 2 => m.get F.FLK_STAT_LOSTF 0 != 0
  | 3 => m.anyFlag R.MICA_STAT.base
  | 4 => m.anyFlag R.POOL_STAT.base
  | 5 => m.anyFlag R.CLV_STAT.base
  | 6 => m.anyFlag R.ADC_STAT.base || (List.range 64).any (fun s => m.is F.ADC_SPCFG_IIE s && m.is F.ADC_SPSTAT_IDONE s)
  | 7 => m.anyFlag R.WMON_STAT.base || (List.range 96).any (fun w => m.is F.WMON_CFG_IE w && m.is F.WMON_ST_OUT w)
  | 8 => m.anyFlag R.GRN_STAT.base
  | 9 => m.anyFlag R.PMB_STAT.base || m.is F.PMB_MBIN_FULL 0
  | 10 => m.anyFlag R.PMC_STAT.base || !m.pmc.alist.isEmpty
  | 11 => (List.range 4).any (fun n => m.anyFlag (R.LCP_STAT.addr n) || m.get F.LCP_STAT_ALAT n != 0)
  | 12 => m.anyFlag R.AUD_STAT.base
  | 13 => m.anyFlag R.HSP_STAT.base
  | _ => m.anyFlag R.TB_STAT.base

/-- The level of a source. -/
def Part.sourceLevel (m : Part) (s : Nat) : Bool :=
  if s = 0 then m.anyFlag R.FLT_STAT.base || m.presented.isSome
  else if s ≤ 4 then m.bit F.TMR_STAT_WDWARN 0 (s - 1)
  else if s = 5 then m.anyFlag R.NVM_STAT.base
  else if s = 6 then m.is F.SYS_SUPST_WARN 0 || m.is F.SYS_SUPST_PFIN 0
  else if s = 7 then m.is F.SYS_PWRST_DONE 0 || m.is F.SYS_PWRST_FORCED 0 || m.is F.SYS_STBY_WOKE 0
  else if s < 24 then m.pwmSource (s - 8)
  else if s < 39 then m.blockSource (s - 24)
  else if s = 39 then m.get F.IC_SEMREL_REL 0 != 0
  else if s < 72 then m.dmaSource (s - 40)
  else if s < 88 then m.is F.TMR_CTL_FLAG (s - 72) && m.is F.TMR_CTL_IE (s - 72)
  else if s < 104 then m.bit F.GPIO_FLAG_FLAG 0 (s - 88) && m.is F.GPIO_CFG_IE (s - 88)
  else if s = 104 then m.anyFlag R.IC_STAT.base
  else if s < 128 then false
  else m.bit F.IC_SW_SW ((s - 128) / 32) (s % 32)

/-! ## Pending, targets, delivery (R385 to R388, R393 to R395) -/

def Part.pending (m : Part) (s : Nat) : Bool := m.bit F.IC_PEND_PEND (s / 32) (s % 32)
def Part.setPending (m : Part) (s : Nat) (v : Bool) : Part := m.putBit F.IC_PEND_PEND (s / 32) (s % 32) v
def Part.enabled (m : Part) (s : Nat) : Bool := m.bit F.IC_EN_EN (s / 32) (s % 32)

/-- Pending and enabled sources. -/
def Part.active (m : Part) : List Nat :=
  ((List.range 12).filter (fun k => m.get F.IC_PEND_PEND k &&& m.get F.IC_EN_EN k != 0)).flatMap (fun k =>
    ((List.range 32).map (fun b => 32 * k + b)).filter (fun s => m.pending s && m.enabled s))

def Part.coreOff (m : Part) (c : Nat) : Bool := (m.core c).st = .off

/-- The effective target of a source (R386, R395). -/
def Part.effTarget (m : Part) (s : Nat) : Nat :=
  let t := m.get F.IC_CFG_TGT s
  let f := m.get F.IC_FALLBACK_CORE 0
  if !m.coreOff t then t
  else if !m.coreOff f then f
  else (allCores.find? (fun c => !m.coreOff c)).getD t

/-- A source is held off by the global disable (R393). -/
def Part.heldOff (m : Part) (s : Nat) : Bool := s < 8 && m.is F.IC_GDIS_DIS 0

/-- The core's view: pending and enabled sources whose effective target is the core. -/
def Part.view (m : Part) (c : Nat) : List Nat := m.active.filter (fun s => m.effTarget s = c)

/-- The highest of some priorities. -/
def highest (l : List Nat) : Option Nat := l.foldl (fun a p => some (max p (a.getD 0))) none

/-- Running priority: the highest bit of HELD (R387). -/
def Part.running (m : Part) (c : Nat) : Option Nat := highest ((List.range 16).filter (fun p => m.bit F.IC_STK_HELD c p))

/-- The highest priority among the sources deliverable to the core (R387, R388). -/
def Part.deliverable (m : Part) (c : Nat) : Option Nat :=
  match highest (((m.view c).filter (fun s => !m.heldOff s)).map (fun s => m.get F.IC_CFG_PRI s)) with
  | none => none
  | some p => match m.running c with
    | none => some p
    | some q => if q < p then some p else none

/-- A source that goes to another core than its target because that is OFF: flag and record, once per episode (R395). -/
def Part.redirect (m : Part) (s : Nat) : Part :=
  if m.coreOff (m.get F.IC_CFG_TGT s) && !m.icu.redirected.contains s then
    let m := { m with icu := { m.icu with redirected := m.icu.redirected ++ [s] } }
    (m.put F.IC_STAT_REDIR 0 1).event (codeOf 1 4) 0 s
  else m

/-- A source wakes its core from WAIT or RETENTION (R394). -/
def Part.wakeBy (m : Part) (s : Nat) : Part :=
  let c := m.effTarget s
  let st := (m.core c).st
  if !m.heldOff s && (st = .wait || st = .retention) then m.setCoreState c .run else m

/-- The ICU evaluates its sources after a change. -/
def Part.icuLook (m : Part) : Part :=
  let keep := m.icu.redirected.filter (fun s => m.coreOff (m.get F.IC_CFG_TGT s))
  let m := { m with icu := { m.icu with redirected := keep } }
  let l := m.active
  (m.each l (fun s m => m.redirect s)).each l (fun s m => m.wakeBy s)

/-- A re-sample: the pending bit becomes the level (R385). -/
def Part.resample (m : Part) (s : Nat) : Part := m.setPending s (m.sourceLevel s)

/-- A source's level is looked at: an asserted level makes it pending (R385). -/
def Part.sourceChange (m : Part) (s : Nat) : Part := if m.sourceLevel s then (m.setPending s true).icuLook else m

/-- Number of priorities on a stack. -/
def countBits (n : Nat) : Nat := ((List.range 16).filter (fun b => n / 2 ^ b % 2 = 1)).length

def Part.putStack (m : Part) (c held : Nat) : Part := (m.put F.IC_STK_HELD c held).put F.IC_STK_DEPTH c (countBits held)

/-- A core writes IC_EOI: pop and re-sample (R389, R390). -/
def Part.eoi (m : Part) (c : Nat) : Part :=
  let m := match m.running c with
    | some p => m.putStack c (m.get F.IC_STK_HELD c - 2 ^ p)
    | none =>
      let m := m.put F.IC_STAT_EOIEMPTY 0 1
      m.event (codeOf 1 2) (srcOf 4 c) 0 (m.word R.IC_STAT.base).toNat
  let l := (List.range 384).filter (fun s => m.effTarget s = c)
  (m.each l (fun s m => m.resample s)).icuLook

/-- A write of IC_EOI (R390). -/
def Part.writeEoi (m : Part) (i : Initiator) (v : Word) : Part :=
  match i with
  | .core c => m.eoi c
  | _ => m.refuse F.IC_STAT_REFUSED i R.IC_EOI.base v

/-- A write of an IC_PEND word: 1 sets, 0 re-samples (R385, R396). -/
def Part.writePend (m : Part) (k : Nat) (v : Word) : Part :=
  (m.each (List.range 32) (fun b m => if v.getLsbD b then m.setPending (32 * k + b) true else m.resample (32 * k + b))).icuLook

/-- A write of an IC_SW word: an asserted software source becomes pending. -/
def Part.writeSw (m : Part) (k : Nat) (v : Word) : Part :=
  let m := m.setWord (R.IC_SW.addr k) v
  (m.each (List.range 32) (fun b m => if v.getLsbD b then m.setPending (128 + 32 * k + b) true else m)).icuLook

/-- A write of IC_GDIS (R393). -/
def Part.writeGdis (m : Part) (i : Initiator) (v : Word) : Part :=
  let core : Bool := match i with | .core _ => true | _ => false
  if !core || fieldOf v F.IC_GDIS_MAXT = 0 then m.refuse F.IC_STAT_REFUSED i R.IC_GDIS.base v
  else (m.plainWrite R.IC_GDIS.base v).icuLook

/-- DIS has been 1 for MAXT µs (R393). -/
def Part.gdisTimeout (m : Part) : Part :=
  if !m.is F.IC_GDIS_DIS 0 then m
  else
    let m := (m.put F.IC_GDIS_DIS 0 0).put F.IC_STAT_GDISTO 0 1
    (m.event (codeOf 1 2) 0 0 (m.word R.IC_STAT.base).toNat).icuLook

/-- IC_CPENDc_k, IC_RPRI and IC_STKc as they read. -/
def Part.cpendWord (m : Part) (c k : Nat) : Word :=
  BitVec.ofNat 32 (((m.view c).filter (fun s => s / 32 = k)).foldl (fun a s => a + 2 ^ (s % 32)) 0)

def Part.stackWord (m : Part) (c : Nat) : Word :=
  withBits (m.word (R.IC_STK.addr c)) 24 5 ((highest ((m.view c).map (fun s => m.get F.IC_CFG_PRI s))).getD 31)

/-! ## Semaphores (R403, R404) -/

/-- A semaphore becomes free: a waiter's release is announced. -/
def Part.freeSem (m : Part) (n : Nat) : Part :=
  let m := (m.put F.IC_SEM_BUSY n 0).put F.IC_SEM_OWNER n 0
  if m.icu.semWait.getLsbD n then
    let w := m.icu.semWait &&& ~~~ (BitVec.ofNat 32 (2 ^ n))
    ({ m with icu := { m.icu with semWait := w } }).putBit F.IC_SEMREL_REL 0 n true
  else m

/-- A semaphore is freed whoever owns it: announced and recorded (R404). -/
def Part.forceSem (m : Part) (n : Nat) : Part :=
  if !m.is F.IC_SEM_BUSY n then m
  else
    let src := srcOf 4 (m.get F.IC_SEM_OWNER n)
    let m := (m.freeSem n).putBit F.IC_SEMREL_REL 0 n true
    m.event (codeOf 1 2) src 0 (m.word R.IC_STAT.base).toNat

/-- Free every semaphore of a core. -/
def Part.freeSemsOf (m : Part) (c : Nat) : Part :=
  m.each ((List.range 32).filter (fun n => m.is F.IC_SEM_BUSY n && m.get F.IC_SEM_OWNER n = c)) (fun n m => m.forceSem n)

/-- The word of a semaphore read. -/
def semWord (got busy : Bool) (owner : Nat) : Word := BitVec.ofNat 32 (flag got 31 + flag busy 8 + owner)

/-- A read of IC_SEMn (R403). -/
def Part.readSem (m : Part) (i : Initiator) (n : Nat) : Word × Part :=
  let me := initIndex i
  let busy := m.is F.IC_SEM_BUSY n
  let owner := m.get F.IC_SEM_OWNER n
  if i = .ydp then (semWord false busy owner, m)
  else if !busy then (semWord true true me, (m.put F.IC_SEM_BUSY n 1).put F.IC_SEM_OWNER n me)
  else if owner = me then (semWord true true me, m)
  else (semWord false true owner, { m with icu := { m.icu with semWait := m.icu.semWait ||| BitVec.ofNat 32 (2 ^ n) } })

/-- A write of IC_SEMn: only the owner's 0 frees it (R403). -/
def Part.writeSem (m : Part) (i : Initiator) (n : Nat) (v : Word) : Part :=
  if v = 0 && m.is F.IC_SEM_BUSY n && m.get F.IC_SEM_OWNER n = initIndex i then m.freeSem n
  else m.refuse F.IC_STAT_REFUSED i (R.IC_SEM.addr n) v

/-- A write of IC_SEMFREE by a core or the debug port (R404). -/
def Part.writeSemFree (m : Part) (i : Initiator) (v : Word) : Part :=
  let may : Bool := match i with | .core _ => true | .ydp => true | _ => false
  if may then m.each ((List.range 32).filter (fun n => v.getLsbD n)) (fun n m => m.forceSem n)
  else m.refuse F.IC_STAT_REFUSED i R.IC_SEMFREE.base v

/-! ## Core reset (R123, R397, R404, R460) -/

/-- Reset of a core: the state of R123, its stack emptied, its semaphores freed, its watchdog restarted. SC0 begins at 0
after every reset, in the boot ROM, whose own instructions jump to SYS_CSTART0 where an image is accepted (R460, log entry 70); SC1
to SC3 begin at SYS_CSTARTc, and 0 holds them in reset. A core whose domain is down stays OFF. -/
def Part.resetCore (m : Part) (c : Nat) : Part :=
  let m := (m.freeSemsOf c).putStack c 0
  let start := 4 * m.get F.SYS_CSTART_ADDR c
  let off := if c = 0 then false else start = 0 || m.bit F.SYS_PWRST_OFF 0 (c - 1)
  let pc := if c = 0 then 0 else start
  ((m.setCore c { st := if off then .off else .run, pc := if off then 0 else BitVec.ofNat 32 pc }).wdRestart c).icuLook

/-- Record a reset cause (R458). -/
def Part.cause (m : Part) (b : Nat) : Part := m.putBit F.SYS_RSTCAUSE_CAUSE 0 b true

/-! ## Timers (R398, R399) -/

/-- Count clocks of a timer since its count was noted. -/
def Part.timerClocks (m : Part) (t : Nat) : Nat := (m.tb.ticks - m.timers.get 0 t) / (64 * (m.get F.TMR_CTL_PRE t + 1))

/-- The present count: it stands at 0 for one count clock, and a periodic timer then reloads. -/
def Part.timerCount (m : Part) (t : Nat) : Nat :=
  let c := m.get F.TMR_CNT_CNT t
  let k := m.timerClocks t
  if !m.is F.TMR_CTL_EN t then c
  else if c = 0 && m.is F.TMR_CTL_PER t && 1 ≤ k then m.get F.TMR_LOAD_LOAD t - (k - 1)
  else c - k

/-- Note a count at this moment. -/
def Part.noteCount (m : Part) (t c : Nat) : Part := { (m.put F.TMR_CNT_CNT t c) with timers := m.timers.set 0 t m.tb.ticks }

/-- Take the count along to the newest count clock, keeping the prescaler's phase: the reload of a count at 0 has then used
the LOAD of its moment. -/
def Part.settleTimer (m : Part) (t : Nat) : Part :=
  let k := m.timerClocks t
  if m.is F.TMR_CTL_EN t && 1 ≤ k then
    { (m.put F.TMR_CNT_CNT t (m.timerCount t)) with timers := m.timers.set 0 t (m.timers.get 0 t + k * 64 * (m.get F.TMR_CTL_PRE t + 1)) }
  else m

/-- A write of TMR_LOADt: 0 is refused, and a running timer takes it at its next reload (R398). -/
def Part.writeLoad (m : Part) (i : Initiator) (t : Nat) (v : Word) : Part :=
  if v = 0 then m.refuse F.TMR_STAT_REFUSED i (R.TMR_LOAD.addr t) v else (m.settleTimer t).plainWrite (R.TMR_LOAD.addr t) v

/-- A write of TMR_CTLt (R398). -/
def Part.writeTmrCtl (m : Part) (i : Initiator) (t : Nat) (v : Word) : Part :=
  let en := fieldOf v F.TMR_CTL_EN = 1
  if (en && m.get F.TMR_LOAD_LOAD t = 0) || (m.is F.TMR_CTL_EN t && m.changes F.TMR_CTL_PRE t v) then
    m.refuse F.TMR_STAT_REFUSED i (R.TMR_CTL.addr t) v
  else
    let now := m.timerCount t
    let m := m.plainWrite (R.TMR_CTL.addr t) v
    m.noteCount t (if en then m.get F.TMR_LOAD_LOAD t else now)

/-- CNT reaches 0: FLAG, the DMA triggers on it, and the stop of a one-shot timer (R398, R411). -/
def Part.timerExpires (m : Part) (t : Nat) : Part :=
  if !m.is F.TMR_CTL_EN t then m
  else
    let rise := !m.is F.TMR_CTL_FLAG t
    let m := (m.noteCount t 0).put F.TMR_CTL_FLAG t 1
    let m := if m.is F.TMR_CTL_PER t then m else m.put F.TMR_CTL_EN t 0
    if rise then m.dmaTrigger 3 t else m

/-! ## Watchdogs (R400 to R402, R316) -/

/-- The handler of FLT_NEXT runs on the core with an entry in hand (R316). -/
def Part.inHandler (m : Part) (c : Nat) : Bool := m.is F.FLT_STAT_INH 0 && m.get F.FLT_CTRL_HCORE 0 = c

/-- HFAULT: a fault inside the handler's program (R316). -/
def Part.handlerFault (m : Part) (c : Nat) : Part := (m.put F.FLT_STAT_HFAULT 0 1).raise 0xB801 63 5 (srcOf 4 c)

/-- A kick of a watchdog (R400). -/
def Part.kick (m : Part) (i : Initiator) (c : Nat) (v : Word) : Part :=
  let x := m.core c
  if initIndex i = c && v = 0xA5 then m.setCore c { x with wdKey := true }
  else if initIndex i = c && v = 0x5A && x.wdKey then
    ((m.setCore c { x with wdKey := false }).wdRestart c).putBit F.TMR_STAT_WDWARN 0 c false
  else (m.setCore c { x with wdKey := false }).refuse F.TMR_STAT_REFUSED i (R.TMR_WDKICK.addr c) v

/-- A write of TMR_WDCFGc (R9, R402). -/
def Part.writeWdcfg (m : Part) (i : Initiator) (c : Nat) (v : Word) : Part :=
  let a := R.TMR_WDCFG.addr c
  if m.is F.TMR_WDCFG_LOCK c then m.refusedWrite i a v
  else if fieldOf v F.TMR_WDCFG_TIMEOUT = 0 || fieldOf v F.TMR_WDCFG_TIMEOUT ≤ fieldOf v F.TMR_WDCFG_WARN then
    m.refuse F.TMR_STAT_REFUSED i a v
  else
    let left := m.wdLeft c
    let starts := fieldOf v F.TMR_WDCFG_EN = 1 && !m.is F.TMR_WDCFG_EN c
    let m := (m.plainWrite a v).setCore c { m.core c with wdLeft := left, wdAt := m.tb.ticks }
    if starts then m.wdRestart c else m

/-- The warning point (R401). -/
def Part.wdWarning (m : Part) (c : Nat) : Part :=
  if m.wdRuns c && m.get F.TMR_WDCFG_WARN c != 0 then m.putBit F.TMR_STAT_WDWARN 0 c true else m

/-- Expiry (R401, R316). -/
def Part.wdExpiry (m : Part) (c : Nat) : Part :=
  if !m.wdRuns c then m
  else
    let m := (m.putBit F.TMR_STAT_WDEXP 0 c true).setCore c { m.core c with wdLeft := 0, wdAt := m.tb.ticks }
    let m := if m.inHandler c then m.handlerFault c else m.raise 0xDC00 63 (m.policy 11) (srcOf 4 c)
    if m.is F.TMR_WDCFG_RST c then (m.cause (4 + c)).resetCore c else m

/-! ## Register writes (R405) -/

/-- A fabric write to a register of the ICU block. -/
def Part.writeICU (m : Part) (i : Initiator) (a : Nat) (v : Word) : Part :=
  if R.IC_PEND.covers a then m.writePend (R.IC_PEND.inst a) v
  else if R.IC_SW.covers a then m.writeSw (R.IC_SW.inst a) v
  else if a = R.IC_EOI.base then m.writeEoi i v
  else if a = R.IC_GDIS.base then m.writeGdis i v
  else if R.IC_SEM.covers a then m.writeSem i (R.IC_SEM.inst a) v
  else if a = R.IC_SEMFREE.base then m.writeSemFree i v
  else (m.plainWrite a v).icuLook

/-- A fabric write to a register of the TMR block. -/
def Part.writeTMR (m : Part) (i : Initiator) (a : Nat) (v : Word) : Part :=
  if R.TMR_CTL.covers a then m.writeTmrCtl i (R.TMR_CTL.inst a) v
  else if R.TMR_LOAD.covers a then m.writeLoad i (R.TMR_LOAD.inst a) v
  else if R.TMR_WDCFG.covers a then m.writeWdcfg i (R.TMR_WDCFG.inst a) v
  else if R.TMR_WDKICK.covers a then m.kick i (R.TMR_WDKICK.inst a) v
  else m.plainWrite a v

/-! ## The rows -/

def execSourceLevelChange (n : Fin 384) (s : State) : Out := .next (s.lift (fun m => m.sourceChange n))
def execIcEoi (i : Initiator) (s : State) : Out := .next (s.lift (fun m => m.writeEoi i 0))
def execIcPendWrite (_i : Initiator) (k : Fin 12) (v : Word) (s : State) : Out := .next (s.lift (fun m => m.writePend k v))
def execIcGdisWrite (i : Initiator) (v : Word) (s : State) : Out := .next (s.lift (fun m => m.writeGdis i v))
def execGdisTimeout (s : State) : Out := .next (s.lift (fun m => m.gdisTimeout))

/-- SEMAPHORE_READ, answered on the fabric. -/
def execSemaphoreRead (i : Initiator) (n : Fin 32) (s : State) : Out :=
  .next (s.lift (fun m =>
    let x := m.readSem i n
    { x.2 with bus := { data := BitVec.ofNat 64 x.1.toNat, error := false } }))
def execSemaphoreRelease (i : Initiator) (n : Fin 32) (v : Word) (s : State) : Out := .next (s.lift (fun m => m.writeSem i n v))
def execSemaphoreForceFree (i : Initiator) (v : Word) (s : State) : Out := .next (s.lift (fun m => m.writeSemFree i v))
def execTimerStart (i : Initiator) (t : Fin 16) (v : Word) (s : State) : Out :=
  .next (s.lift (fun m => m.writeTmrCtl i t (v ||| 0x80000000)))
def execTimerExpiry (t : Fin 16) (s : State) : Out := .next (s.lift (fun m => m.timerExpires t))
def execWatchdogKick (i : Initiator) (c : Fin 4) (v : Word) (s : State) : Out := .next (s.lift (fun m => m.kick i c v))
def execWatchdogWarning (c : Fin 4) (s : State) : Out := .next (s.lift (fun m => m.wdWarning c))
def execWatchdogExpiry (c : Fin 4) (s : State) : Out := .next (s.lift (fun m => m.wdExpiry c))

end Sys2Proof.Machine
end

