-- ==== Sys2Proof/Machine/Memory.lean ====
section
/-! DEFINITION. Fabric accesses to the memory regions of R22: rights, alignment, the rules of Basalt for LPM and LSM, the
NVM window, banks powered down or in retention (R20 to R24, R118, R119, R268, R456). -/
namespace Sys2Proof.Machine

/-- The regions of the memory map (R22). -/
inductive Region where
  | rom | cm | lab | opt | sgm | lpm | lsm | ring | sbm | nvm | peripheral | nowhere
deriving DecidableEq, Repr

/-- The region an address lies in. -/
def regionOf (a : Nat) : Region :=
  let within := fun (base size : Nat) => decide (base ≤ a) && decide (a < base + size)
  if a < 0x10000 then .rom
  else if within 0x10000000 0x100000 then .cm
  else if within 0x11000000 0x100000 then .lab
  else if within 0x12000000 0x30000 then .opt
  else if within 0x12040000 0x40000 then .sgm
  else if within 0x12080000 0x40000 then .lpm
  else if within 0x120C0000 0x40000 then .lsm
  else if within 0x13000000 0x40000 then .ring
  else if within 0x13040000 0xC0000 then .sbm
  else if within 0x20000000 0x40000 then .nvm
  else if within 0x40000000 0x190000 then .peripheral
  else .nowhere

/-- Fabric initiators may read the region, and may write it. -/
def readable : Region → Bool
  | .nowhere => false
  | _ => true

def writable : Region → Bool
  | .cm | .opt | .sgm | .lpm | .lsm | .sbm | .nvm | .peripheral => true
  | _ => false

/-- Power domain of a shared buffer memory address: 3, 4 or 5 (R454). -/
def bankDomain (a : Nat) : Option Nat :=
  if regionOf a = .sbm then some (3 + (a - 0x13040000) / 0x40000) else none

/-- The address lies in a bank that is powered down. -/
def Part.bankOff (m : Part) (a : Nat) : Bool :=
  match bankDomain a with
  | some d => m.domainOff d
  | none => false

/-- Retention bank of an address: 0 to 15 in core memory, 16 to 27 in shared buffer memory (R268). -/
def retentionBank (a : Nat) : Option Nat :=
  match regionOf a with
  | .cm => some ((a - 0x10000000) / 0x10000)
  | .sbm => some (16 + (a - 0x13040000) / 0x10000)
  | _ => none

/-- An access takes its bank out of retention. -/
def Part.wakeBank (m : Part) (a : Nat) : Part :=
  match retentionBank a with
  | some b => if m.sys.asleep.contains b then { m with sys := { m.sys with asleep := m.sys.asleep.filter (fun x => x ≠ b) } } else m
  | none => m

/-- Aligned, of 1, 2, 4 or 8 bytes (R23, R24). -/
def alignedAccess (a n : Nat) : Bool := (n = 1 || n = 2 || n = 4 || n = 8) && a % n = 0

/-- What one access gives: a bus error, the data read, and the machine after it. -/
structure Access where
  err : Bool
  data : Nat
  post : State

/-- An access that ends in a bus error. -/
def State.busError (s : State) : Access := ⟨true, 0, s⟩

/-- A read of `n` bytes of a memory region. -/
def State.memRead (s : State) (a n : Nat) : Access :=
  let g := regionOf a
  if !alignedAccess a n || !readable g || g = .peripheral || s.part.bankOff a then s.busError
  else if g = .nvm then
    if s.part.recalling then s.busError
    else
      let x := s.nvmGet a n
      ⟨x.1, x.2.1, x.2.2⟩
  else ⟨false, Mem.read s.mem a n, s.lift (fun m => m.wakeBank a)⟩

/-- A refused fabric write to LPM or LSM: the full address and the low word of the value (R118, R119, R502). -/
def State.memRefused (s : State) (src a v : Nat) : Access :=
  (s.lift (fun m => m.event (codeOf 7 0) src a (v % 2 ^ 32))).busError

/-- A write of the low `n` bytes of a value to a memory region, by an initiator or engine with this SOURCE. -/
def State.memWrite (s : State) (src a n v : Nat) : Access :=
  let g := regionOf a
  if !alignedAccess a n || !writable g || g = .peripheral || s.part.bankOff a then s.busError
  else if g = .nvm then
    if s.part.recalling then s.busError
    else
      let x := s.nvmPut src a v n
      ⟨x.1, 0, x.2⟩
  else if (g = .lpm && s.part.lpmGuarded a n) || (g = .lsm && s.part.lsmGuarded a n) then s.memRefused src a v
  else ⟨false, 0, State.lift { s with mem := Mem.write s.mem a v n } (fun m => m.wakeBank a)⟩

end Sys2Proof.Machine
end

