-- ==== Sys2Proof/Machine/Dma.lean ====
section
/-! DEFINITION. The DMA engine: descriptors, beats, halts, arbitration, draining, registers (R406 to R426). -/
namespace Sys2Proof.Machine

def Part.dmaChan (m : Part) (n : Nat) : DmaChan := m.dma.chans.get {} n
def Part.setDma (m : Part) (n : Nat) (x : DmaChan) : Part := { m with dma := { m.dma with chans := m.dma.chans.set {} n x } }
def allChannels : List Nat := List.range 32

/-- States of R409. -/
def dmaIdle : Nat := 0
def dmaFetch : Nat := 1
def dmaWait : Nat := 2
def dmaRun : Nat := 3
def dmaParked : Nat := 4
def dmaHalted : Nat := 5

def Part.dmaState (m : Part) (n : Nat) : Nat := m.get F.DMA_CSTAT_STATE n
def Part.putDmaState (m : Part) (n st : Nat) : Part := m.put F.DMA_CSTAT_STATE n st

/-- The channel is not IDLE or HALTED (DMA_ACT). -/
def Part.dmaActive (m : Part) (n : Nat) : Bool := m.dmaState n != dmaIdle && m.dmaState n != dmaHalted

/-- DMA_ACT as it reads. -/
def Part.dmaActWord (m : Part) : Word := BitVec.ofNat 32 ((allChannels.filter (fun n => m.dmaActive n)).foldl (fun a n => a + 2 ^ n) 0)

/-! ## Descriptors (R406, R407) -/

def DmaDesc.op (d : DmaDesc) : Nat := d.ctl % 4
def DmaDesc.smode (d : DmaDesc) : Nat := d.ctl / 2 ^ 2 % 4
def DmaDesc.dmode (d : DmaDesc) : Nat := d.ctl / 2 ^ 4 % 4
def DmaDesc.ssize (d : DmaDesc) : Nat := 2 ^ (d.ctl / 2 ^ 6 % 4)
def DmaDesc.dsize (d : DmaDesc) : Nat := 2 ^ (d.ctl / 2 ^ 8 % 4)
def DmaDesc.swrap (d : DmaDesc) : Nat := d.ctl / 2 ^ 10 % 32
def DmaDesc.dwrap (d : DmaDesc) : Nat := d.ctl / 2 ^ 15 % 32
def DmaDesc.irq (d : DmaDesc) : Bool := d.ctl / 2 ^ 20 % 2 = 1
def DmaDesc.stopMis (d : DmaDesc) : Bool := d.ctl / 2 ^ 21 % 2 = 1
def DmaDesc.waitTrg (d : DmaDesc) : Bool := d.ctl / 2 ^ 22 % 2 = 1

/-- OP copy and compare use the source side. -/
def DmaDesc.usesSrc (d : DmaDesc) : Bool := d.op = 0 || d.op = 2

/-- OP compare and compare with pattern. -/
def DmaDesc.compares (d : DmaDesc) : Bool := d.op = 2 || d.op = 3

/-- A side in peripheral space. -/
def inPeripheral (a : Nat) : Bool := regionOf a = .peripheral

/-- The checks of one side. -/
def sideFails (mode size wrap a len : Nat) : Bool :=
  mode = 3 || (mode = 2 && (wrap < 3 || 20 < wrap)) || (mode = 1 && (a % size != 0 || len % size != 0)) ||
    (inPeripheral a && (a % 4 != 0 || len % 4 != 0 || (mode = 1 && size != 4)))

/-- A descriptor that fails a check of R407. -/
def DmaDesc.bad (d : DmaDesc) : Bool :=
  2 ^ 23 ≤ d.ctl || 2 ^ 24 ≤ d.len || d.len = 0 || (d.usesSrc && sideFails d.smode d.ssize d.swrap d.src d.len) ||
    sideFails d.dmode d.dsize d.dwrap d.dst d.len || d.next % 32 != 0

/-- A descriptor from the four doublewords fetched. -/
def descOf (w : List Nat) : DmaDesc :=
  let d := fun (k : Nat) => w.getD k 0
  { ctl := d 0 % 2 ^ 32, len := d 0 / 2 ^ 32, src := d 1 % 2 ^ 32, dst := d 1 / 2 ^ 32, pattern := d 2, next := d 3 % 2 ^ 32 }

/-- Address of byte `i` of a side (R412). -/
def sideAddr (mode wrap start i : Nat) : Nat :=
  match mode with
  | 0 => start + i
  | 1 => start
  | _ => start / 2 ^ wrap * 2 ^ wrap + (start % 2 ^ wrap + i) % 2 ^ wrap

/-- The widest access at `a` within `left` bytes (R413). -/
def widest (a left : Nat) : Nat :=
  (([8, 4, 2, 1] : List Nat).find? (fun k => a % k = 0 && decide (k ≤ left) && (decide (k ≤ 4) || !inPeripheral a))).getD 1

/-- Address and size of the next access of each side. -/
def DmaChan.srcNext (x : DmaChan) : Nat × Nat :=
  let d := x.desc
  let a := sideAddr d.smode d.swrap d.src x.srcDone
  (a, if d.smode = 1 then d.ssize else widest a (d.len - x.srcDone))

def DmaChan.dstNext (x : DmaChan) : Nat × Nat :=
  let d := x.desc
  let a := sideAddr d.dmode d.dwrap d.dst x.dstDone
  (a, if d.dmode = 1 then d.dsize else widest a (d.len - x.dstDone))

/-- Bytes of the pattern from a destination address (R415). -/
def DmaDesc.patternAt (d : DmaDesc) (a n : Nat) : List Byte :=
  (List.range n).map (fun i => byteOf (d.pattern / 256 ^ ((a + i) % 8)))

/-! ## Chains (R408 to R411, R416, R417) -/

/-- The word written to STATUS (R408). -/
def statusWordOf (code count : Nat) : Nat := code * 2 ^ 28 + count

/-- The burst ends: the spacing of R420 follows its last beat, and a promotion is used up. -/
def Part.endBurst (m : Part) (n : Nat) : Part :=
  let x := m.dmaChan n
  let s := m.get F.DMA_CCFG_SHARE n + 1
  let t := ((x.lastAt - x.burstAt) * (64 - s) + s - 1) / s
  m.setDma n { x with burst := none, promoted := false, spacedTill := if t = 0 then none else some (x.lastAt + t) }

/-- Descriptors not started after a halt: follow NEXT, reading only (R416). -/
def State.chainRest (s : State) (first a count : Nat) : Nat → Nat × State
  | 0 => (count, s)
  | k + 1 =>
    if a = 0 || a = first then (count, s)
    else
      let x := s.memRead (a + 0x18) 4
      if x.err then (count + 1, x.post) else x.post.chainRest first x.data (count + 1) k

/-- Enter HALTED with a code (R416, R417). -/
def Part.enterHalted (m : Part) (n code : Nat) : Part :=
  let x := m.dmaChan n
  let m := m.setDma n { x with funnel := [], retries := 0, draining := false, burst := none, promoted := false }
  ((m.putDmaState n dmaHalted).put F.DMA_CSTAT_HALT n 1).put F.DMA_CSTAT_CODE n code

/-- The one write of STATUS that a halt makes, where the descriptor was fetched. -/
def State.haltStatus (s : State) (n code : Nat) : State :=
  let x := s.part.dmaChan n
  if x.fetched then (s.memWrite (srcInit .dma) (s.part.get F.DMA_CDESC_DESC n + 0x1C) 4 (statusWordOf code x.dstDone)).post else s

/-- A failed channel: STATUS, the count of descriptors not started, HALTED, and the event 0x0804 (R416). -/
def State.dmaFail (s : State) (n code addr : Nat) : State :=
  let x := s.part.dmaChan n
  let desc := s.part.get F.DMA_CDESC_DESC n
  let s := s.haltStatus n code
  let nx := s.memRead (desc + 0x18) 4
  let start : Nat × State := if x.fetched then (x.desc.next, s) else (if nx.err then 0 else nx.data, nx.post)
  let rest := start.2.chainRest x.first start.1 0 4095
  rest.2.lift (fun m =>
    let m := (m.enterHalted n code).put F.DMA_CERRA_ADDR n addr
    m.event (codeOf 2 4) (srcOf 7 n) desc rest.1 addr)

/-- ABORT (R417, R424): no effect in IDLE; nothing more to stop in HALTED. -/
def State.dmaAbort (s : State) (n : Nat) : State :=
  if s.part.dmaActive n then (s.haltStatus n 6).lift (fun m => m.enterHalted n 6) else s

/-- GO (R409): the channel fetches the descriptor at `a`. -/
def Part.dmaGo (m : Part) (n a : Nat) : Part :=
  let x := m.dmaChan n
  let m := m.setDma n { first := a, spacedTill := x.spacedTill, watched := x.watched }
  let m := (((m.putDmaState n dmaFetch).put F.DMA_CSTAT_CODE n 0).put F.DMA_CMISA_ADDR n 0).put F.DMA_CMISC_COUNT n 0
  (m.put F.DMA_CDESC_DESC n a).put F.DMA_CREM_REM n 0

/-- The next descriptor, or the end of the chain (R410). -/
def Part.dmaOnward (m : Part) (n : Nat) (stop : Bool) : Part :=
  let x := m.dmaChan n
  if stop || x.desc.next = 0 then (m.putDmaState n dmaIdle).put F.DMA_CSTAT_END n 1
  else
    let m := m.setDma n { x with stage := .fetch, words := [], fetched := false, srcDone := 0, dstDone := 0, funnel := [], differs := false }
    (m.putDmaState n dmaFetch).put F.DMA_CDESC_DESC n x.desc.next

/-- DONE is set; a rise triggers channels that select it (R410, R411). -/
def Part.dmaDone (m : Part) (n : Nat) : Part :=
  if m.is F.DMA_CSTAT_DONE n then m else (m.put F.DMA_CSTAT_DONE n 1).dmaTrigger 4 n

/-- STATUS has been written (R410). -/
def Part.dmaCompletes (m : Part) (n : Nat) : Part :=
  let d := (m.dmaChan n).desc
  let m := if d.irq then m.dmaDone n else m
  m.dmaOnward n (d.stopMis && d.compares && (m.dmaChan n).differs)

/-- After the last data access: read-back of what wrote, then STATUS. -/
def DmaChan.afterData (x : DmaChan) (ended : Bool) : DmaChan :=
  if !ended then x else { x with stage := if x.desc.compares then .status else .readback }

/-- A fetched descriptor passed its checks: the channel waits for its trigger or runs (R411). -/
def Part.dmaStart (m : Part) (n : Nat) : Part :=
  let d := (m.dmaChan n).desc
  let m := (m.setDma n { m.dmaChan n with stage := .data, fetched := true }).put F.DMA_CREM_REM n d.len
  if d.waitTrg && m.get F.DMA_CCFG_TSRC n != 0 then
    if m.is F.DMA_CSTAT_TRGPEND n then (m.put F.DMA_CSTAT_TRGPEND n 0).putDmaState n dmaRun else m.putDmaState n dmaWait
  else m.putDmaState n dmaRun

/-! ## Arbitration (R418, R419) -/

/-- The channel could issue a beat. -/
def Part.dmaReady (m : Part) (n : Nat) : Bool :=
  (m.dmaState n = dmaFetch || m.dmaState n = dmaRun) && ((m.dmaChan n).draining ||
    (match (m.dmaChan n).spacedTill with | none => true | some t => decide (t ≤ m.tb.ticks)))

def Part.dmaHigh (m : Part) (n : Nat) : Bool := m.is F.DMA_CCFG_HP n || (m.dmaChan n).promoted

/-- The next of some channels in round-robin order after `last`. -/
def roundRobin (last : Nat) (l : List Nat) : Option Nat :=
  match l.filter (fun n => decide (last < n)) with
  | n :: _ => some n
  | [] => l.head?

/-- The channel that issues the next beat: draining channels first, then the higher level, within a level the burst in
progress and then round robin. -/
def Part.dmaNext (m : Part) : Option Nat :=
  let ready := allChannels.filter (fun n => m.dmaReady n)
  let pick := fun (last : Nat) (l : List Nat) => match l.find? (fun n => (m.dmaChan n).burst.isSome) with
    | some n => some n
    | none => roundRobin last l
  match ready.filter (fun n => (m.dmaChan n).draining) with
  | n :: _ => some n
  | [] => match ready.filter (fun n => m.dmaHigh n) with
    | [] => pick m.dma.lastLow ready
    | l => pick m.dma.lastHigh l

/-- A channel is granted: another channel's burst ends, and a new burst begins where none is in progress. -/
def Part.dmaGrant (m : Part) (n : Nat) : Part :=
  let high := m.dmaHigh n
  let m := m.each (allChannels.filter (fun k => k ≠ n && (m.dmaChan k).burst.isSome)) (fun k m => m.endBurst k)
  let x := m.dmaChan n
  let m := if x.burst.isSome then m.setDma n { x with lastAt := m.tb.ticks }
    else m.setDma n { x with burst := some (m.get F.DMA_CCFG_BURST n), burstAt := m.tb.ticks, lastAt := m.tb.ticks, watched := 0 }
  if high then { m with dma := { m.dma with lastHigh := n } } else { m with dma := { m.dma with lastLow := n } }

/-- Waiting channels of the lower level watch a beat of another channel (R419). -/
def Part.dmaWatch (m : Part) (n : Nat) : Part :=
  m.each (allChannels.filter (fun k => k ≠ n && m.dmaReady k && !m.dmaHigh k)) (fun k m =>
    m.setDma k { m.dmaChan k with watched := min 256 ((m.dmaChan k).watched + 1) })

/-- The beat is over: the burst goes on or ends. -/
def Part.dmaBeatOver (m : Part) (n : Nat) : Part :=
  match (m.dmaChan n).burst with
  | none => m
  | some 0 => m.endBurst n
  | some (k + 1) => if m.dmaReady n then m.setDma n { m.dmaChan n with burst := some k } else m.endBurst n

/-! ## The next beat (R410, R414, R422) -/

/-- What a beat accesses: address and size, and whether it writes. -/
inductive BeatKind where
  | read (a n : Nat) | write (a n : Nat) (d : List Byte) | compare (a n : Nat) | none
deriving DecidableEq, Repr

/-- A write of a draining channel: as many funnel bytes as one access can take (R422). -/
def DmaChan.flushNext (x : DmaChan) : Nat × Nat :=
  let a := x.dstNext.1
  (a, if x.desc.dmode = 1 then x.desc.dsize else widest a (min x.funnel.length (x.desc.len - x.dstDone)))

/-- The next data access of a channel; a write that can be issued goes before a read (R414). -/
def DmaChan.dataBeat (x : DmaChan) : BeatKind :=
  let d := x.desc
  let w := if x.draining then x.flushNext else x.dstNext
  let r := x.srcNext
  if d.op = 1 then .write w.1 w.2 (d.patternAt w.1 w.2)
  else if d.op = 3 then .compare w.1 w.2
  else if decide (x.dstDone < d.len) && decide (w.2 ≤ x.funnel.length) then
    (if d.op = 0 then .write w.1 w.2 (x.funnel.take w.2) else .compare w.1 w.2)
  else if x.draining then .none
  else .read r.1 r.2

/-- The beat a channel issues next. -/
def Part.beatOf (m : Part) (n : Nat) : BeatKind :=
  let x := m.dmaChan n
  let own := m.get F.DMA_CDESC_DESC n
  match x.stage with
  | .fetch => .read (own + 8 * x.words.length) 8
  | .data => x.dataBeat
  | .readback => .read x.lastAddr x.lastSize
  | .status => .write (own + 0x1C) 4 (lowBytes (statusWordOf (if x.differs then 2 else 1) x.dstDone) 4)

/-! ## Draining (R421 to R424) -/

/-- Byte ranges meet. -/
def rangesMeet (a n b k : Nat) : Bool := meets a n b k

/-- Byte range of a power domain's memory. -/
def domainBase (d : Nat) : Nat := 0x13040000 + (d - 3) * 0x40000

/-- A side's range lies at least partly in the domain. -/
def sideTouches (mode size wrap start len base : Nat) : Bool :=
  match mode with
  | 0 => rangesMeet start len base 0x40000
  | 1 => rangesMeet start size base 0x40000
  | _ => rangesMeet (start / 2 ^ wrap * 2 ^ wrap) (2 ^ wrap) base 0x40000

/-- The channel touches memory domain `d` (R421). -/
def Part.touching (m : Part) (d n : Nat) : Bool :=
  let x := m.dmaChan n
  let k := x.desc
  let base := domainBase d
  let own := m.get F.DMA_CDESC_DESC n
  3 ≤ d && d ≤ 5 && m.dmaActive n &&
    (rangesMeet own 32 base 0x40000 ||
      (x.fetched && ((k.usesSrc && sideTouches k.smode k.ssize k.swrap k.src k.len base) ||
        sideTouches k.dmode k.dsize k.dwrap k.dst k.len base || (k.next != 0 && rangesMeet k.next 32 base 0x40000))))

/-- The channel parks with its position saved (R422). -/
def Part.dmaPark (m : Part) (n : Nat) : Part :=
  let x := m.dmaChan n
  let m := m.setDma n { x with before := m.dmaState n, draining := false, burst := none, promoted := false }
  m.putDmaState n dmaParked

/-- A drain request reaches one touching channel: bytes in its funnel are written first (R422). -/
def Part.dmaDrain (m : Part) (n : Nat) : Part :=
  let x := m.dmaChan n
  if m.dmaState n = dmaParked then m
  else if m.dmaState n = dmaRun && x.stage = .data && x.desc.op = 0 && !x.funnel.isEmpty then m.setDma n { x with draining := true }
  else m.dmaPark n

def Part.drainRequest (m : Part) (d : Nat) : Part := m.each (allChannels.filter (fun n => m.touching d n)) (fun n m => m.dmaDrain n)

/-- Every touching channel is parked (R422). -/
def Part.quiescent (m : Part) (d : Nat) : Bool := allChannels.all (fun n => !m.touching d n || m.dmaState n = dmaParked)

/-- A memory domain that is off, or being drained, is in the way of the channel. -/
def Part.dmaBarred (m : Part) (n : Nat) : Bool :=
  ([3, 4, 5] : List Nat).any (fun d => (m.domainOff d || m.sys.drains.contains d) && m.touching d n)

/-- The next beat of a channel would access a memory domain that is off, or the domain is being drained (R422). -/
def Part.dmaBlocked (m : Part) (n : Nat) : Bool :=
  let r := match m.beatOf n with
    | .read a k => (a, k)
    | .write a k _ => (a, k)
    | .compare a k => (a, k)
    | .none => (0, 0)
  ([3, 4, 5] : List Nat).any (fun d =>
    (m.domainOff d && rangesMeet r.1 r.2 (domainBase d) 0x40000) || (m.sys.drains.contains d && m.touching d n))

/-- Parked channels that nothing bars any more resume; one parked in WAITTRG takes a trigger latched meanwhile. -/
def Part.dmaResume (m : Part) : Part :=
  m.each (allChannels.filter (fun n => m.dmaState n = dmaParked && !m.dmaBarred n)) (fun n m =>
    let st := (m.dmaChan n).before
    if st = dmaWait && m.is F.DMA_CSTAT_TRGPEND n then (m.put F.DMA_CSTAT_TRGPEND n 0).putDmaState n dmaRun
    else m.putDmaState n st)

/-- The drain has not ended 100 µs after the request: channels not parked fail with CODE 5 (R423). -/
def State.drainTimeout (s : State) (d : Nat) : State :=
  if !s.part.sys.drains.contains d then s
  else
    let l := allChannels.filter (fun n => s.part.touching d n && s.part.dmaState n != dmaParked)
    let s := l.foldl (fun (s : State) n => s.dmaFail n 5 (s.part.get F.DMA_CDESC_DESC n)) s
    if l.isEmpty then s else s.lift (fun m => { m with sys := { m.sys with forced := d :: m.sys.forced } })

/-! ## The outcome of a beat (R410, R415, R416) -/

/-- A read beat has given its data. -/
def State.beatRead (s : State) (n size data : Nat) : State :=
  let x := s.part.dmaChan n
  match x.stage with
  | .fetch =>
    let w := x.words ++ [data]
    if w.length < 4 then s.lift (fun m => m.setDma n { x with words := w, retries := 0 })
    else
      let d := descOf w
      let s := s.lift (fun m => m.setDma n { x with words := w, desc := d, retries := 0, fetched := true })
      if d.bad then s.dmaFail n 4 (s.part.get F.DMA_CDESC_DESC n) else s.lift (fun m => m.dmaStart n)
  | .readback => s.lift (fun m => m.setDma n { x with stage := .status, retries := 0 })
  | _ => s.lift (fun m => m.setDma n { x with funnel := x.funnel ++ lowBytes data size, srcDone := x.srcDone + size, retries := 0 })

/-- A write beat has completed. -/
def State.beatWritten (s : State) (n a size : Nat) : State :=
  let x := s.part.dmaChan n
  match x.stage with
  | .status => s.lift (fun m => (m.setDma n { x with retries := 0 }).dmaCompletes n)
  | _ =>
    let done := x.dstDone + size
    let y : DmaChan := { x with dstDone := done, funnel := x.funnel.drop (if x.desc.op = 0 then size else 0), lastAddr := a, lastSize := size, retries := 0 }
    s.lift (fun m => (m.setDma n (y.afterData (decide (x.desc.len ≤ done)))).put F.DMA_CREM_REM n (x.desc.len - done))

/-- Positions at which two lists of bytes differ. -/
def diffPlaces (p q : List Byte) : List Nat := (List.range (min p.length q.length)).filter (fun i => p.getD i 0 != q.getD i 0)

/-- The destination bytes of a compare have been read (R415). -/
def State.beatCompared (s : State) (n a size data : Nat) : State :=
  let x := s.part.dmaChan n
  let want := if x.desc.op = 2 then x.funnel.take size else x.desc.patternAt a size
  let l := diffPlaces want (lowBytes data size)
  let done := x.dstDone + size
  let bad := !l.isEmpty
  let y : DmaChan := { x with dstDone := done, funnel := if x.desc.op = 2 then x.funnel.drop size else [], differs := x.differs || bad,
                              missed := x.missed || bad, retries := 0 }
  let stop := decide (x.desc.len ≤ done) || (bad && x.desc.stopMis)
  s.lift (fun m =>
    let m := (m.setDma n (y.afterData stop)).put F.DMA_CREM_REM n (x.desc.len - done)
    let m := m.put F.DMA_CMISC_COUNT n (min (2 ^ 24 - 1) (m.get F.DMA_CMISC_COUNT n + l.length))
    if bad then
      let m := m.put F.DMA_CSTAT_MIS n 1
      if x.missed then m else m.put F.DMA_CMISA_ADDR n (a + l.headD 0)
    else m)

/-- A beat ended in a bus error: it is issued again, or the channel fails (R416). -/
def State.beatFailed (s : State) (n a : Nat) : State :=
  let x := s.part.dmaChan n
  if x.retries < s.part.get F.DMA_CCFG_RETRY n then s.lift (fun m => m.setDma n { x with retries := x.retries + 1 })
  else s.dmaFail n 3 a

/-- Carry out one beat, with the fabric's read and write. -/
def State.runBeat (s : State) (rd : State → Nat → Nat → Access) (wr : State → Nat → Nat → Nat → Access) (n : Nat) : State :=
  match s.part.beatOf n with
  | .none => s.lift (fun m => m.dmaPark n)
  | .read a size =>
    let x := rd s a size
    if x.err then x.post.beatFailed n a else x.post.beatRead n size x.data
  | .compare a size =>
    let x := rd s a size
    if x.err then x.post.beatFailed n a else x.post.beatCompared n a size x.data
  | .write a size d =>
    let x := wr s a size (fromBytes d)
    if x.err then x.post.beatFailed n a else x.post.beatWritten n a size

/-- A draining channel whose funnel is empty parks. -/
def Part.drained (m : Part) (n : Nat) : Part :=
  let x := m.dmaChan n
  if x.draining && (x.funnel.isEmpty || x.stage != .data) then m.dmaPark n else m

/-- DMA_BEAT: the channel that arbitration grants issues one beat; another does nothing. A channel that would access a domain
that is off parks first (R422). -/
def State.dmaBeat (s : State) (rd : State → Nat → Nat → Access) (wr : State → Nat → Nat → Nat → Access) (n : Nat) : State :=
  if s.part.dmaNext ≠ some n then s
  else if s.part.dmaBlocked n && !(s.part.dmaChan n).draining then s.lift (fun m => m.dmaPark n)
  else
    let s := s.lift (fun m => (m.dmaGrant n).dmaWatch n)
    (s.runBeat rd wr n).lift (fun m => (m.dmaBeatOver n).drained n)

/-- DMA_PROMOTION (R419). -/
def Part.dmaPromote (m : Part) (n : Nat) : Part :=
  let x := m.dmaChan n
  if m.dmaReady n && !m.dmaHigh n && decide (256 ≤ x.watched) then m.setDma n { x with promoted := true, watched := 0 } else m

/-! ## Registers (R426) -/

/-- TSEL fits TSRC (R411). -/
def tselLegal (src sel : Nat) : Bool :=
  match src with
  | 0 => sel = 0
  | 1 => sel = 0
  | 2 => true
  | 3 => sel < 16
  | 4 => sel < 32
  | 5 => sel < 64
  | _ => false

/-- A write of DMA_CCMDn (R409, R411, R417). -/
def State.writeCcmd (s : State) (i : Initiator) (n : Nat) (v : Word) : State :=
  let m := s.part
  let go := fieldOf v F.DMA_CCMD_GO = 1
  let ab := fieldOf v F.DMA_CCMD_ABORT = 1
  if go && (ab || m.dmaActive n || !m.is F.DMA_CTRL_EN 0) then
    s.lift (fun m => m.refuse F.DMA_STAT_REFUSED i (R.DMA_CCMD.addr n) v)
  else
    let s := if go then s.lift (fun m => m.dmaGo n (32 * fieldOf v F.DMA_CCMD_ADDR)) else if ab then s.dmaAbort n else s
    if fieldOf v F.DMA_CCMD_SWTRG = 1 then s.lift (fun m => m.dmaLatch n) else s

/-- A fabric write to a register of the DMA block. -/
def State.writeDMA (s : State) (i : Initiator) (a : Nat) (v : Word) : State :=
  let no := s.lift (fun m => m.refuse F.DMA_STAT_REFUSED i a v)
  if a = R.DMA_CTRL.base then
    if fieldOf v F.DMA_CTRL_EN = 0 && allChannels.any (fun n => s.part.dmaActive n) then no else s.lift (fun m => m.plainWrite a v)
  else if R.DMA_CCFG.covers a then
    let n := R.DMA_CCFG.inst a
    if s.part.dmaActive n || !tselLegal (fieldOf v F.DMA_CCFG_TSRC) (fieldOf v F.DMA_CCFG_TSEL) then no else s.lift (fun m => m.plainWrite a v)
  else if R.DMA_CCMD.covers a then s.writeCcmd i (R.DMA_CCMD.inst a) v
  else s.lift (fun m => m.plainWrite a v)

/-! ## The rows that need no fabric -/

def execDmaStart (i : Initiator) (n : Fin 32) (v : Word) (s : State) : Out := .next (s.writeCcmd i n (v ||| 1))
def execDmaAbort (i : Initiator) (n : Fin 32) (v : Word) (s : State) : Out := .next (s.writeCcmd i n (v ||| 2))
def execDmaSwtrg (i : Initiator) (n : Fin 32) (v : Word) (s : State) : Out := .next (s.writeCcmd i n (v ||| 4))
def execDmaPromotion (n : Fin 32) (s : State) : Out := .next (s.lift (fun m => m.dmaPromote n))
def execDmaSpacingEnd (n : Fin 32) (s : State) : Out :=
  .next (s.lift (fun m => m.setDma n { m.dmaChan n with spacedTill := none }))
def execDrainTimeout (d : Fin 16) (s : State) : Out := .next (s.drainTimeout d)

end Sys2Proof.Machine
end

