-- ==== Sys2Proof/Machine/Power.lean ====
section
/-! DEFINITION. Supplies, power domains, standby, resets, GPIO, self-test and the SYS and GPIO registers (R450 to R461,
R470 to R472, R480, R481). -/
namespace Sys2Proof.Machine

def Part.setSys (m : Part) (x : Sys) : Part := { m with sys := x }

/-! ## Boot source (R461, R465 step 3) -/

/-- The boot ROM waits for a host image: the PMBus target port is enabled with the reset BASE (R467). -/
def Part.waitHost (m : Part) : Part :=
  ((m.put F.SYS_BOOT_STATE 0 5).put F.PMB_CTRL_EN 0 1).put F.PMB_CFG_BASE 0 8

/-- The strap chooses the source (R461). -/
def Part.chooseSource (m : Part) : Part :=
  if m.get F.SYS_BOOT_STRAP 0 = 1 then m.waitHost else (m.put F.SYS_BOOT_STATE 0 1).put F.SYS_BOOT_SRC 0 0

/-! ## Cold reset (R10, R450, R458) -/

/-- Every field at its reset value, with the cause of the reset. The world's side of the part remains: errors in the NVM
array, the TAP, what is still free, and VIOP's class, which a reset by the pin keeps (R484). -/
def Part.coldPart (m : Part) (cause : Nat) : Part :=
  ({ free := m.free, tap := m.tap, nvm := { errs := m.nvm.errs },
     sys := { inReset := true, straps := m.sys.straps, por := m.sys.por, low := m.sys.low, viop33 := m.sys.viop33 } } : Part).cause cause

/-- Cold reset: of the memories only the NVM array keeps its contents; the others read 0 (log entry 1, R323). -/
def State.coldReset (s : State) (cause : Nat) : State :=
  { s with mem := s.mem.filter (fun c => decide (0x20000000 ≤ c.1) && decide (c.1 < 0x20040000)), part := s.part.coldPart cause }

/-- Warning and reset levels of a supply in mV (R485), VIOP's by its class. -/
def warnLevel (viop33 : Bool) : Nat → Nat
  | 0 => 700
  | 1 => 850
  | 2 => 1700
  | 3 => 1700
  | 4 => if viop33 then 3050 else 1660
  | 5 => 1660
  | _ => 3050

def resetLevel (viop33 : Bool) : Nat → Nat
  | 0 => 660
  | 1 => 800
  | 2 => 1620
  | 3 => 1620
  | 4 => if viop33 then 2800 else 1550
  | 5 => 1550
  | _ => 2800

/-- A power-on reset. Which supplies fell is not said: they are free, one of them at least (R10, R450, R458, log entry 126). -/
def State.powerOnReset (s : State) : State :=
  let w := s.part.freeWord
  let low := (List.range 7).filter (fun k => decide (k = w.1.toNat / 128 % 7) || w.1.getLsbD k)
  ({ s with part := w.2 }.coldReset 0).lift (fun m => m.setSys { m.sys with por := true, low := low })

/-- The hysteresis in mV that the rise of a supply which is down has to overcome (R485). -/
def Part.riseOf (m : Part) (k : Nat) : Nat := if m.sys.low.contains k then 20 else 0

/-- Supplies that lie below their reset levels. In a power-on reset VIOP has no class yet, and the lower level counts (R450, R484, R485,
log entry 126). -/
def Part.suppliesLow (m : Part) (volts : List Nat) : List Nat :=
  (List.range 7).filter (fun k => decide (volts.getD k 0 < resetLevel (m.sys.viop33 && !m.sys.por) k + m.riseOf k))

/-- SYS_SUPST.OK: the supplies above their warning levels (R485). -/
def Part.suppliesOk (m : Part) (viop33 : Bool) (volts : List Nat) : Nat :=
  ((List.range 7).map (fun k => if warnLevel viop33 k + m.riseOf k ≤ volts.getD k 0 then 2 ^ k else 0)).sum

/-- The reset ends once every supply is above its reset level: the straps are sampled, recall begins, and after a power-on reset VIOP's
class is taken from its level. Until then the part stays in reset (R332, R450, R461, R465, R484, R485). -/
def Part.resetRelease (m : Part) (strap : Nat) (pins : ReleasePins) : Part :=
  let low := m.suppliesLow pins.volts
  if !m.sys.inReset then m
  else if !low.isEmpty then m.setSys { m.sys with low := low }
  else
    let class33 := if m.sys.por then decide (2500 < pins.volts.getD 4 0) else m.sys.viop33
    let ok := m.suppliesOk class33 pins.volts
    let m := (m.setSys { m.sys with inReset := false, straps := pins.pmb, por := false, low := [], viop33 := class33 }).put
      F.SYS_BOOT_STRAP 0 strap
    let m := m.put F.SYS_SUPST_OK 0 ok
    m.setPmb { m.pmb with address := 8 * m.get F.PMB_CFG_BASE 0 + pins.pmb }

/-! ## Warm reset (R10, R458, R323, R326, R397, R399, R441) -/

/-- Registers that a warm reset keeps whole. -/
def Part.warmKeeps (m : Part) (a : Nat) : Bool :=
  a = R.SYS_RSTCAUSE.base || R.SYS_CSTART.covers a || a = R.NVM_PROT.base || a = R.GRN_HEAD.base || a = R.GRN_TAIL.base ||
    (R.TMR_WDCFG.covers a && m.is F.TMR_WDCFG_LOCK (R.TMR_WDCFG.inst a))

/-- Increments gathered since the last commit stay gathered. -/
def Part.foldedLife (m : Part) : Store Nat :=
  ([0, 1, 2] : List Nat).foldl (fun l fam =>
    (List.range (counterCount fam)).foldl (fun l i => l.set 0 (256 * fam + i) (m.gathered fam i)) l) []

/-- What a warm reset keeps beside register fields. -/
def Part.warmBase (m : Part) : Part :=
  { regs := m.regs.filter (fun q => m.warmKeeps q.1)
    tb := { ticks := m.tb.ticks }
    free := m.free
    bus := m.bus
    grn := { m.grn with swd := [] }
    life := m.foldedLife
    pmb := { address := 64 + m.sys.straps }
    nvm := { m.nvm with rwr := none, scrubbed := 0, energyAt := [], swTaken := [] }
    sys := { straps := m.sys.straps, failing := m.sys.failing, viop33 := m.sys.viop33 }
    ydp := m.ydp
    tap := m.tap }

/-- Fields kept within registers that are loaded otherwise. -/
def Part.warmFields (m old : Part) : Part :=
  let m := m.put F.SYS_BOOT_STRAP 0 (old.get F.SYS_BOOT_STRAP 0)
  let m := (m.put F.YDP_CTRL_DIS 0 (old.get F.YDP_CTRL_DIS 0)).put F.YDP_CTRL_LOCK 0 (old.get F.YDP_CTRL_LOCK 0)
  let m := m.put F.SYS_SUPST_OK 0 (old.get F.SYS_SUPST_OK 0)
  (m.put F.NVM_STAT_RECALL 0 (old.get F.NVM_STAT_RECALL 0)).put F.NVM_STAT_READY 0 (if old.recalling then 0 else 1)

/-- SC0 starts in its boot ROM; the others are held until acceptance (R460, R465). -/
def Part.warmCores (m : Part) : Part :=
  ({ m with cores := [] }.each allCores (fun c m => m.wdRestart c)).setCoreState 0 .run

/-- Warm reset. A freeze of the ring ends first (R326); recall that still runs goes on, else the source is chosen at once. -/
def State.warmReset (s : State) : State :=
  let s := s.unfreeze
  s.lift (fun m =>
    let n := ((m.warmBase).warmFields m).warmCores
    if m.recalling then n else n.chooseSource)

/-- A write of SYS_RST (R458, R460). -/
def State.writeRst (s : State) (i : Initiator) (v : Word) : State :=
  if fieldOf v F.SYS_RST_KEY ≠ 0xC1A5 then s.lift (fun m => m.refuse F.SYS_STAT_REFUSED i R.SYS_RST.base v)
  else
    let s := s.lift (fun m => m.each (allCores.filter (fun c => fieldOf v F.SYS_RST_CORE / 2 ^ c % 2 = 1)) (fun c m => (m.cause (8 + c)).resetCore c))
    if fieldOf v F.SYS_RST_DEV = 1 then (s.lift (fun m => m.cause 2)).warmReset else s

/-! ## The supply monitor (R452) -/

/-- Power failing is declared: SUPPLY is raised unless an earlier declaration is still flagged, and a commit starts. -/
def State.declareFailing (s : State) (flag : FieldAt) : State :=
  let s := s.lift (fun m =>
    let again := m.is F.SYS_SUPST_WARN 0 || m.is F.SYS_SUPST_PFIN 0
    let m := (m.put flag 0 1).setSys { m.sys with failing := true }
    if again then m else m.raise 0x8000 63 (m.policy 0) 0)
  s.commitCounters

/-- A supply has been below its warning level, or PFAIL_N is low on a GPIO15 configured for it. -/
def State.powerFails (s : State) (supply : Option (Fin 7)) : State :=
  match supply with
  | some k => State.declareFailing (s.lift (fun m => m.putBit F.SYS_SUPST_OK 0 k false)) F.SYS_SUPST_WARN
  | none =>
    if s.part.get F.GPIO_CFG_MODE 15 = 3 && !s.part.bit F.GPIO_IN_IN 0 15 then s.declareFailing F.SYS_SUPST_PFIN else s

/-- The condition ends. -/
def Part.powerReturns (m : Part) : Part := (m.put F.SYS_SUPST_OK 0 0x7F).setSys { m.sys with failing := false }

/-! ## Power domains (R454 to R456) -/

/-- The table of R454 refuses the power-down of domain `d`. -/
def Part.downRefused (m : Part) (d : Nat) : Bool :=
  if d < 3 then m.is F.FLT_CTRL_XF 0 && m.get F.FLT_CTRL_HCORE 0 = d + 1
  else if d < 6 then false
  else if d < 8 then (List.range 8).any (fun k => m.is F.FLK_LCFG_EN (8 * (d - 6) + k))
  else if d = 15 then !m.allOff
  else (List.range 8).any (fun k => m.railState (8 * (d - 8) + k) != railOff)

def removed (l : List Nat) (d : Nat) : List Nat := l.filter (fun x => x ≠ d)

/-- A power-down is under way: the drain request (R422, R455). -/
def Part.powerDown (m : Part) (d : Nat) : Part :=
  (m.setSys { m.sys with drains := m.sys.drains ++ [d], ups := removed m.sys.ups d, forced := removed m.sys.forced d }).drainRequest d

/-- A power-up is under way. -/
def Part.powerUp (m : Part) (d : Nat) : Part :=
  m.setSys { m.sys with drains := removed m.sys.drains d, ups := removed m.sys.ups d ++ [d], forced := removed m.sys.forced d }

/-- A write of SYS_PWRREQ: the bits that change are requests (R455). A domain that is off although its bit is 0, after a
standby, powers up on a write of 0. -/
def Part.writePwrreq (m : Part) (i : Initiator) (v : Word) : Part :=
  let want := fun (d : Nat) => fieldOf v F.SYS_PWRREQ_REQ / 2 ^ d % 2 = 1
  let all := List.range 16
  let down := all.filter (fun d => decide (want d) && !m.bit F.SYS_PWRREQ_REQ 0 d)
  let up := all.filter (fun d => !decide (want d) && (m.bit F.SYS_PWRREQ_REQ 0 d || (m.domainOff d && !m.sys.ups.contains d)))
  if down.any (fun d => m.downRefused d) then m.refuse F.SYS_STAT_REFUSED i R.SYS_PWRREQ.base v
  else ((m.plainWrite R.SYS_PWRREQ.base v).each down (fun d m => m.powerDown d)).each up (fun d m => m.powerUp d)

/-- Cells outside a range. -/
def Mem.without (mem : Mem) (a n : Nat) : Mem := mem.filter (fun c => decide (c.1 < a) || decide (a + n ≤ c.1))

/-- A domain loses power: a core goes OFF and its semaphores are freed, a bank loses its contents and reads 0 from then on, the results
of a slice group carry VALID = 0 (R404, R456). -/
def State.domainDown (s : State) (d : Nat) : State :=
  let s := s.lift (fun m => m.putBit F.SYS_PWRST_OFF 0 d true)
  if d < 3 then
    s.lift (fun m => ((m.setCore (d + 1) { m.core (d + 1) with wdLeft := m.wdLeft (d + 1), wdAt := m.tb.ticks, st := .off }).freeSemsOf (d + 1)).icuLook)
  else if d < 6 then { s with mem := Mem.without s.mem (domainBase d) 0x40000 }
  else if d < 8 then s
  else s.lift (fun m => m.each (List.range 8) (fun j m => m.resultsInvalid (8 * (d - 8) + j)))

/-- DOMAIN_OFF: quiescence, or the limit of R423, is reached (R455). -/
def State.domainOffNow (s : State) (d : Nat) : State :=
  let m := s.part
  let forced := m.sys.forced.contains d
  if !m.sys.drains.contains d || !(m.quiescent d || forced) then s
  else
    let s := State.domainDown (s.lift (fun m => m.setSys { m.sys with drains := removed m.sys.drains d, forced := removed m.sys.forced d })) d
    s.lift (fun m => (if forced then m.put F.SYS_PWRST_FORCED 0 1 else m).put F.SYS_PWRST_DONE 0 1)

/-- Slices of a group restart (R274, R456). -/
def Part.restartGroup (m : Part) (k : Nat) : Part :=
  m.each (List.range 8) (fun j m => if m.inHandover (8 * k + j) then m.restartHandover (8 * k + j) else m.restartPoint (8 * k + j))

/-- DOMAIN_UP: the domain is usable again (R422, R455, R456, R460). -/
def Part.domainUp (m : Part) (d : Nat) : Part :=
  if !m.sys.ups.contains d then m
  else
    let was := m.domainOff d
    let m := (m.setSys { m.sys with ups := removed m.sys.ups d }).putBit F.SYS_PWRST_OFF 0 d false
    let m := if was && d < 3 then m.resetCore (d + 1) else if was && 8 ≤ d then m.restartGroup (d - 8) else m
    (m.dmaResume).put F.SYS_PWRST_DONE 0 1

/-! ## Standby (R457) -/

/-- The conditions of a standby. -/
def Part.standbyAllowed (m : Part) : Bool :=
  m.allOff && m.flintDisabled && allChannels.all (fun n => !m.dmaActive n) && ([0, 1, 2] : List Nat).all (fun d => m.domainOff d)

/-- Standby begins: every domain is off, the clocked islands stop, and SC0 in WAIT enters retention. -/
def State.enterStandby (s : State) : State :=
  let s := (List.range 16).foldl (fun (s : State) d => if s.part.domainOff d then s else s.domainDown d) s
  s.lift (fun m =>
    let m := (m.put F.SYS_STBY_GO 0 1).setSys { m.sys with standby := true, drains := [], ups := [], forced := [] }
    if (m.core 0).st = .wait then m.setCoreState 0 .retention else m)

/-- A write of SYS_STBY. -/
def State.writeStby (s : State) (i : Initiator) (v : Word) : State :=
  let go : Bool := fieldOf v F.SYS_STBY_GO = 1 && !s.part.is F.SYS_STBY_GO 0
  if go && !s.part.standbyAllowed then s.lift (fun m => m.refuse F.SYS_STAT_REFUSED i R.SYS_STBY.base v)
  else
    let s := s.lift (fun m => m.plainWrite R.SYS_STBY.base v)
    if go then s.enterStandby else s

/-- A wake: the timebase relocks under the conditions of R156, WOKE is set and SC0 wakes. -/
def Part.wake (m : Part) : Part :=
  if !m.sys.standby then m
  else
    let m := (m.setSys { m.sys with standby := false }).put F.SYS_STBY_GO 0 0
    let m := { m with tb := { m.tb with relocking := true } }.put F.TB_STAT_PLLLOCK 0 0
    let m := (m.setCause causeTbLoss true).put F.SYS_STBY_WOKE 0 1
    let m := m.setPending 7 true
    let m := if (m.core 0).st = .retention || (m.core 0).st = .wait then m.setCoreState 0 .run else m
    m.icuLook

/-! ## Retention (R268) -/

def Part.coreRetains (m : Part) (c : Nat) : Part :=
  if m.get F.CLV_SLP_CORE_T 0 != 0 && (m.core c).st = .wait then m.setCoreState c .retention else m

/-- First address of a retention bank. -/
def retentionBase (b : Nat) : Nat := if b < 16 then 0x10000000 + 0x10000 * b else 0x13040000 + 0x10000 * (b - 16)

def Part.bankRetains (m : Part) (b : Nat) : Part :=
  if m.get F.CLV_SLP_MEM_T 0 != 0 && !m.sys.asleep.contains b && !m.bankOff (retentionBase b) then
    m.setSys { m.sys with asleep := m.sys.asleep ++ [b] }
  else m

/-! ## GPIO (R470, R471) -/

/-- EDGE selects this edge. -/
def edgeSelected (sel : Nat) (level : Bool) : Bool := if level then sel % 2 = 1 else sel / 2 % 2 = 1

/-- A filtered level changes. A flag whose IE is 1 ends a standby (R457). -/
def Part.gpioEdge (m : Part) (n : Nat) (level : Bool) : Part :=
  if m.bit F.GPIO_IN_IN 0 n = level then m
  else
    let m := m.putBit F.GPIO_IN_IN 0 n level
    if edgeSelected (m.get F.GPIO_CFG_EDGE n) level then
      let m := m.putBit F.GPIO_FLAG_FLAG 0 n true
      if m.is F.GPIO_CFG_IE n then m.wake else m
    else m

/-- A pulse-density window ends: `high` counts each pin's high samples. -/
def Part.pulseWindow (m : Part) (samples : Nat) (high : List Nat) : Part :=
  if samples = 0 then m
  else m.each (List.range 16) (fun n m =>
    (m.put F.GPIO_PD_PD n (min 0xFFFF (65536 * high.getD n 0 / samples))).put F.GPIO_PD_VALID n 1)

/-- A fabric write to a register of the GPIO block. -/
def Part.writeGPIO (m : Part) (i : Initiator) (a : Nat) (v : Word) : Part :=
  let bad := (R.GPIO_CFG.covers a && (fieldOf v F.GPIO_CFG_PULL = 3 || (fieldOf v F.GPIO_CFG_MODE = 3 && R.GPIO_CFG.inst a != 15))) ||
    (a = R.GPIO_PDW.base && fieldOf v F.GPIO_PDW_W = 0)
  if bad then m.refuse F.GPIO_FLAG_REFUSED i a v
  else
    let m := m.plainWrite a v
    if a = R.GPIO_PDW.base then m.each (List.range 16) (fun n m => m.put F.GPIO_PD_VALID n 0) else m

/-! ## Self-test (R480) -/

/-- Base and size of the region that REG names. -/
def testRegion : Nat → Nat × Nat
  | 0 => (0x11000000, 0x100000)
  | 1 => (0x12000000, 0x30000)
  | 2 => (0x12040000, 0x40000)
  | 3 => (0x12080000, 0x40000)
  | 4 => (0x120C0000, 0x40000)
  | _ => (0x13040000, 0xC0000)

/-- The region's contents are destroyed: every byte is free. -/
def State.destroy (s : State) (g : Nat) : State :=
  let x := testRegion g
  let n := s.part.free
  { s with mem := Mem.writeBytes s.mem x.1 ((List.range x.2).map (fun k => Config.testedByte n k)), part := { s.part with free := n + 1 } }

/-- Steps of the test. -/
def Part.testSteps (m : Part) (t g : Nat) : Nat := if t = 1 then (testRegion g).2 / 1024 else m.lanesIn.length

/-- Conditions of a start. -/
def Part.testAllowed (m : Part) : Bool :=
  m.allOff && !m.is F.BSL_CTRL_EN 0 && !m.is F.SAF_CTRL_EN 0 && allChannels.all (fun n => !m.dmaActive n)

/-- A write of SYS_TEST. -/
def State.writeTest (s : State) (i : Initiator) (v : Word) : State :=
  let t := fieldOf v F.SYS_TEST_TEST
  let g := fieldOf v F.SYS_TEST_REG
  let starts : Bool := fieldOf v F.SYS_TEST_GO = 1 && s.part.sys.testing.isNone
  if 5 < g || t = 0 || t = 3 || (starts && !s.part.testAllowed) then s.lift (fun m => m.refuse F.SYS_STAT_REFUSED i R.SYS_TEST.base v)
  else
    let s := s.lift (fun m => m.plainWrite R.SYS_TEST.base v)
    if !starts then s
    else
      let s := s.lift (fun m => (m.setSys { m.sys with testing := some (t, g), steps := 0 }).setProg R.SYS_PROG_TEST 0 0 1)
      if t = 1 then s.destroy g else s

/-- Lanes that failed their step are retired for error (R112). -/
def Part.retireFailed (m : Part) (fails : List Nat) : Part :=
  m.each (fails.filterMap (fun k => m.lanesIn[k]?)) (fun l m => m.retireLane l true)

/-- While a self-test runs PROG counts the steps completed; the last one ends with the test (R39, R40; its pace is a DESIGN CHOICE, log
entry 124). -/
def Part.testTick (m : Part) : Part :=
  match m.sys.testing with
  | none => m
  | some (t, g) =>
    let k := m.sys.steps + 1
    if k < m.testSteps t g then (m.setSys { m.sys with steps := k }).setProg R.SYS_PROG_TEST k k (m.testSteps t g) else m

/-- SELF_TEST_DONE: `fails` are the steps that failed; PROG of a test that fails keeps its value (R41). -/
def State.testDone (s : State) (fails : List Nat) : State :=
  match s.part.sys.testing with
  | none => s
  | some (t, g) =>
    let n := s.part.testSteps t g
    let bad := fails.filter (fun k => decide (k < n))
    let s := if t = 1 then s.destroy g else s
    s.lift (fun m =>
      let m := (m.setSys { m.sys with testing := none }).put F.SYS_TEST_GO 0 0
      let m := match bad with
        | [] => (m.put F.SYS_TEST_RESULT 0 1).setProg R.SYS_PROG_TEST (n - 1) 1 1
        | k :: l =>
          let first := l.foldl min k
          (m.put F.SYS_TEST_RESULT 0 2).put F.SYS_TEST_FSTEP 0 first
      let m := m.event (codeOf 0 3) 0 (m.get F.SYS_TEST_RESULT 0) (m.get F.SYS_PROG_TEST_ITEM 0)
      if t = 2 then m.retireFailed bad else m)

/-! ## Host loads (R467) and the SYS registers (R481) -/

/-- A load of a host image of this length begins; 1 is the host SPI port, 2 PMBus. -/
def Part.hostLoad (m : Part) (len src : Nat) : Part :=
  ((m.put F.SYS_BOOT_STATE 0 1).put F.SYS_BOOT_SRC 0 src).setSys { m.sys with imageLen := len, loading := false }

/-- A write of SYS_BOOTGO. -/
def Part.writeBootgo (m : Part) (i : Initiator) (v : Word) : Part :=
  if m.get F.SYS_BOOT_STATE 0 = 5 then m.hostLoad (fieldOf v F.SYS_BOOTGO_LEN) 1 else m.refuse F.SYS_STAT_REFUSED i R.SYS_BOOTGO.base v

/-- A fabric write to a register of the SYS block. -/
def State.writeSYS (s : State) (i : Initiator) (a : Nat) (v : Word) : State :=
  if a = R.SYS_RST.base then s.writeRst i v
  else if a = R.SYS_RSTCAUSE.base then s.lift (fun m => m.clearBits F.SYS_RSTCAUSE_CAUSE 0 (fieldOf v F.SYS_RSTCAUSE_CAUSE))
  else if a = R.SYS_BOOT.base then s
  else if a = R.SYS_BOOTGO.base then s.lift (fun m => m.writeBootgo i v)
  else if a = R.SYS_PWRREQ.base then s.lift (fun m => m.writePwrreq i v)
  else if a = R.SYS_STBY.base then s.writeStby i v
  else if a = R.SYS_TEST.base then s.writeTest i v
  else s.lift (fun m => m.plainWrite a v)

/-! ## Debug port registers (R478) -/

/-- A fabric write to a register of the YDP block: breakpoints by the debug port only, DIS while LOCK is 0. -/
def Part.writeYDP (m : Part) (i : Initiator) (a : Nat) (v : Word) : Part :=
  if R.YDP_BP.covers a && i != .ydp then m.refuse F.SYS_STAT_REFUSED i a v
  else if a = R.YDP_CTRL.base && m.is F.YDP_CTRL_LOCK 0 then m.plainWrite a (withBits v 0 1 (m.get F.YDP_CTRL_DIS 0))
  else m.plainWrite a v

/-- YDP_STAT as it reads: which cores are in HALT, and Basalt. -/
def Part.ydpStatWord (m : Part) : Word :=
  let halts := (allCores.filter (fun c => (m.core c).st = .halt)).foldl (fun n c => n + 2 ^ c) 0
  withBits (withBits (m.word R.YDP_STAT.base) 0 4 halts) 5 1 (if m.tb.dbgHalt then 1 else 0)

/-! ## Pins (R451, R459, R472, R177, R479) -/

/-- HIRQ_N is driven low. -/
def Part.hirqLow (m : Part) : Bool := m.get F.SYS_HIRQ_HIRQ 0 != 0

/-- PGOOD is driven high. -/
def Part.pgood (m : Part) : Bool := m.is F.SYS_CTRL_PG 0 && m.get F.SYS_BOOT_STATE 0 = 4 && !m.deviceOn

/-- SAFE_N of a lane is asserted: safe state, reset, or a boundary-scan instruction that takes the pins. -/
def Part.safeLow (m : Part) (n : Nat) : Bool := m.laneSafe n || m.sys.inReset || m.tap.ir = 0 || m.tap.ir = 3 || m.tap.ir = 4

/-- What a digital pin does: driven low, driven high, not driven, or driven by the boundary-scan chain. -/
inductive PinDrive where
  | low | high | off | scan
deriving DecidableEq, Repr

/-- The supply of a bank is below its reset level: its pins are not driven (R451, R488). VIOP is supply 4, VIO3 supply 6. A supply
counts as low until RESET_RELEASE finds it above (DESIGN CHOICE, log entry 126). -/
def Part.bankLow (m : Part) (k : Nat) : Bool := m.sys.low.contains k

def driven (high : Bool) : PinDrive := if high then .high else .low

/-- An output that lies in the boundary-scan chain, on the bank of supply `k`: what it does by itself, unless its supply is down or an
instruction of the TAP takes the pin (R451, R479, R488). -/
def Part.chained (m : Part) (k : Nat) (d : PinDrive) : PinDrive :=
  if m.bankLow k || m.tap.ir = 4 then .off else if m.tap.ir = 0 || m.tap.ir = 3 then .scan else d

/-- SAFE_N of lane `n`, asserted low (R177, R451, R479). -/
def Part.safePin (m : Part) (n : Nat) : PinDrive := if m.bankLow 4 then .off else driven (!m.safeLow n)

/-- The pin of phase `p` (R160, R177, R451, R459, R479). -/
def Part.pwmPin (m : Part) (p : Nat) : PinDrive := m.chained 4 (driven ((m.pwmAt p).pin && !m.sys.inReset))

/-- PGOOD and HIRQ_N (R459, R472). -/
def Part.pgoodPin (m : Part) : PinDrive := m.chained 6 (driven (m.pgood && !m.sys.inReset))
def Part.hirqPin (m : Part) : PinDrive := m.chained 6 (if m.sys.inReset || !m.hirqLow then .off else .low)

/-- GPIO pin `n` by its mode (R459, R470). -/
def Part.gpioPin (m : Part) (n : Nat) : PinDrive :=
  let out := m.bit F.GPIO_OUT_OUT 0 n
  m.chained 6 (if m.sys.inReset then .off
    else match m.get F.GPIO_CFG_MODE n with
      | 1 => driven out
      | 2 => if out then .off else .low
      | _ => .off)

/-- PMB_ALERT_N (R347, R459). -/
def Part.pmbAlertPin (m : Part) : PinDrive := m.chained 6 (if m.sys.inReset || !m.pmb.alert then .off else .low)

/-- LCPn_AL_N: driven low while a latch of the port is set (R380, R459). -/
def Part.lcpAlertPin (m : Part) (n : Nat) : PinDrive := m.chained 6 (if m.sys.inReset || m.get F.LCP_STAT_ALAT n = 0 then .off else .low)

/-- An output of a port rests until the port's enable is written, and in a reset; none where the port's protocol drives it (R459). -/
def Part.resting (m : Part) (k : Nat) (enabled : Bool) (rest : PinDrive) : Option PinDrive :=
  if enabled && !m.sys.inReset then none else some (m.chained k rest)

/-- LCPn_DO and AUDn_DO rest low; the lines of the two-wire ports are released; YDP_IO rests undriven; a Flint transmitter is in
electrical idle (R459). -/
def Part.lcpDoPin (m : Part) (n : Nat) : Option PinDrive := m.resting 6 (m.is F.LCP_CFG_EN n) .low
def Part.audDoPin (m : Part) (n : Nat) : Option PinDrive := m.resting 5 (m.is F.AUD_PCFG_EN n) .low
def Part.pmbBusPins (m : Part) : Option PinDrive := m.resting 6 (m.is F.PMB_CTRL_EN 0) .off
def Part.pmcBusPins (m : Part) : Option PinDrive := m.resting 6 (m.is F.PMC_CFG_EN 0) .off
def Part.ydpIoPin (m : Part) : Option PinDrive := m.resting 5 true .off
def Part.flintIdle (m : Part) (n : Nat) : Bool := m.sys.inReset || !m.is F.FLK_LCFG_EN n

/-! ## The rows -/

/-- DMA_BEAT and the rows of the fabric stand in Fabric.lean. -/
def execPowerOnReset (s : State) : Out := .next s.powerOnReset
def execResetRelease (strap : Fin 4) (addr : ReleasePins) (s : State) : Out :=
  .next (s.lift (fun m => m.resetRelease strap addr))
def execResetPin (s : State) : Out := .next (s.coldReset 1)
def execWarmReset (i : Initiator) (v : Word) (s : State) : Out := .next (s.writeRst i (withBits v 0 1 1))
def execCoreReset (i : Initiator) (v : Word) (s : State) : Out := .next (s.writeRst i (withBits v 0 1 0))
def execPowerFailing (supply : Option (Fin 7)) (s : State) : Out := .next (s.powerFails supply)
def execPowerFailingEnd (s : State) : Out := .next (s.lift Part.powerReturns)

/-- SYS_PWRREQ with one bit replaced. -/
def Part.pwrreqWith (m : Part) (d : Nat) (on : Bool) : Word := (m.putBit F.SYS_PWRREQ_REQ 0 d on).word R.SYS_PWRREQ.base

def execDomainPowerDown (i : Initiator) (d : Fin 16) (s : State) : Out := .next (s.lift (fun m => m.writePwrreq i (m.pwrreqWith d true)))
def execDomainOff (d : Fin 16) (s : State) : Out := .next (s.domainOffNow d)
def execDomainPowerUp (i : Initiator) (d : Fin 16) (s : State) : Out := .next (s.lift (fun m => m.writePwrreq i (m.pwrreqWith d false)))
def execDomainUp (d : Fin 16) (s : State) : Out := .next (s.lift (fun m => m.domainUp d))
def execStandby (i : Initiator) (s : State) : Out := .next (s.writeStby i 1)
def execStandbyWake (s : State) : Out := .next (s.lift Part.wake)

/-- PMBUS_WAKE: an address match in standby is acknowledged and wakes the device (R349, R457). -/
def execPmbusWake (s : State) : Out :=
  .next (s.lift (fun m => if m.sys.standby && m.pmbUp then (m.pmbStart.ackBytes 1).wake else m))

def execCoreRetentionEntry (c : Fin 4) (s : State) : Out := .next (s.lift (fun m => m.coreRetains c))
def execBankRetentionEntry (b : Fin 28) (s : State) : Out := .next (s.lift (fun m => m.bankRetains b))
def execGpioEdge (n : Fin 16) (level : Bool) (s : State) : Out := .next (s.lift (fun m => m.gpioEdge n level))
def execPulseDensityWindow (samples : Nat) (high : List Nat) (s : State) : Out := .next (s.lift (fun m => m.pulseWindow samples high))
def execSelfTest (i : Initiator) (v : Word) (s : State) : Out := .next (s.writeTest i (v ||| 0x80000000))
def execSelfTestDone (fails : List Nat) (s : State) : Out := .next (s.testDone fails)

end Sys2Proof.Machine
end

