-- ==== Sys2Proof/Machine/Fabric.lean ====
section
/-! DEFINITION. The fabric: reads and writes of peripheral space and of memory by an initiator, the holding copies of
64-bit values, and the rows that are fabric accesses (R4 to R11, R18 to R25). -/
namespace Sys2Proof.Machine

/-! ## 64-bit values (R11) -/

/-- Address of the high word where `a` is the low word of a pair, and of the low word where it is the high one. -/
def highOf (a : Nat) : Option Nat :=
  if R.SAF_KNOTLO.covers a || R.CLV_RELO.covers a || a = R.NVM_LCLO.base || a = R.TMR_TIMELO.base then some (a + 4) else none
def isHigh (a : Nat) : Bool := R.SAF_KNOTHI.covers a || R.CLV_REHI.covers a || a = R.NVM_LCHI.base || a = R.TMR_TIMEHI.base

/-- Key of a holding copy. -/
def holdKey (i : Initiator) (a : Nat) : Nat := initIndex i * 2 ^ 32 + a

/-! ## Reads of peripheral space -/

/-- What a register of the clock and phase blocks reads as, where it is computed. -/
def Part.readPwm (m : Part) (a : Nat) : Word :=
  if R.PWM_CNT.covers a then BitVec.ofNat 32 (m.pwmAt (R.PWM_CNT.inst a)).cnt
  else if R.PWM_STAT.covers a then
    withBits (withBits (m.word a) 18 1 (if m.aligned (R.PWM_STAT.inst a) then 1 else 0)) 24 6 (m.phRail (R.PWM_STAT.inst a))
  else if R.PWM_RPER.covers a then
    match m.leadPhase (R.PWM_RPER.inst a) with
    | some p => BitVec.ofNat 32 (m.get F.PWM_PERIOD_PERIOD p)
    | none => 0
  else m.word a

/-- The same for the ICU block. -/
def Part.readIcu (m : Part) (i : Initiator) (a : Nat) : Word :=
  if R.IC_CFG.covers a then withBits (m.word a) 12 2 (m.effTarget (R.IC_CFG.inst a))
  else if R.IC_CPEND0.covers a then m.cpendWord 0 (R.IC_CPEND0.inst a)
  else if R.IC_CPEND1.covers a then m.cpendWord 1 (R.IC_CPEND1.inst a)
  else if R.IC_CPEND2.covers a then m.cpendWord 2 (R.IC_CPEND2.inst a)
  else if R.IC_CPEND3.covers a then m.cpendWord 3 (R.IC_CPEND3.inst a)
  else if R.IC_STK.covers a then m.stackWord (R.IC_STK.inst a)
  else if a = R.IC_RPRI.base then
    match i with
    | .core c => m.stackWord c
    | _ => m.word a
  else m.word a

/-- The same for the planning, rail and budget blocks. -/
def Part.readRailBlocks (m : Part) (mem : Mem) (a : Nat) : Word :=
  if a = R.BSL_DEMAND.base then m.demandWord
  else if R.BSL_LDEM.covers a then m.laneDemandWord (R.BSL_LDEM.inst a)
  else if R.SAF_RSTAT.covers a then m.rstatWord (R.SAF_RSTAT.inst a)
  else if R.SAF_WRISE.covers a then m.wriseWord (R.SAF_WRISE.inst a)
  else if R.SAF_KNOTLO.covers a then m.knotWord (R.SAF_KNOTLO.inst a) false
  else if R.SAF_KNOTHI.covers a then m.knotWord (R.SAF_KNOTHI.inst a) true
  else if R.RAIL_ILIMF.covers a then BitVec.ofNat 32 (m.limitInForce mem (R.RAIL_ILIMF.inst a))
  else if R.RAIL_IREF.covers a then BitVec.ofInt 32 (m.irefNow mem (R.RAIL_IREF.inst a))
  else if R.RAIL_OPT.covers a then withBits (m.word a) 16 1 (if (m.railFault (R.RAIL_OPT.inst a)).laneLoss then 1 else 0)
  else m.word a

/-- The same for the PMBus block. -/
def Part.readPmb (m : Part) (a : Nat) : Word :=
  if a = R.PMB_STAT.base then m.pmbStatWord
  else if R.PMB_OP.covers a then
    withBits (m.word a) F.PMB_OP_MARGACT.lo 1 (if m.marginActive (R.PMB_OP.inst a) then 1 else 0)
  else if R.PMB_ST.covers a then
    let r := R.PMB_ST.inst a
    withBits (withBits (m.word a) F.PMB_ST_PGN.lo 1 (if m.pageNotGood r then 1 else 0)) F.PMB_ST_OFF.lo 1 (if m.pageOff r then 1 else 0)
  else m.word a

/-- The same for the timers. -/
def Part.readTmr (m : Part) (a : Nat) : Word :=
  if R.TMR_CNT.covers a then BitVec.ofNat 32 (m.timerCount (R.TMR_CNT.inst a))
  else if R.TMR_WDCNT.covers a then BitVec.ofNat 32 (m.wdLeft (R.TMR_WDCNT.inst a))
  else if a = R.TMR_TIMELO.base then BitVec.ofNat 32 m.timestamp
  else if a = R.TMR_TIMEHI.base then BitVec.ofNat 32 (m.timestamp / 2 ^ 32)
  else m.word a

/-- Other blocks. What the outside measures (the reference, the tap step, the AUD_MCLK input) is free (log entry 31). -/
def Part.readOther (m : Part) (i : Initiator) (a : Nat) : Word :=
  if a = R.TB_FREF.base || a = R.AUD_MCLKF.base then Config.freeWord m.free &&& 0xFFFFFF
  else if a = R.TB_DLL.base && m.is F.TB_STAT_DLLLOCK 0 then BitVec.ofNat 32 m.tapStep
  else if R.AUD_PSTAT.covers a then m.pstatWord (R.AUD_PSTAT.inst a)
  else if R.WMON_SUM.covers a then BitVec.ofNat 32 (m.monitorSum (R.WMON_SUM.inst a))
  else if a = R.FLT_QLEV.base then m.qlevWord
  else if a = R.FLT_NSEQ.base then m.nextSeq
  else if a = R.GRN_STAT.base then m.grnStatWord
  else if R.GRN_SWD.covers a then m.swdWord i (R.GRN_SWD.inst a)
  else if a = R.NVM_LCLO.base then m.lifetimeWord false
  else if a = R.NVM_LCHI.base then m.lifetimeWord true
  else if a = R.DMA_ACT.base then m.dmaActWord
  else if a = R.YDP_STAT.base then m.ydpStatWord
  else m.word a

/-- What a register reads as at this moment, for the initiator that reads it. -/
def Part.readNow (m : Part) (mem : Mem) (i : Initiator) (a : Nat) : Word :=
  match blockOf a with
  | 1 => m.readIcu i a
  | 4 => m.readPwm a
  | 7 => m.readRailBlocks mem a
  | 8 => m.readRailBlocks mem a
  | 9 => m.readRailBlocks mem a
  | 17 => m.readPmb a
  | 23 => m.readTmr a
  | _ => m.readOther i a

/-- A read of a register: a semaphore, FLT_NEXT and PMC_ALIST act on being read; a low word captures its high word, and the
next read of the high word by the same initiator returns that copy (R11). -/
def Part.periphRead (m : Part) (mem : Mem) (i : Initiator) (a : Nat) : Word × Part :=
  if R.IC_SEM.covers a then m.readSem i (R.IC_SEM.inst a)
  else if a = R.FLT_NEXT.base then m.readNext i
  else if a = R.PMC_ALIST.base then m.readAlist
  else if isHigh a then
    match m.holding.find (holdKey i a) with
    | some w => (w, { m with holding := m.holding.erase (holdKey i a) })
    | none => (m.readNow mem i a, m)
  else
    match highOf a with
    | some h => (m.readNow mem i a, { m with holding := m.holding.insert (holdKey i h) (m.readNow mem i h) })
    | none =>
      (m.readNow mem i a, if a = R.TB_FREF.base || a = R.AUD_MCLKF.base then { m with free := m.free + 1 } else m)

/-! ## Writes of peripheral space -/

/-- A write of a register, handed to its block (R25). -/
def State.periphWrite (s : State) (i : Initiator) (a : Nat) (v : Word) : State :=
  match blockOf a with
  | 0 => s.writeSYS i a v
  | 1 => s.lift (fun m => m.writeICU i a v)
  | 2 => s.writeDMA i a v
  | 3 => s.lift (fun m => m.writeTB i a v)
  | 4 => s.lift (fun m => m.writePWM i a v)
  | 5 => s.lift (fun m => m.writeFLK i a v)
  | 6 => s.lift (fun m => m.writeMICA i a v)
  | 7 => s.lift (fun m => m.writeBSL i a v)
  | 8 => s.lift (fun m => m.writeSAF i a v)
  | 9 => s.lift (fun m => m.writeRAIL s.mem i a v)
  | 10 => s.lift (fun m => m.writePOOL s.mem i a v)
  | 11 => s.lift (fun m => m.writeCLV i a v)
  | 12 => s.lift (fun m => m.writeADC i a v)
  | 13 => s.lift (fun m => m.writeWMON i a v)
  | 14 => s.lift (fun m => m.writeFLT s.mem i a v)
  | 15 => s.writeGRN i a v
  | 16 => s.writeNVMC i a v
  | 17 => s.lift (fun m => m.writePMB s.mem i a v)
  | 18 => s.lift (fun m => m.writePMC i a v)
  | 19 => s.lift (fun m => m.writeLCP i a v)
  | 20 => s.lift (fun m => m.writeAUD i a v)
  | 22 => s.lift (fun m => m.writeYDP i a v)
  | 23 => s.lift (fun m => m.writeTMR i a v)
  | 24 => s.lift (fun m => m.writeGPIO i a v)
  | _ => s.lift (fun m => m.plainWrite a v)

/-! ## Accesses of an initiator (R4, R23, R24) -/

/-- A fabric read of `n` bytes. -/
def State.fabricRead (s : State) (i : Initiator) (a n : Nat) : Access :=
  if regionOf a = .peripheral then
    if n = 4 && a % 4 = 0 then
      let x := s.part.periphRead s.mem i a
      ⟨false, x.1.toNat, { s with part := x.2 }⟩
    else s.busError
  else s.memRead a n

/-- A fabric write of the low `n` bytes of a value. A byte sent through NVM_SDATA that its rules refuse ends in a bus error. -/
def State.fabricWrite (s : State) (i : Initiator) (a n v : Nat) : Access :=
  if regionOf a = .peripheral then
    if n = 4 && a % 4 = 0 then
      let t := (s.lift (fun m => { m with bus := {} })).periphWrite i a (BitVec.ofNat 32 v)
      ⟨a = R.NVM_SDATA.base && t.part.bus.error, 0, t⟩
    else s.busError
  else s.memWrite (srcInit i) a n v

/-- The reply of an access on the fabric. -/
def Access.reply (x : Access) : State :=
  x.post.lift (fun m => { m with bus := { data := BitVec.ofNat 64 x.data, error := x.err } })

/-! ## The rows -/

def execRegisterWrite (i : Initiator) (a : Nat) (v : Word) (s : State) : Out := .next (s.fabricWrite i a 4 v.toNat).reply

/-- MEMORY_ACCESS of 1, 2, 4 or 8 bytes. -/
def execMemoryAccess (i : Initiator) (wr : Bool) (size : Fin 4) (a : Nat) (v : BitVec 64) (s : State) : Out :=
  .next (if wr then s.fabricWrite i a (2 ^ size.val) v.toNat else s.fabricRead i a (2 ^ size.val)).reply

def execLowWordRead (i : Initiator) (a : Nat) (s : State) : Out := .next (s.fabricRead i a 4).reply

def execDmaBeat (n : Fin 32) (s : State) : Out :=
  .next (s.dmaBeat (fun s a n => s.fabricRead .dma a n) (fun s a n v => s.fabricWrite .dma a n v) n)

end Sys2Proof.Machine
end

