-- ==== Sys2Proof/Machine/Cores.lean ====
section
/-! DEFINITION. The supervisory cores: boundaries, exceptions and entries, and the S-profile instructions (R121 to R141,
R387, R388, R391). A command names the core that executes the instruction at its PC. -/
namespace Sys2Proof.Machine

/-! ## Programmer's model (R122, R123, R136, R137) -/

def Core.reg (x : Core) (r : Nat) : Word := x.g.get 0 r
def Core.setReg (x : Core) (r : Nat) (v : Word) : Core := { x with g := x.g.set 0 r v }

/-- PS.EX and PS.IM. -/
def Core.ex (x : Core) : Bool := x.ps.getLsbD 1
def Core.im (x : Core) : Bool := x.ps.getLsbD 0

def Part.setReg (m : Part) (c r : Nat) (v : Word) : Part := m.setCore c ((m.core c).setReg r v)

/-- A core may fetch at the address (R140). -/
def Part.fetchable (m : Part) (pc : Nat) : Bool :=
  (regionOf pc = .rom || regionOf pc = .cm || regionOf pc = .sbm) && !m.bankOff pc

/-! ## Exceptions (R129 to R135) -/

/-- After a step or an entry, a core that STEP runs halts (R476). -/
def Part.stepDone (m : Part) (c : Nat) : Part :=
  let x := m.core c
  if x.stepping && (x.st = .run || x.st = .wait || x.st = .retention) then (m.setCore c { x with stepping := false }).setCoreState c .halt else m

/-- A synchronous exception of the handler core with an entry in hand raises HFAULT (R316). -/
def Part.handlerTrap (m : Part) (c : Nat) : Part := if m.inHandler c then m.handlerFault c else m

/-- Lockup: the core stops and saves nothing (R134, R316). -/
def Part.lockup (m : Part) (c : Nat) : Part :=
  let m := (m.setCore c { m.core c with stepping := false }).setCoreState c .lockup
  if m.inHandler c then m.handlerFault c else m.raise 0xE800 63 (m.policy 12) (srcOf 4 c)

/-- Taking a synchronous exception: EPC, EPS, ECAUSE and EADDR are saved, IM and EX become 1, and the core goes on at
EVBASE (R132). -/
def Part.takeException (m : Part) (c : Nat) (cause epc addr : Word) : Part :=
  let x := m.core c
  m.setCore c { x with epc := epc, eps := x.ps, ecause := cause, eaddr := addr, ps := x.ps ||| 3, pc := x.evbase, skipBp := false }

/-- A synchronous exception: lockup where EX is 1 already (R134). -/
def Part.exception (m : Part) (c : Nat) (code epc addr : Word) : Part :=
  if (m.core c).ex then m.lockup c else ((m.takeException c code epc addr).handlerTrap c).stepDone c

/-- Taking an interrupt: EPC and EPS are saved, IM becomes 1, EX stays, the core goes on at EVBASE + 0x100, and the highest
deliverable priority is pushed (R132, R388). -/
def Part.takeInterrupt (m : Part) (c p : Nat) : Part :=
  let x := m.core c
  let m := m.setCore c { x with epc := x.pc, eps := x.ps, ecause := 0x80000000, ps := x.ps ||| 1, pc := x.evbase + 0x100, skipBp := false }
  (m.putStack c (m.get F.IC_STK_HELD c ||| 2 ^ p)).stepDone c

/-- ECAUSE of an imprecise store error. -/
def imprecise : Word := 0x40000006

/-- The oldest store error that has returned is taken, with EPC at the given instruction (R131). -/
def Part.takeImprecise (m : Part) (c : Nat) (epc : Word) : Part :=
  let x := m.core c
  match x.held with
  | [] => m
  | a :: t => (((m.setCore c { x with held := t }).takeException c imprecise epc a).handlerTrap c).stepDone c

/-! ## Instruction boundaries (R131, R135, R388, R476) -/

/-- Entries are not taken while a STEP runs with STEPIM = 1. -/
def Part.entriesOpen (m : Part) (c : Nat) : Bool := !((m.core c).stepping && m.is F.YDP_CTRL_STEPIM 0)

/-- A store error is due. -/
def Part.storeErrorDue (m : Part) (c : Nat) : Bool := m.entriesOpen c && !(m.core c).held.isEmpty && !(m.core c).ex

/-- The priority of an interrupt that is due. -/
def Part.interruptDue (m : Part) (c : Nat) : Option Nat := if m.entriesOpen c && !(m.core c).im then m.deliverable c else none

/-- An enabled breakpoint stands at the address. -/
def Part.breakpointAt (m : Part) (c : Nat) (pc : Word) : Bool :=
  (List.range 4).any (fun k => m.is F.YDP_BP_EN (4 * c + k) && 4 * m.get F.YDP_BP_ADDR (4 * c + k) = pc.toNat)

/-- The core halts at a breakpoint (R476). -/
def Part.breakHalt (m : Part) (c : Nat) : Part :=
  ((m.setCore c { m.core c with stepping := false }).setCoreState c .halt).putBit F.YDP_STAT_BPHIT 0 c true

/-- A core at an instruction boundary: it does nothing unless it is in RUN; a store error goes before an interrupt, an entry
before a breakpoint, and a fetch before what the instruction does. -/
def State.atBoundary (s : State) (c : Nat) (act : State → State) : State :=
  let m := s.part
  let x := m.core c
  if x.st ≠ .run then s
  else if m.storeErrorDue c then s.lift (fun m => m.takeImprecise c x.pc)
  else match m.interruptDue c with
    | some p => s.lift (fun m => m.takeInterrupt c p)
    | none =>
      if m.breakpointAt c x.pc && !x.skipBp then s.lift (fun m => m.breakHalt c)
      else if !m.fetchable x.pc.toNat then s.lift (fun m => m.exception c 3 x.pc x.pc)
      else act s

/-- An instruction that completes: PC and the count of retired instructions advance first, so that what the instruction
does to its own core stands. `body` gets the core as it was. -/
def State.instr (s : State) (c : Nat) (body : Core → State → State) : State :=
  s.atBoundary c (fun s =>
    let x := s.part.core c
    let s := s.lift (fun m => m.setCore c { x with pc := x.pc + 4, iret := x.iret + 1, skipBp := false })
    (body x s).lift (fun m => m.stepDone c))

/-- An instruction that raises an exception has no other effect on its core: `x` is the core as it was (R130). -/
def State.trap (s : State) (c : Nat) (x : Core) (code epc addr : Word) : State :=
  s.lift (fun m => (m.setCore c x).exception c code epc addr)

/-! ## Shapes of instructions (R125 to R128) -/

/-- A result in a register. -/
def State.alu (s : State) (c rd : Nat) (f : Core → Word) : State :=
  s.instr c (fun x s => s.lift (fun m => m.setReg c rd (f x)))

/-- A division: by 0 raises code 7. -/
def State.division (s : State) (c rd ra rb : Nat) (f : Word → Word → Word) : State :=
  s.instr c (fun x s => if x.reg rb = 0 then s.trap c x 7 x.pc 0 else s.lift (fun m => m.setReg c rd (f (x.reg ra) (x.reg rb))))

/-- Signed quotient and remainder: truncation toward zero, −2^31 by −1 saturates (R126). -/
def quotient (a b : Word) : Word := if a = 0x80000000 && b = 0xFFFFFFFF then 0x7FFFFFFF else BitVec.ofInt 32 (Int.tdiv a.toInt b.toInt)
def remainder (a b : Word) : Word := BitVec.ofInt 32 (Int.tmod a.toInt b.toInt)

def sext16 (imm : BitVec 16) : Word := imm.signExtend 32
def zext16 (imm : BitVec 16) : Word := imm.zeroExtend 32
def boolWord (b : Bool) : Word := if b then 1 else 0

/-- Stores to these regions are not posted, and no access to them is performed before every earlier one of the core (R131, R139). -/
def unposted (a : Nat) : Bool := regionOf a = .peripheral || regionOf a = .nvm

/-- Every earlier store has been performed: errors that had not returned are held for the next boundary (R131, R139). -/
def Core.drained (x : Core) : Core := { x with held := x.held ++ x.flight, flight := [] }

/-- The core, and the machine, as an access to address `a` finds them. -/
def Core.ordered (x : Core) (a : Nat) : Core := if unposted a then x.drained else x
def State.ordered (s : State) (c a : Nat) : State := s.lift (fun m => m.setCore c ((m.core c).ordered a))

/-- A load of `n` bytes; `ext` widens what was read. -/
def State.load (s : State) (c rd ra n : Nat) (off : BitVec 16) (ext : Nat → Word) : State :=
  s.instr c (fun x s =>
    let a := x.reg ra + sext16 off
    if a.toNat % n ≠ 0 then s.trap c x 4 x.pc a
    else
      let x := x.ordered a.toNat
      let r := (s.ordered c a.toNat).fabricRead (.core (Fin.ofNat 4 c)) a.toNat n
      if r.err then r.post.trap c x 5 x.pc a else r.post.lift (fun m => m.setReg c rd (ext r.data)))

/-- A posted store has failed: its error has yet to return. -/
def Part.storeFails (m : Part) (c : Nat) (a : Word) : Part := m.setCore c { m.core c with flight := (m.core c).flight ++ [a] }

/-- A store of the low `n` bytes of a register. -/
def State.store (s : State) (c rs ra n : Nat) (off : BitVec 16) : State :=
  s.instr c (fun x s =>
    let a := x.reg ra + sext16 off
    if a.toNat % n ≠ 0 then s.trap c x 4 x.pc a
    else
      let x := x.ordered a.toNat
      let r := (s.ordered c a.toNat).fabricWrite (.core (Fin.ofNat 4 c)) a.toNat n ((x.reg rs).toNat % 256 ^ n)
      if !r.err then r.post
      else if unposted a.toNat then r.post.trap c x 6 x.pc a
      else r.post.lift (fun m => m.storeFails c a))

/-- PC goes to a target. -/
def Part.jump (m : Part) (c : Nat) (t : Word) : Part := m.setCore c { m.core c with pc := t }

/-- A branch: its target is its own address + 4 × sext(off16) (R127). -/
def State.branch (s : State) (c ra rb : Nat) (off : BitVec 16) (taken : Word → Word → Bool) : State :=
  s.instr c (fun x s => if taken (x.reg ra) (x.reg rb) then s.lift (fun m => m.jump c (x.pc + 4 * sext16 off)) else s)

/-! ## Control registers (R136 to R138) -/

/-- The word of a Ctl instruction, for EADDR (R124, R129). -/
def ctlWord (op r : Nat) (p : Bool) (n : Nat) : Word := BitVec.ofNat 32 (op * 2 ^ 26 + r * 2 ^ 21 + (if p then 64 else 0) + n)

/-- Garnet's timestamp counter, halves. -/
def Part.timeLo (m : Part) : Word := BitVec.ofNat 32 m.timestamp
def Part.timeHi (m : Part) : Word := BitVec.ofNat 32 (m.timestamp / 2 ^ 32)

/-- The value of a control register, for the core as it was: IRETLO counts the instructions before the CRD that reads it, of which the
spec says nothing (DESIGN CHOICE, log entry 118). -/
def Part.crValue (m : Part) (c : Nat) (x : Core) (n : Nat) : Word :=
  match n with
  | 0 => BitVec.ofNat 32 c
  | 1 => x.epc
  | 2 => x.eps
  | 3 => x.ecause
  | 4 => x.eaddr
  | 5 => x.evbase
  | 6 => x.scr0
  | 7 => x.scr1
  | 8 => BitVec.ofNat 32 x.iret
  | 9 => x.iretHi.getD (BitVec.ofNat 32 (x.iret / 2 ^ 32))
  | 10 => m.timeLo
  | 11 => x.timeHi.getD m.timeHi
  | _ => 0

/-- What a read does to the holding copies (R138). -/
def Part.crCapture (m : Part) (c : Nat) (x : Core) (n : Nat) : Part :=
  let y := m.core c
  match n with
  | 8 => m.setCore c { y with iretHi := some (BitVec.ofNat 32 (x.iret / 2 ^ 32)) }
  | 9 => m.setCore c { y with iretHi := none }
  | 10 => m.setCore c { y with timeHi := some m.timeHi }
  | 11 => m.setCore c { y with timeHi := none }
  | _ => m

/-- A write of a control register: the core after it, or none where the number is undefined or read-only. -/
def Core.crWrite (x : Core) (n : Nat) (v : Word) : Option Core :=
  match n with
  | 1 => some { x with epc := v }
  | 2 => some { x with eps := v }
  | 3 => some { x with ecause := v &&& 0xC00000FF }
  | 4 => some { x with eaddr := v }
  | 5 => some { x with evbase := v &&& 0xFFFFFE00 }
  | 6 => some { x with scr0 := v }
  | 7 => some { x with scr1 := v }
  | _ => none

/-- PS with its reserved bits 0. -/
def psOf (v : Word) : Word := v &&& 3

def State.crd (s : State) (c rd : Nat) (p : Bool) (n : Nat) : State :=
  s.instr c (fun x s =>
    if (p && n != 0) || (!p && decide (11 < n)) then s.trap c x 1 x.pc (ctlWord 0x30 rd p n)
    else if p then s.lift (fun m => m.setReg c rd x.ps)
    else s.lift (fun m => (m.crCapture c x n).setReg c rd (m.crValue c x n)))

def State.cwr (s : State) (c ra : Nat) (p : Bool) (n : Nat) : State :=
  s.instr c (fun x s =>
    let v := x.reg ra
    let no := s.trap c x 1 x.pc (ctlWord 0x31 ra p n)
    if p then (if n = 0 then s.lift (fun m => m.setCore c { m.core c with ps := psOf v }) else no)
    else match (s.part.core c).crWrite n v with
      | some y => s.lift (fun m => m.setCore c y)
      | none => no)

/-! ## System instructions (R131, R133, R134, R139, R140, R394) -/

/-- WAIT: the core sleeps until woken; a source that is pending already wakes it at once. In standby SC0 enters retention
(R457). -/
def State.waitInstr (s : State) (c : Nat) : State :=
  s.instr c (fun _ s => s.lift (fun m =>
    let m := (m.setCoreState c .wait).icuLook
    if m.sys.standby && c = 0 && (m.core c).st = .wait then m.setCoreState c .retention else m))

/-- FENCE: errors of earlier posted stores return while it waits, and it executes again after them (R131). -/
def State.fence (s : State) (c : Nat) : State :=
  s.instr c (fun x s =>
    let h := x.held ++ x.flight
    if h.isEmpty || x.ex then s.lift (fun m => m.setCore c { m.core c with held := h, flight := [] })
    else s.lift (fun m => (m.setCore c { x with held := h, flight := [] }).takeImprecise c x.pc))

/-- TRAPI: code 8 with EPC at the next instruction. -/
def State.trapi (s : State) (c : Nat) (n : BitVec 8) : State :=
  s.instr c (fun x s => s.trap c x 8 (x.pc + 4) (n.zeroExtend 32))

/-- RETI: PC from EPC, whose bits [1:0] PC cannot hold, and PS from EPS (R133). -/
def State.reti (s : State) (c : Nat) : State :=
  s.instr c (fun x s => s.lift (fun m => m.setCore c { m.core c with pc := x.epc &&& 0xFFFFFFFC, ps := psOf x.eps }))

/-! ## Illegal words (R121, R124, R125, R144) -/

/-- Function codes of opcode 0x00. -/
def regFuncs : List Nat := [0x01, 0x02, 0x03, 0x04, 0x05, 0x06, 0x07, 0x08, 0x09, 0x0A, 0x10, 0x11, 0x12, 0x14, 0x15, 0x16, 0x17]
/-- Opcodes whose fields fill the word. -/
def fullOps : List Nat := [0x01, 0x02, 0x03, 0x04, 0x10, 0x11, 0x12, 0x13, 0x14, 0x18, 0x19, 0x1A, 0x20, 0x21, 0x22, 0x23, 0x24, 0x25, 0x28]

/-- A legal word of the S-profile. -/
def sLegal (w : Word) : Bool :=
  let op := bitsOf w 26 6
  let func := bitsOf w 0 6
  let arg := bitsOf w 8 8
  if op = 0x00 then bitsOf w 6 5 = 0 && regFuncs.contains func
  else if fullOps.contains op then true
  else if op = 0x05 || op = 0x06 || op = 0x07 then bitsOf w 5 11 = 0
  else if op = 0x08 then bitsOf w 16 5 = 0
  else if op = 0x29 then bitsOf w 0 15 = 0
  else if op = 0x30 || op = 0x31 then bitsOf w 7 14 = 0
  else if op = 0x3F then
    bitsOf w 16 10 = 0 && bitsOf w 6 2 = 0 && (((func = 1 || func = 4) && arg = 0) || (func = 2 && arg < 2) || func = 3)
  else false

/-- Bits that are not reserved under each opcode of the L-profile. -/
def lFields (op : Nat) : Option Nat :=
  match op with
  | 0x01 | 0x03 => some 0x03FE0000
  | 0x02 | 0x13 => some 0x003FF000
  | 0x04 => some 0x03C1FFFF
  | 0x05 | 0x0A | 0x0B | 0x10 | 0x11 | 0x14 => some 0x03FFF000
  | 0x06 => some 0x03BFF800
  | 0x07 => some 0x0380FFFF
  | 0x08 => some 0x03C03FFF
  | 0x09 => some 0x003E3FFF
  | 0x0C => some 0x03FFF800
  | 0x0D => some 0x03FFFFFF
  | 0x0E | 0x0F => some 0x03FEF000
  | 0x12 => some 0x03FFFFE0
  | 0x15 => some 0x003FF80F
  | 0x3E => some 0
  | 0x3F => some 0x0000FFFF
  | _ => none

/-- A legal word of the L-profile. -/
def lLegal (w : Word) : Bool :=
  match lFields (bitsOf w 26 6) with
  | some k => w.toNat % 2 ^ 26 &&& k = w.toNat % 2 ^ 26
  | none => false

/-- An illegal word is executed: code 1 with the word in EADDR, or a program failure. A legal word is no such event. -/
def State.illegal (s : State) (u : Executor) (w : Word) : State :=
  match u with
  | .core c =>
    if sLegal w then s else s.atBoundary c (fun s => s.lift (fun m => m.exception c 1 (m.core c).pc w))
  | .lane l => if lLegal w then s else s.lift (fun m => m.programFailure l)

/-! ## Entries by themselves (R131, R135, R388) -/

/-- A posted store's error returns: it ends a WAIT and is taken at this boundary, or held while EX is 1. -/
def Part.storeErrorReturns (m : Part) (c : Nat) : Part :=
  let x := m.core c
  match x.flight with
  | [] => m
  | a :: t =>
    let m := m.setCore c { x with flight := t, held := x.held ++ [a] }
    let m := if x.st = .wait || x.st = .retention then m.setCoreState c .run else m
    if (m.core c).st = .run && m.storeErrorDue c then m.takeImprecise c (m.core c).pc else m

/-- INTERRUPT_ENTRY: the entry that is due at this boundary. -/
def Part.entry (m : Part) (c : Nat) : Part :=
  if (m.core c).st ≠ .run then m
  else if m.storeErrorDue c then m.takeImprecise c (m.core c).pc
  else match m.interruptDue c with
    | some p => m.takeInterrupt c p
    | none => m

/-! ## The rows: register and immediate (R125, R126) -/

def execAdd (c : Fin 4) (rd ra rb : Fin 32) (s : State) : Out := .next (s.alu c rd (fun x => x.reg ra + x.reg rb))
def execSub (c : Fin 4) (rd ra rb : Fin 32) (s : State) : Out := .next (s.alu c rd (fun x => x.reg ra - x.reg rb))
def execAnd (c : Fin 4) (rd ra rb : Fin 32) (s : State) : Out := .next (s.alu c rd (fun x => x.reg ra &&& x.reg rb))
def execOr (c : Fin 4) (rd ra rb : Fin 32) (s : State) : Out := .next (s.alu c rd (fun x => x.reg ra ||| x.reg rb))
def execXor (c : Fin 4) (rd ra rb : Fin 32) (s : State) : Out := .next (s.alu c rd (fun x => x.reg ra ^^^ x.reg rb))
def execShl (c : Fin 4) (rd ra rb : Fin 32) (s : State) : Out := .next (s.alu c rd (fun x => x.reg ra <<< ((x.reg rb).toNat % 32)))
def execShr (c : Fin 4) (rd ra rb : Fin 32) (s : State) : Out := .next (s.alu c rd (fun x => x.reg ra >>> ((x.reg rb).toNat % 32)))
def execSar (c : Fin 4) (rd ra rb : Fin 32) (s : State) : Out :=
  .next (s.alu c rd (fun x => (x.reg ra).sshiftRight ((x.reg rb).toNat % 32)))
def execSlt (c : Fin 4) (rd ra rb : Fin 32) (s : State) : Out := .next (s.alu c rd (fun x => boolWord ((x.reg ra).slt (x.reg rb))))
def execSltu (c : Fin 4) (rd ra rb : Fin 32) (s : State) : Out := .next (s.alu c rd (fun x => boolWord ((x.reg ra).ult (x.reg rb))))
def execMul (c : Fin 4) (rd ra rb : Fin 32) (s : State) : Out := .next (s.alu c rd (fun x => x.reg ra * x.reg rb))
def execMulh (c : Fin 4) (rd ra rb : Fin 32) (s : State) : Out :=
  .next (s.alu c rd (fun x => BitVec.ofInt 32 ((x.reg ra).toInt * (x.reg rb).toInt / 2 ^ 32)))
def execMulhu (c : Fin 4) (rd ra rb : Fin 32) (s : State) : Out :=
  .next (s.alu c rd (fun x => BitVec.ofNat 32 ((x.reg ra).toNat * (x.reg rb).toNat / 2 ^ 32)))
def execDiv (c : Fin 4) (rd ra rb : Fin 32) (s : State) : Out := .next (s.division c rd ra rb quotient)
def execDivu (c : Fin 4) (rd ra rb : Fin 32) (s : State) : Out := .next (s.division c rd ra rb (fun a b => a.udiv b))
def execRem (c : Fin 4) (rd ra rb : Fin 32) (s : State) : Out := .next (s.division c rd ra rb remainder)
def execRemu (c : Fin 4) (rd ra rb : Fin 32) (s : State) : Out := .next (s.division c rd ra rb (fun a b => a.umod b))
def execAddi (c : Fin 4) (rd ra : Fin 32) (imm : BitVec 16) (s : State) : Out := .next (s.alu c rd (fun x => x.reg ra + sext16 imm))
def execAndi (c : Fin 4) (rd ra : Fin 32) (imm : BitVec 16) (s : State) : Out := .next (s.alu c rd (fun x => x.reg ra &&& zext16 imm))
def execOri (c : Fin 4) (rd ra : Fin 32) (imm : BitVec 16) (s : State) : Out := .next (s.alu c rd (fun x => x.reg ra ||| zext16 imm))
def execXori (c : Fin 4) (rd ra : Fin 32) (imm : BitVec 16) (s : State) : Out := .next (s.alu c rd (fun x => x.reg ra ^^^ zext16 imm))
def execShli (c : Fin 4) (rd ra sh : Fin 32) (s : State) : Out := .next (s.alu c rd (fun x => x.reg ra <<< sh.val))
def execShri (c : Fin 4) (rd ra sh : Fin 32) (s : State) : Out := .next (s.alu c rd (fun x => x.reg ra >>> sh.val))
def execSari (c : Fin 4) (rd ra sh : Fin 32) (s : State) : Out := .next (s.alu c rd (fun x => (x.reg ra).sshiftRight sh.val))
def execMovh (c : Fin 4) (rd : Fin 32) (imm : BitVec 16) (s : State) : Out := .next (s.alu c rd (fun _ => zext16 imm <<< 16))

/-! ## The rows: loads and stores (R128) -/

def execLdw (c : Fin 4) (rd ra : Fin 32) (off : BitVec 16) (s : State) : Out := .next (s.load c rd ra 4 off (BitVec.ofNat 32))
def execLdh (c : Fin 4) (rd ra : Fin 32) (off : BitVec 16) (s : State) : Out :=
  .next (s.load c rd ra 2 off (fun n => sext16 (BitVec.ofNat 16 n)))
def execLdhu (c : Fin 4) (rd ra : Fin 32) (off : BitVec 16) (s : State) : Out := .next (s.load c rd ra 2 off (BitVec.ofNat 32))
def execLdb (c : Fin 4) (rd ra : Fin 32) (off : BitVec 16) (s : State) : Out :=
  .next (s.load c rd ra 1 off (fun n => (BitVec.ofNat 8 n).signExtend 32))
def execLdbu (c : Fin 4) (rd ra : Fin 32) (off : BitVec 16) (s : State) : Out := .next (s.load c rd ra 1 off (BitVec.ofNat 32))
def execStw (c : Fin 4) (rs ra : Fin 32) (off : BitVec 16) (s : State) : Out := .next (s.store c rs ra 4 off)
def execSth (c : Fin 4) (rs ra : Fin 32) (off : BitVec 16) (s : State) : Out := .next (s.store c rs ra 2 off)
def execStb (c : Fin 4) (rs ra : Fin 32) (off : BitVec 16) (s : State) : Out := .next (s.store c rs ra 1 off)

/-! ## The rows: branches and jumps (R127) -/

def execBeq (c : Fin 4) (ra rb : Fin 32) (off : BitVec 16) (s : State) : Out := .next (s.branch c ra rb off (fun a b => a == b))
def execBne (c : Fin 4) (ra rb : Fin 32) (off : BitVec 16) (s : State) : Out := .next (s.branch c ra rb off (fun a b => a != b))
def execBlt (c : Fin 4) (ra rb : Fin 32) (off : BitVec 16) (s : State) : Out := .next (s.branch c ra rb off (fun a b => a.slt b))
def execBge (c : Fin 4) (ra rb : Fin 32) (off : BitVec 16) (s : State) : Out := .next (s.branch c ra rb off (fun a b => !a.slt b))
def execBltu (c : Fin 4) (ra rb : Fin 32) (off : BitVec 16) (s : State) : Out := .next (s.branch c ra rb off (fun a b => a.ult b))
def execBgeu (c : Fin 4) (ra rb : Fin 32) (off : BitVec 16) (s : State) : Out := .next (s.branch c ra rb off (fun a b => !a.ult b))
def execJal (c : Fin 4) (rd : Fin 32) (off : BitVec 21) (s : State) : Out :=
  .next (s.instr c (fun x s => s.lift (fun m => (m.setReg c rd (x.pc + 4)).jump c (x.pc + 4 * off.signExtend 32))))

/-- JR: the target is the value before the instruction; a misaligned one raises code 2. -/
def execJr (c : Fin 4) (rd ra : Fin 32) (lk : Bool) (s : State) : Out :=
  .next (s.instr c (fun x s =>
    let t := x.reg ra
    if t.toNat % 4 ≠ 0 then s.trap c x 2 x.pc t
    else s.lift (fun m => (if lk then m.setReg c rd (x.pc + 4) else m).jump c t)))

/-! ## The rows: system (R131 to R140) -/

def execCrd (c : Fin 4) (rd : Fin 32) (p : Bool) (n : Fin 64) (s : State) : Out := .next (s.crd c rd p n)
def execCwr (c : Fin 4) (ra : Fin 32) (p : Bool) (n : Fin 64) (s : State) : Out := .next (s.cwr c ra p n)
def execWait (c : Fin 4) (s : State) : Out := .next (s.waitInstr c)

/-- FENCE; its scope orders instruction fetch, which a command that carries its instruction does not show. -/
def execFence (c : Fin 4) (_scope : Bool) (s : State) : Out := .next (s.fence c)
def execTrapi (c : Fin 4) (n : BitVec 8) (s : State) : Out := .next (s.trapi c n)
def execReti (c : Fin 4) (s : State) : Out := .next (s.reti c)
def execImpreciseStoreError (c : Fin 4) (s : State) : Out := .next (s.lift (fun m => m.storeErrorReturns c))
def execInterruptEntry (c : Fin 4) (s : State) : Out := .next (s.lift (fun m => m.entry c))
def execIllegalInstruction (u : Executor) (w : Word) (s : State) : Out := .next (s.illegal u w)

/-- FETCH_BUS_ERROR: the fetch at PC ends in a bus error (R129). -/
def execFetchBusError (c : Fin 4) (s : State) : Out :=
  .next (s.atBoundary c (fun s => s.lift (fun m => m.exception c 3 (m.core c).pc (m.core c).pc)))

end Sys2Proof.Machine
end

