-- ==== Sys2Proof/Machine/Ports.lean ====
section
/-! DEFINITION. The host SPI port, the debug port, the boundary-scan TAP, and requests the backstop timer ends (R18, R468,
R469, R473 to R479). -/
namespace Sys2Proof.Machine

/-! ## Host SPI (R468, R469) -/

/-- The status byte. -/
def Part.hspStatus (m : Part) : Byte :=
  byteOf (0xA0 + flag (m.get F.SYS_BOOT_STATE 0 = 5) 4 + flag m.hirqLow 3 + flag m.hsp.under 2 + flag m.hsp.err 1 + flag m.recalling 0)

/-- Address of the byte `k` further on: within its page of the NVM window, else counting on (R430, R469). -/
def hspAddr (a k : Nat) : Nat := if regionOf a = .nvm then a / 256 * 256 + (a + k) % 256 else (a + k) % 2 ^ 32

/-- The address passes the end of its NVM page. -/
def hspWraps (a k : Nat) : Bool := regionOf a = .nvm && decide (256 ≤ a % 256 + k)

def Part.noteWrap (m : Part) (w : Bool) : Part := if w then m.put F.NVM_STAT_WRAP 0 1 else m

/-- Bytes of the access group at `a`: a complete aligned word, or what is left of a partial one. -/
def groupSize (a left : Nat) : Nat := if a % 4 = 0 && 4 ≤ left then 4 else min (4 - a % 4) left

/-- Byte accesses of a partial word: whether one ended in a bus error. -/
def State.hspBytes (s : State) (a : Nat) : List Byte → Bool × State
  | [] => (false, s)
  | b :: t =>
    let x := s.fabricWrite .hsp a 1 b.toNat
    if x.err then (true, x.post) else x.post.hspBytes (a + 1) t

/-- The data bytes of a write frame; `fuel` bounds the groups. The answer says whether ERR is set. -/
def State.hspWrite (s : State) (a : Nat) (l : List Byte) (err : Bool) : Nat → Bool × State
  | 0 => (err, s)
  | fuel + 1 =>
    if l.isEmpty then (err, s)
    else
      let k := groupSize a l.length
      let next := hspAddr a k
      let on := fun (s : State) (err : Bool) => State.hspWrite (s.lift (fun m => m.noteWrap (hspWraps a k))) next (l.drop k) err fuel
      if k = 4 then
        let x := s.fabricWrite .hsp a 4 (fromBytes (l.take 4))
        if x.err then (true, x.post) else on x.post err
      else if regionOf a = .peripheral then on s true
      else
        let x := s.hspBytes a (l.take k)
        if x.1 then (true, x.2) else on x.2 err

/-- Free bytes, for data the spec does not give. -/
def State.anyBytes (s : State) : Nat → List Byte × State
  | 0 => ([], s)
  | n + 1 =>
    let w := s.part.freeWord
    let x := State.anyBytes { s with part := w.2 } n
    (BitVec.ofNat 8 w.1.toNat :: x.1, x.2)

/-- What a read frame has come to. -/
structure HspRead where
  bytes : List Byte := []
  err : Bool := false
  under : Bool := false
  post : State

/-- Byte reads of a partial word. -/
def State.hspReadBytes (s : State) (a : Nat) : Nat → Bool × List Byte × State
  | 0 => (false, [], s)
  | n + 1 =>
    let x := s.fabricRead .hsp a 1
    if x.err then (true, [], x.post)
    else
      let y := x.post.hspReadBytes (a + 1) n
      (y.1, byteOf x.data :: y.2.1, y.2.2)

/-- One access group of a read: an error, its bytes, and the machine. -/
def State.hspGroup (s : State) (a k : Nat) : Bool × List Byte × State :=
  if k = 4 then
    let x := s.fabricRead .hsp a 4
    (x.err, lowBytes x.data 4, x.post)
  else s.hspReadBytes a k

/-- The data bytes of a read frame: `count` bytes from `a`, of which the group number `late` is not ready in time. After a bus
error, and for a partial word of peripheral space, what is shifted out is free. -/
def State.hspRead (s : State) (a count : Nat) (late : Option Nat) (r : List Byte) (err : Bool) : Nat → HspRead
  | 0 => { bytes := r, err := err, post := s }
  | fuel + 1 =>
    if count = 0 then { bytes := r, err := err, post := s }
    else
      let k := groupSize a count
      let go := fun (s : State) (b : List Byte) (err : Bool) =>
        State.hspRead (s.lift (fun m => m.noteWrap (hspWraps a k))) (hspAddr a k) (count - k) (late.map (fun n => n - 1)) (r ++ b) err fuel
      if regionOf a = .peripheral && k ≠ 4 then
        let y := s.anyBytes k
        go y.2 y.1 true
      else
        let x := s.hspGroup a k
        if late = some 0 then { bytes := r ++ List.replicate count 0xFF, err := err || x.1, under := true, post := x.2.2 }
        else if x.1 then
          let y := x.2.2.anyBytes count
          { bytes := r ++ y.1, err := true, post := y.2 }
        else go x.2.2 x.2.1 err

/-- A frame begins: a standby ends (R457), and the status byte is sent. -/
def State.hspStart (s : State) : State :=
  s.lift (fun m => { m.wake with hsp := { m.hsp with status := m.hspStatus, sent := [] } })

/-- The flags of a frame. -/
def Part.hspEnd (m : Part) (err under : Bool) (sent : List Byte) : Part :=
  let m := if err then m.put F.HSP_STAT_ERR 0 1 else m
  let m := if under then m.put F.HSP_STAT_UNDER 0 1 else m
  { m with hsp := { m.hsp with err := err, under := under, sent := sent } }

/-- A write frame; during recall every command is ignored. -/
def State.hspWriteFrame (s : State) (a : Word) (data : List Byte) : State :=
  let s := s.hspStart
  if s.part.recalling then s
  else
    let x := s.hspWrite a.toNat data false data.length
    x.2.lift (fun m => m.hspEnd x.1 false [])

/-- A read frame. -/
def State.hspReadFrame (s : State) (a : Word) (count : Nat) (late : Option Nat) : State :=
  let s := s.hspStart
  if s.part.recalling then s
  else
    let x := s.hspRead a.toNat count late [] false count
    x.post.lift (fun m => m.hspEnd x.err x.under x.bytes)

/-! ## Yetric Debug Port (R474 to R478) -/

/-- Status codes. -/
def ydpOk : Nat := 0x0
def ydpRefused : Nat := 0x5
def ydpFault : Nat := 0xA
def ydpCrcErr : Nat := 0xC

def Part.ydpReply (m : Part) (st : Nat) (d : Option Word := none) : Part := { m with ydp := { status := st, data := d } }

/-- A request other than STATUS: refused while DIS is 1, and for the targets that do not exist (R475, R478). -/
def State.ydpRequest (s : State) (t : Nat) (act : State → State) : State :=
  if s.part.is F.YDP_CTRL_DIS 0 || 4 < t then s.lift (fun m => m.ydpReply ydpRefused) else act s

/-- The end of a memory request. -/
def Access.ydpEnd (x : Access) (d : Option Word) : State :=
  x.post.lift (fun m => if x.err then (m.put F.YDP_STAT_BERR 0 1).ydpReply ydpFault else m.ydpReply ydpOk d)

def State.ydpMemRead (s : State) (a : Word) : State :=
  s.ydpRequest 0 (fun s =>
    let x := s.fabricRead .ydp a.toNat 4
    x.ydpEnd (some (BitVec.ofNat 32 x.data)))

def State.ydpMemWrite (s : State) (a v : Word) : State :=
  s.ydpRequest 0 (fun s => (s.fabricWrite .ydp a.toNat 4 v.toNat).ydpEnd none)

/-- A register of a halted core, or none where the number names none (R136, R475). -/
def Part.debugReg (m : Part) (c : Nat) (a : Word) : Option Word :=
  let x := { m.core c with iretHi := none, timeHi := none }
  let n := a.toNat
  if n < 32 then some (x.reg n)
  else if n = 32 then some x.pc
  else if n = 33 then some x.ps
  else if 0x100 ≤ n && n < 0x10C then some (m.crValue c x (n - 0x100))
  else none

/-- A halted core with a register written, or none where the write is refused. -/
def Core.debugWrite (x : Core) (a v : Word) : Option Core :=
  let n := a.toNat
  if n < 32 then some (x.setReg n v)
  else if n = 32 then (if v.toNat % 4 = 0 then some { x with pc := v } else none)
  else if n = 33 then some { x with ps := psOf v }
  else if 0x100 ≤ n then x.crWrite (n - 0x100) v
  else none

/-- A request that needs a core in HALT. -/
def State.ydpHalted (s : State) (t : Nat) (act : State → State) : State :=
  s.ydpRequest t (fun s => if 4 ≤ t || (s.part.core t).st ≠ .halt then s.lift (fun m => m.ydpReply ydpRefused) else act s)

def State.ydpRegRead (s : State) (t : Nat) (a : Word) : State :=
  s.ydpHalted t (fun s => s.lift (fun m => match m.debugReg t a with
    | some v => m.ydpReply ydpOk (some v)
    | none => m.ydpReply ydpRefused))

def State.ydpRegWrite (s : State) (t : Nat) (a v : Word) : State :=
  s.ydpHalted t (fun s => s.lift (fun m => match (m.core t).debugWrite a v with
    | some x => (m.setCore t x).ydpReply ydpOk
    | none => m.ydpReply ydpRefused))

/-- HALT of a core at its boundary; one that is held in reset or off refuses (R476, R478). -/
def Part.haltCore (m : Part) (c : Nat) : Part :=
  if (m.core c).st = .off then m.ydpReply ydpRefused
  else ((m.setCore c { m.core c with stepping := false }).setCoreState c .halt).ydpReply ydpOk

/-- HALT of Basalt: dispatch stops, invocations that wait are dropped without a miss, and every lane gets DBGHALT (R477). -/
def Part.haltBasalt (m : Part) : Part :=
  let m := { m with tb := { m.tb with dbgHalt := true }, bsl := { m.bsl with ready := [] } }
  (m.setCause causeDbgHalt true).ydpReply ydpOk

def Part.resumeBasalt (m : Part) : Part :=
  (({ m with tb := { m.tb with dbgHalt := false } } : Part).setCause causeDbgHalt false).ydpReply ydpOk

/-- RESUME of a core: it runs from PC, and breakpoints are ignored for one instruction (R476). -/
def Part.resumeCore (m : Part) (c : Nat) : Part :=
  if (m.core c).st = .halt then ((m.setCore c { m.core c with skipBp := true }).setCoreState c .run).ydpReply ydpOk
  else m.ydpReply ydpOk

def State.ydpHalt (s : State) (t : Nat) : State :=
  s.ydpRequest t (fun s => s.lift (fun m => if t = 4 then m.haltBasalt else m.haltCore t))

def State.ydpResume (s : State) (t : Nat) : State :=
  s.ydpRequest t (fun s => s.lift (fun m => if t = 4 then m.resumeBasalt else m.resumeCore t))

/-- STEP: the core leaves HALT for one instruction or entry (R476). -/
def State.ydpStep (s : State) (t : Nat) : State :=
  s.ydpHalted t (fun s => s.lift (fun m =>
    ((m.setCore t { m.core t with stepping := true, skipBp := true }).setCoreState t .run).ydpReply ydpOk))

/-- RESET: ADDR 0 a warm reset, ADDR 1 a core reset (R475). -/
def State.ydpReset (s : State) (t : Nat) (a : Word) : State :=
  s.ydpRequest t (fun s =>
    if a = 0 then (State.warmReset (s.lift (fun m => m.cause 3))).lift (fun m => m.ydpReply ydpOk)
    else if a = 1 && t < 4 then s.lift (fun m => ((m.cause (12 + t)).resetCore t).ydpReply ydpOk)
    else s.lift (fun m => m.ydpReply ydpRefused))

/-- A core reaches an enabled breakpoint: an entry that is due goes first (R476). -/
def Part.breakpoint (m : Part) (c : Nat) : Part :=
  let x := m.core c
  if x.st ≠ .run then m
  else if m.storeErrorDue c || (m.interruptDue c).isSome then m.entry c
  else if m.breakpointAt c x.pc && !x.skipBp then m.breakHalt c
  else m

/-! ## The backstop timer (R18) -/

/-- What the end of the request means to its initiator. -/
def State.backstopEnd (s : State) (i : Initiator) (wr : Bool) (a : Nat) : State :=
  match i with
  | .core c =>
    let x := s.part.core c
    if x.st ≠ .run then s
    else if wr && !unposted a then s.lift (fun m => m.storeFails c (BitVec.ofNat 32 a))
    else s.lift (fun m => m.exception c (if wr then 6 else 5) x.pc (BitVec.ofNat 32 a))
  | .dma =>
    match s.part.dmaNext with
    | none => s
    | some n => (State.beatFailed (s.lift (fun m => (m.dmaGrant n).dmaWatch n)) n a).lift (fun m => (m.dmaBeatOver n).drained n)
  | .hsp => s.lift (fun m => { m.put F.HSP_STAT_ERR 0 1 with hsp := { m.hsp with err := true } })
  | .pmb => s
  | .ydp => s.lift (fun m => (m.put F.YDP_STAT_BERR 0 1).ydpReply ydpFault)

/-- FABRIC_BACKSTOP_TIMEOUT: a bus error and a record; a write may or may not have taken effect. -/
def State.backstop (s : State) (i : Initiator) (wr : Bool) (size a v : Nat) : State :=
  let b := s.part.freeBit
  let s : State := { s with part := b.2 }
  let s := if wr && b.1 then (s.fabricWrite i a size v).post else s
  let s := s.lift (fun m => m.event (codeOf 0 2) (srcInit i) 0 (m.word R.SYS_STAT.base).toNat a)
  (s.backstopEnd i wr a).lift (fun m => { m with bus := { data := 0, error := true } })

/-! ## The rows -/

def execFabricBackstopTimeout (i : Initiator) (wr : Bool) (size : Fin 4) (a : Nat) (v : BitVec 64) (s : State) : Out :=
  .next (s.backstop i wr (2 ^ size.val) a v.toNat)
def execHspWrite (a : Word) (data : List Byte) (s : State) : Out := .next (s.hspWriteFrame a data)
def execHspRead (a : Word) (count : Nat) (late : Option Nat) (s : State) : Out := .next (s.hspReadFrame a count late)
def execHspQuadWrite (a : Word) (data : List Byte) (s : State) : Out := .next (s.hspWriteFrame a data)
def execHspQuadRead (a : Word) (count : Nat) (late : Option Nat) (s : State) : Out := .next (s.hspReadFrame a count late)
def execHspStatus (s : State) : Out :=
  .next (s.hspStart.lift (fun m => if m.recalling then m else m.hspEnd false false []))

/-- LINE_RESET: the protocol is idle again, and the result of an access in progress is discarded (R473). -/
def execLineReset (s : State) : Out := .next (s.lift (fun m => m.ydpReply ydpOk))
def execStatus (s : State) : Out := .next (s.lift (fun m => m.ydpReply ydpOk (some m.ydpStatWord)))
def execMemrd (a : Word) (s : State) : Out := .next (s.ydpMemRead a)
def execMemwr (a v : Word) (s : State) : Out := .next (s.ydpMemWrite a v)
def execRegrd (t : Fin 8) (a : Word) (s : State) : Out := .next (s.ydpRegRead t a)
def execRegwr (t : Fin 8) (a v : Word) (s : State) : Out := .next (s.ydpRegWrite t a v)
def execHalt (t : Fin 8) (s : State) : Out := .next (s.ydpHalt t)
def execResume (t : Fin 8) (s : State) : Out := .next (s.ydpResume t)
def execStep (t : Fin 8) (s : State) : Out := .next (s.ydpStep t)
def execReset (t : Fin 8) (a : Word) (s : State) : Out := .next (s.ydpReset t a)
def execYdpCrcError (s : State) : Out := .next (s.lift (fun m => m.ydpReply ydpCrcErr))
def execBreakpoint (c : Fin 4) (s : State) : Out := .next (s.lift (fun m => m.breakpoint c))

/-- The TAP's instruction register (R479). -/
def Part.tapLoad (m : Part) (ir : Nat) : Part := { m with tap := { ir := ir } }

def execExtest (s : State) : Out := .next (s.lift (fun m => m.tapLoad 0x0))
def execSamplePreload (s : State) : Out := .next (s.lift (fun m => m.tapLoad 0x1))
def execIdcode (s : State) : Out := .next (s.lift (fun m => m.tapLoad 0x2))
def execClamp (s : State) : Out := .next (s.lift (fun m => m.tapLoad 0x3))
def execHighz (s : State) : Out := .next (s.lift (fun m => m.tapLoad 0x4))
def execBypass (s : State) : Out := .next (s.lift (fun m => m.tapLoad 0xF))
def execTapReset (s : State) : Out := .next (s.lift (fun m => m.tapLoad 0x2))

/-- The data register that the TAP shifts out under its instruction, where the spec gives it: IDCODE (R479). -/
def Part.idcode (m : Part) : Option Word := if m.tap.ir = 2 then some 0x09063B47 else none

end Sys2Proof.Machine
end

