-- ==== Sys2Proof/Machine/Sha256.lean ====
section
/-! DEFINITION. SHA-256 and HMAC-SHA-256, by which the boot ROM authenticates an image (R464). -/
namespace Sys2Proof.Machine

/-- The 64 round constants. -/
def shaK : List Word :=
  [0x428a2f98, 0x71374491, 0xb5c0fbcf, 0xe9b5dba5, 0x3956c25b, 0x59f111f1, 0x923f82a4, 0xab1c5ed5] ++
  [0xd807aa98, 0x12835b01, 0x243185be, 0x550c7dc3, 0x72be5d74, 0x80deb1fe, 0x9bdc06a7, 0xc19bf174] ++
  [0xe49b69c1, 0xefbe4786, 0x0fc19dc6, 0x240ca1cc, 0x2de92c6f, 0x4a7484aa, 0x5cb0a9dc, 0x76f988da] ++
  [0x983e5152, 0xa831c66d, 0xb00327c8, 0xbf597fc7, 0xc6e00bf3, 0xd5a79147, 0x06ca6351, 0x14292967] ++
  [0x27b70a85, 0x2e1b2138, 0x4d2c6dfc, 0x53380d13, 0x650a7354, 0x766a0abb, 0x81c2c92e, 0x92722c85] ++
  [0xa2bfe8a1, 0xa81a664b, 0xc24b8b70, 0xc76c51a3, 0xd192e819, 0xd6990624, 0xf40e3585, 0x106aa070] ++
  [0x19a4c116, 0x1e376c08, 0x2748774c, 0x34b0bcb5, 0x391c0cb3, 0x4ed8aa4a, 0x5b9cca4f, 0x682e6ff3] ++
  [0x748f82ee, 0x78a5636f, 0x84c87814, 0x8cc70208, 0x90befffa, 0xa4506ceb, 0xbef9a3f7, 0xc67178f2]

/-- The eight initial words. -/
def shaH : List Word := [0x6a09e667, 0xbb67ae85, 0x3c6ef372, 0xa54ff53a, 0x510e527f, 0x9b05688c, 0x1f83d9ab, 0x5be0cd19]

def shaRot (x : Word) (n : Nat) : Word := x.rotateRight n

/-- Four bytes as a word, most significant first. -/
def shaWord : List Byte → Word
  | [a, b, c, d] => BitVec.ofNat 32 (a.toNat * 2 ^ 24 + b.toNat * 2 ^ 16 + c.toNat * 2 ^ 8 + d.toNat)
  | _ => 0

def shaBytes (w : Word) : List Byte := [24, 16, 8, 0].map (fun k => BitVec.ofNat 8 (w.toNat / 2 ^ k))

/-- The sixteen words of a block, as 64. -/
def shaExtend (w : List Word) : Nat → List Word
  | 0 => w
  | n + 1 =>
    let g := fun (k : Nat) => w.getD (w.length - k) 0
    let s0 := shaRot (g 15) 7 ^^^ shaRot (g 15) 18 ^^^ (g 15) >>> 3
    let s1 := shaRot (g 2) 17 ^^^ shaRot (g 2) 19 ^^^ (g 2) >>> 10
    shaExtend (w ++ [g 16 + s0 + g 7 + s1]) n

/-- One round on the eight working words. -/
def shaRound (v : List Word) (kw : Word) : List Word :=
  match v with
  | [a, b, c, d, e, f, g, h] =>
    let s1 := shaRot e 6 ^^^ shaRot e 11 ^^^ shaRot e 25
    let ch := (e &&& f) ^^^ (~~~ e &&& g)
    let t1 := h + s1 + ch + kw
    let s0 := shaRot a 2 ^^^ shaRot a 13 ^^^ shaRot a 22
    let maj := (a &&& b) ^^^ (a &&& c) ^^^ (b &&& c)
    [t1 + s0 + maj, a, b, c, d + t1, e, f, g]
  | _ => v

/-- One block of 64 bytes. -/
def shaBlock (h : List Word) (b : List Byte) : List Word :=
  let w := shaExtend ((List.range 16).map (fun k => shaWord ((b.drop (4 * k)).take 4))) 48
  let v := (List.zipWith (fun k x => k + x) shaK w).foldl shaRound h
  List.zipWith (fun x y => x + y) h v

def shaBlocks (h : List Word) (b : List Byte) : Nat → List Word
  | 0 => h
  | n + 1 => shaBlocks (shaBlock h (b.take 64)) (b.drop 64) n

/-- The message with its padding and its length in bits. -/
def shaPad (l : List Byte) : List Byte :=
  let n := l.length
  let zeros := (119 - n % 64) % 64
  l ++ [0x80] ++ List.replicate zeros 0 ++ ([56, 48, 40, 32, 24, 16, 8, 0].map (fun k => BitVec.ofNat 8 (8 * n / 2 ^ k)))

/-- SHA-256. -/
def sha256 (l : List Byte) : List Byte :=
  let p := shaPad l
  (shaBlocks shaH p (p.length / 64)).flatMap shaBytes

/-- HMAC-SHA-256 with a key of at most 64 bytes. -/
def hmac (key l : List Byte) : List Byte :=
  let k := key ++ List.replicate (64 - key.length) 0
  sha256 (k.map (fun b => b ^^^ 0x5C) ++ sha256 (k.map (fun b => b ^^^ 0x36) ++ l))

end Sys2Proof.Machine
end

