-- ==== Sys2Proof/Machine/Boot.lean ====
section
/-! DEFINITION. The boot flow: choice of the source, checks of an image, its sections and register lists, acceptance and
rejection, and host loads over PMBus (R461 to R467, R210). -/
namespace Sys2Proof.Machine

/-! ## Images (R462, R463) -/

/-- A section of an image. -/
structure Section where
  type : Nat
  offset : Nat
  len : Nat
  dest : Nat
  /-- Reserved bits of its table entry. -/
  reserved : Nat
deriving DecidableEq, Repr

/-- Where the image is read: the NVM image area, or shared buffer memory. -/
def imageBase (src : Nat) : Nat := if src = 0 then 0x20020000 else 0x13040000

def headWord (mem : Mem) (base off : Nat) : Nat := Mem.read mem (base + off) 4
def imageAuth (mem : Mem) (base : Nat) : Bool := headWord mem base 4 / 256 % 2 = 1

/-- Bytes of the image that sections may use. -/
def imageEnd (mem : Mem) (base : Nat) : Nat := headWord mem base 8 - (if imageAuth mem base then 32 else 0)

def sectionAt (mem : Mem) (base k : Nat) : Section :=
  let w := fun (j : Nat) => headWord mem base (0x40 + 16 * k + 4 * j)
  { type := w 0 % 256, offset := w 1, len := w 2, dest := w 3, reserved := w 0 / 256 }

def sections (mem : Mem) (base : Nat) : List Section := (List.range (headWord mem base 0xC % 256)).map (sectionAt mem base)

/-- A legal LEN. -/
def lenLegal (n : Nat) : Bool := n % 256 = 0 && 256 ≤ n && n ≤ 130816

/-- The destination range of a section lies in a region of its type (R463). -/
def destLegal (x : Section) : Bool :=
  let within := fun (base size : Nat) => decide (base ≤ x.dest) && decide (x.dest + x.len ≤ base + size)
  match x.type with
  | 1 => within 0x10000000 0x100000 || within 0x13040000 0xC0000
  | 2 => within 0x12080000 0x40000
  | 3 => within 0x120C0000 0x40000
  | 4 => within 0x12000000 0x30000
  | 5 => within 0x12040000 0x40000
  | 6 => within 0x13040000 0xC0000
  | _ => x.dest = 0

/-- The section is written to memory. -/
def Section.stored (x : Section) : Bool := 1 ≤ x.type && x.type ≤ 6

def sectionFails (limit : Nat) (x : Section) : Bool :=
  x.reserved ≠ 0 || x.type = 0 || 8 < x.type || x.offset % 8 ≠ 0 || x.len % 8 ≠ 0 || limit < x.offset + x.len || !destLegal x

/-- Two sections overlap in their destinations. -/
def overlapping : List Section → Bool
  | [] => false
  | x :: t => (x.stored && t.any (fun y => y.stored && meets x.dest x.len y.dest y.len)) || overlapping t

/-- The ERR code of a header and section table, or none where they pass (R463, R466). -/
def headerError (mem : Mem) (base : Nat) : Option Nat :=
  let w := headWord mem base
  let n := w 0xC % 256
  if w 0 ≠ 0x9063B007 then some 1
  else if !lenLegal (w 8) then some 7
  else if w 4 % 256 ≠ 1 || w 4 / 512 ≠ 0 || w 0xC / 256 ≠ 0 || n = 0 || 64 < n ||
      (List.range 10).any (fun k => w (0x14 + 4 * k) != 0) || imageEnd mem base < 0x40 + 16 * n then some 2
  else if (sections mem base).any (sectionFails (imageEnd mem base)) || overlapping (sections mem base) then some 2
  else none

/-! ## Integrity (R464) -/

/-- The CRC of the image holds. -/
def imageCrcOk (mem : Mem) (base : Nat) : Bool :=
  crc32 (Mem.bytes mem base 0x3C ++ Mem.bytes mem (base + 0x40) (imageEnd mem base - 0x40)) = headWord mem base 0x3C

/-- The device key. -/
def deviceKey (mem : Mem) : List Byte := Mem.bytes mem 0x2003FF00 32

/-- Authentication: a tag under a key, no tag without one. -/
def imageAuthOk (mem : Mem) (base : Nat) : Bool :=
  let key := deviceKey mem
  let keyed := key.any (fun b => b != 0)
  if keyed != imageAuth mem base then false
  else if !keyed then true
  else
    let n := imageEnd mem base
    hmac key (Mem.bytes mem base n) = Mem.bytes mem (base + n) 32

/-! ## Rejection and acceptance (R465, R466, R210) -/

/-- Blocks of the image. -/
def Part.imageBlocks (m : Part) : Nat := m.sys.imageLen / 256

/-- A rejected image: ERR, the event, HIRQ bit 0; then the ROM waits for a host image, or stops in WAIT. -/
def Part.reject (m : Part) (err version : Nat) : Part :=
  let m := (m.put F.SYS_BOOT_ERR 0 err).putBit F.SYS_HIRQ_HIRQ 0 0 true
  let m := m.event 0x0003 0 err (m.get F.SYS_PROG_LOAD_ITEM 0) version
  let m := m.setSys { m.sys with loading := false }
  if 2 ≤ m.get F.SYS_BOOT_STRAP 0 then (m.setSys { m.sys with stopped := true }).setCoreState 0 .wait else m.waitHost

/-- What the boot ROM leaves in SC0: its registers are free, and it starts at CSTART0 or in the service program, whose place in
the ROM is free. -/
def Part.startSc0 (m : Part) : Part :=
  let n := m.free
  let x := m.core 0
  let start := 4 * m.get F.SYS_CSTART_ADDR 0
  let pc : Word := if start = 0 then Config.freeWord n &&& 0xFFFC else BitVec.ofNat 32 start
  let g : Store Word := (List.range 32).foldl (fun (g : Store Word) r => g.set 0 r (Config.freeWord (n + 1 + r))) []
  let x := { x with pc := pc, g := g, scr0 := Config.freeWord (n + 33), scr1 := Config.freeWord (n + 34),
                    evbase := Config.freeWord (n + 35) &&& 0xFFFFFE00, iret := (Config.freeWord (n + 36)).toNat }
  let m := { m with free := n + 37 }.setCore 0 x
  if x.st = .halt then m else m.setCoreState 0 .run

/-- SC1 to SC3 start at acceptance. -/
def Part.startOthers (m : Part) : Part := m.each [1, 2, 3] (fun c m => if (m.core c).st = .off then m.resetCore c else m)

/-- The bits of a byte of an OPT entry that are not reserved, by offset in the entry (R207). -/
def optMask (b : Nat) : Byte :=
  if b = 1 || b = 3 || b = 0xD || b = 0xF then 3 else if b = 0x12 || b = 0x13 || 0x18 ≤ b then 0 else 0xFF

/-- The profiles that the parameters describe. -/
def optProfiles (params : List Byte) : List Nat := (List.range 48).filter (Config.optDescribed params)

/-- One profile's 128 entries of 32 bytes, whole, with their reserved bits 0. -/
def buildProfile (mem : Mem) (params : List Byte) (prof : Nat) : Mem :=
  (List.range 4096).foldl (fun mem k =>
    Mem.setByte mem (optAddr prof 0 0 + k) (Config.builtOpt params (4096 * prof + k) &&& optMask (k % 32))) mem

/-- While XOPT is 0 the ROM writes every entry of each profile that the parameters of the type 8 sections describe, and no other entry
(R210). Which profiles those are and what the entries hold is free (log entry 3). -/
def buildOpt (mem : Mem) (params : List Byte) : Mem :=
  (optProfiles params).foldl (fun mem prof => buildProfile mem params prof) mem

/-- Acceptance: step 8 of R465. -/
def State.accept (s : State) (version : Nat) (params : Option (List Byte)) : State :=
  let s := match params with
    | some l => if s.part.is F.MICA_CTRL_XOPT 0 then s else { s with mem := buildOpt s.mem l }
    | none => s
  s.lift (fun m =>
    let n := m.imageBlocks
    let m := ((m.put F.SYS_BOOT_STATE 0 4).put F.SYS_BOOTVER_VERSION 0 version).setProg R.SYS_PROG_LOAD (n - 1) 1 1
    let m := ({ m with tb := { m.tb with boot := false } } : Part).setCause causeBoot false
    let m := (m.setSys { m.sys with loading := false }).event 0x0003 0 0 (n - 1) version
    let m := m.startOthers.startSc0
    m.each allRails (fun r m => m.tryArm r))

/-! ## The load (R465) -/

/-- IMAGE_LOAD_START: the header and the section table are read and checked. -/
def State.loadStart (s : State) : State :=
  if s.part.get F.SYS_BOOT_STATE 0 ≠ 1 || s.part.sys.loading || s.part.sys.stopped then s
  else
    let src := s.part.get F.SYS_BOOT_SRC 0
    let base := imageBase src
    let s := s.lift (fun m => (m.put F.SYS_BOOT_ERR 0 0).setProg R.SYS_PROG_LOAD 0 0 1)
    if src ≠ 0 && !lenLegal s.part.sys.imageLen then s.lift (fun m => m.reject 7 0)
    else
      let s := if src = 0 then s.lift (fun m => m.nvmSweep (nvmGroup base) (8 + 2 * (headWord s.mem base 0xC % 256))) else s
      match headerError s.mem base with
      | some e => s.lift (fun m => m.reject e (headWord s.mem base 0x10))
      | none => s.lift (fun m => m.setSys { m.sys with loading := true, blocks := 0, imageLen := headWord s.mem base 8 })

/-- While an image is read PROG counts its blocks; the last one ends with the load (R39, R40, R465; the pace is a DESIGN CHOICE, log
entry 124). -/
def Part.loadTick (m : Part) : Part :=
  let k := m.sys.blocks + 1
  if m.sys.loading && decide (k < m.imageBlocks) then (m.setSys { m.sys with blocks := k }).setProg R.SYS_PROG_LOAD k k m.imageBlocks
  else m

/-- Sections 1 to 6 go to their destinations, from the image as it was read. -/
def writeSections (mem img : Mem) (base : Nat) : List Section → Mem
  | [] => mem
  | x :: t => writeSections (if x.stored then Mem.writeBytes mem x.dest (Mem.bytes img (base + x.offset) x.len) else mem) img base t

/-- Address and value pairs of the register lists, in section order. -/
def registerPairs (img : Mem) (base : Nat) (l : List Section) : List (Nat × Nat) :=
  (l.filter (fun x => x.type = 7)).flatMap (fun x =>
    (List.range (x.len / 8)).map (fun k => (headWord img base (x.offset + 8 * k), headWord img base (x.offset + 8 * k + 4))))

/-- The register lists are applied; a bus error ends them. A write that resets the part ends the load. -/
def State.applyPairs (s : State) : List (Nat × Nat) → Bool × State
  | [] => (true, s)
  | (a, v) :: t =>
    if !s.part.sys.loading then (true, s)
    else
      let x := if inPeripheral a then s.fabricWrite (.core 0) a 4 v else s.busError
      if x.err then (false, x.post) else x.post.applyPairs t

/-- Parameters of the type 8 sections, where there is one. -/
def serviceParams (img : Mem) (base : Nat) (l : List Section) : Option (List Byte) :=
  let p := l.filter (fun x => x.type = 8)
  if p.isEmpty then none else some (p.flatMap (fun x => Mem.bytes img (base + x.offset) x.len))

/-- The end of the register lists: a bus error, no entry, or acceptance. -/
def State.loadVerdict (s : State) (ok : Bool) (version : Nat) (params : Option (List Byte)) : State :=
  if !s.part.sys.loading then s
  else if !ok then s.lift (fun m => m.reject 5 version)
  else if s.part.get F.SYS_CSTART_ADDR 0 = 0 && params.isNone then s.lift (fun m => m.reject 6 version)
  else s.accept version params

/-- IMAGE_LOAD_END: the image has been read and its sections written; CRC and tag are compared, and the register lists
applied. An image of the NVM with a group that cannot be read fails its CRC. -/
def State.loadEnd (s : State) : State :=
  if !s.part.sys.loading then s
  else
    let src := s.part.get F.SYS_BOOT_SRC 0
    let base := imageBase src
    let img := s.mem
    let l := sections img base
    let version := headWord img base 0x10
    let len := headWord img base 8
    let first := 8 + 2 * (headWord img base 0xC % 256)
    let bad := src = 0 && s.part.nvmBad base len
    let n := s.part.imageBlocks
    let s := if src = 0 then s.lift (fun m => m.nvmSweep (nvmGroup base + first) (len / 8 - first)) else s
    let s : State := { s with mem := writeSections s.mem img base l }
    let s := s.lift (fun m => (m.put F.SYS_BOOT_STATE 0 2).setProg R.SYS_PROG_LOAD (n - 1) (n - 1) n)
    if bad || !imageCrcOk img base then s.lift (fun m => m.reject 3 version)
    else if !imageAuthOk img base then s.lift (fun m => m.reject 4 version)
    else
      let x := State.applyPairs (s.lift (fun m => m.put F.SYS_BOOT_STATE 0 3)) (registerPairs img base l)
      x.2.loadVerdict x.1 version (serviceParams img base l)

/-- RECALL_END: the source is chosen under the strap (R439, R465). -/
def Part.recallThenBoot (m : Part) : Part :=
  if !m.recalling then m
  else
    let m := m.recallEnds
    if m.get F.SYS_BOOT_STATE 0 = 0 then m.chooseSource else m

/-! ## Host images over PMBus (R467) -/

/-- The boot ROM answers the image commands while STATE is WAITHOST. -/
def Part.answersImage (m : Part) : Bool := m.get F.SYS_BOOT_STATE 0 = 5

/-- A send byte; a read of it is a violation (R350). -/
def Part.sendByte (m : Part) (code : Nat) (op : PmbOp) (act : Part → Part) : Part :=
  if !m.pmbUp then m.pmbDown
  else
    let m := m.pmbStart
    if op.read then ((m.ackBytes 3).sendFF op.count).violation 4 else m.pmbWrite code 0 op (fun _ m => act m)

/-- The bytes that an IMAGE_DATA block write carries, where it is in order; and the port after it. -/
def Part.imageBlock (m : Part) (op : PmbOp) : Option (List Byte) × Part :=
  if !m.pmbUp then (none, m.pmbDown)
  else
    let m := m.pmbStart
    let n := (op.data.headD 0).toNat
    if op.read then (none, ((m.ackBytes 3).sendFF op.count).violation 4)
    else if n = 0 || 32 < n then (none, (m.ackBytes (2 + op.data.length)).cml cmlData)
    else
      let ok := !m.protects 0xED && (op.data.length = n + 1 && !m.is F.PMB_CTRL_PECREQ 0 ||
        (op.data.length = n + 2 && some (crc8 (m.pmbHead 0xED ++ op.data.take (n + 1))) == op.data.getLast?))
      (if ok then some ((op.data.drop 1).take n) else none, m.pmbWrite 0xED (n + 1) op (fun _ m => m))

/-- IMAGE_DATA: bytes are appended at the offset, in shared buffer memory. -/
def State.imageData (s : State) (op : PmbOp) : State :=
  let x := s.part.imageBlock op
  match x.1 with
  | none => { s with part := x.2 }
  | some l =>
    let off := s.part.sys.offset
    let kept := l.take (0xC0000 - off)
    { s with mem := Mem.writeBytes s.mem (0x13040000 + off) kept, part := x.2.setSys { x.2.sys with offset := off + kept.length } }

/-- A command of the codes 0xD0 to 0xEF: the boot ROM's image commands while it waits for a host, else the mailbox. -/
def State.mfrCommand (s : State) (code : Nat) (op : PmbOp) : State :=
  if !s.part.answersImage || code < 0xEC then s.lift (fun m => m.mailArrives code op)
  else if code = 0xEC then s.lift (fun m => m.sendByte code op (fun m => m.setSys { m.sys with offset := 0 }))
  else if code = 0xED then s.imageData op
  else if code = 0xEE then s.lift (fun m => m.sendByte code op (fun m => m.hostLoad m.sys.offset 2))
  else s.lift (fun m => m.pmbGet code false true op (fun m => (m, blockOfBytes (lowBytes (m.word R.SYS_BOOT.base).toNat 4))))

/-! ## The rows -/

def execRecallEnd (s : State) : Out := .next (s.lift Part.recallThenBoot)
def execImageLoadStart (s : State) : Out := .next s.loadStart
def execImageLoadEnd (s : State) : Out := .next s.loadEnd
def execBootgo (i : Initiator) (v : Word) (s : State) : Out := .next (s.lift (fun m => m.writeBootgo i v))
def execMfrSpecific (code : Fin 32) (op : PmbOp) (s : State) : Out := .next (s.mfrCommand (0xD0 + code) op)

/-- The commands of R339 by their codes. -/
def decodedCommand : Nat → Option (PmbOp → State → Out)
  | 0x00 => some execPage
  | 0x01 => some execOperation
  | 0x02 => some execOnOffConfig
  | 0x03 => some execClearFaults
  | 0x10 => some execWriteProtect
  | 0x19 => some execCapability
  | 0x20 => some execVoutMode
  | 0x21 => some execVoutCommand
  | 0x24 => some execVoutMax
  | 0x25 => some execVoutMarginHigh
  | 0x26 => some execVoutMarginLow
  | 0x40 => some execVoutOvFaultLimit
  | 0x46 => some execIoutOcFaultLimit
  | 0x4F => some execOtFaultLimit
  | 0x78 => some execStatusByte
  | 0x79 => some execStatusWord
  | 0x7A => some execStatusVout
  | 0x7B => some execStatusIout
  | 0x7D => some execStatusTemperature
  | 0x7E => some execStatusCml
  | 0x88 => some execReadVin
  | 0x8B => some execReadVout
  | 0x8C => some execReadIout
  | 0x8D => some execReadTemperature1
  | 0x96 => some execReadPout
  | 0x98 => some execPmbusRevision
  | 0x99 => some execMfrId
  | 0x9A => some execMfrModel
  | _ => none

/-- A code byte that the row sends: one that is neither a command of R339 nor a manufacturer's code is not acknowledged; any other one is,
and its command follows (R334). -/
def execInvalidCommandCode (code : Byte) (op : PmbOp) (s : State) : Out :=
  match decodedCommand code.toNat with
  | some f => f op s
  | none =>
    if 0xD0 ≤ code.toNat && code.toNat ≤ 0xEF then .next (s.mfrCommand code.toNat op)
    else .next (s.lift (fun m => if !m.pmbUp then m.pmbDown else (m.pmbStart.ackBytes 1).cml cmlCmd))

def execImageStart (op : PmbOp) (s : State) : Out := .next (s.mfrCommand 0xEC op)
def execImageData (op : PmbOp) (s : State) : Out := .next (s.mfrCommand 0xED op)
def execImageEnd (op : PmbOp) (s : State) : Out := .next (s.mfrCommand 0xEE op)
def execImageStatus (op : PmbOp) (s : State) : Out := .next (s.mfrCommand 0xEF op)

end Sys2Proof.Machine
end

