-- ==== Sys2Proof/Machine/LProfile.lean ====
section
/-! DEFINITION. The L-profile instructions (R142 to R154). Each command is the instruction that a lane executes next in the
invocation it runs; on a lane that runs no invocation nothing happens (log entry 20). -/
namespace Sys2Proof.Machine

/-- Words of the slot's extent in LPM; a ROM program's length is not given (R117). -/
def Part.slotLen (m : Part) (x : Run) : Option Nat := if x.slot < 8 then none else some (m.get F.BSL_PDIR_LEN x.slot)

/-- The next word lies in the slot's extent (R153). -/
def Part.inExtent (m : Part) (x : Run) : Bool :=
  match m.slotLen x with
  | none => true
  | some n => decide (x.ip < n)

/-- One instruction of the invocation lane `l` runs: `ops` lane-ops, and its effect on the invocation, or none where it is
an illegal operation. One that would exceed COST is not executed (R105, R110, R152). -/
def State.lane (s : State) (l : Fin 16) (ops : Run → Nat) (f : Run → Option Run) : State :=
  match (s.part.lane l).run with
  | none => s
  | some x =>
    if !s.part.inExtent x || decide (x.cost < x.used + ops x) then s.lift (fun m => m.programFailure l)
    else match f x with
      | none => s.lift (fun m => m.programFailure l)
      | some y =>
        s.lift (fun m => m.setLane l { m.lane l with
          run := some { y with used := x.used + ops x, ip := y.ip + 1, stepped := true }, ops := (m.lane l).ops + ops x })

/-- A data instruction of one lane-op that computes a value for `dd`. -/
def State.laneData (s : State) (l dd : Fin 16) (f : Run → Option Word) : State :=
  s.lane l (fun _ => 1) (fun x => (f x).map (fun v => x.setReg dd v))

/-- Two sources and an integer result for `dd`. -/
def State.lane2 (s : State) (l dd : Fin 16) (sa sb : Fin 32) (f : Word → Word → Int) : State :=
  s.laneData l dd (fun x => (x.src sa).bind (fun a => (x.src sb).map (fun b => BitVec.ofInt 32 (f a b))))

/-- Word index of a pointer and an offset, or none above 65,535 (R153). -/
def Run.index (x : Run) (p : Fin 4) (off : BitVec 12) : Option Nat :=
  if x.ptr p + off.toNat ≤ 65535 then some (x.ptr p + off.toNat) else none

/-- LDIN: an input port; an optional task has no port values, so its result is free (R145, R153, log entry 21). -/
def execLdin (l dd : Fin 16) (port : Fin 32) (s : State) : Out :=
  let s' := s.laneData l dd (fun x => if 16 ≤ port.val then none else
    some (if x.isOpt then s.part.freeWord.1 else x.ports.get 0 port))
  .next (s'.lift (fun m => { m with free := m.free + 1 }))

/-- The output port `port` takes `v` in the private copy, or none where R83 or R153 makes it illegal. -/
def Run.emit (x : Run) (port : Fin 32) (v : Word) : Option Run :=
  if x.isOpt then none
  else match port.val, x.isVolt with
    | 16, false => some { x with duty := some v.toInt }
    | 17, false => some { x with width := some v }
    | 18, true => some { x with iref := some v.toInt }
    | 19, true => some { x with vset := some v.toInt }
    | _, _ => none

/-- EMIT (R145, R150, R153). -/
def execEmit (l : Fin 16) (port sa : Fin 32) (s : State) : Out :=
  .next (s.lane l (fun _ => 1) (fun x => (x.src sa).bind (fun v => x.emit port v)))

/-- MOV dd, sa (R145). -/
def execMovReg (l dd : Fin 16) (sa : Fin 32) (s : State) : Out := .next (s.laneData l dd (fun x => x.src sa))

/-- MOV dd, #imm: the sign-extended immediate, or the high half replaced (R145). -/
def execMovImm (l dd : Fin 16) (h : Bool) (imm : BitVec 16) (s : State) : Out :=
  .next (s.laneData l dd (fun x => some (if h then imm ++ (x.reg dd).setWidth 16 else imm.signExtend 32)))

/-- An accumulator over 2^sh, rounded half to even or down, saturated to 32 bits (R145). -/
def accToWord (a : Int) (down : Bool) (sh : Nat) : Word :=
  BitVec.ofInt 32 (satS 32 (if down then a / 2 ^ sh else roundHalfEven a (2 ^ sh)))

/-- MOV dd, accN, #sh (R145). -/
def execMovFromAcc (l dd : Fin 16) (acc : Fin 8) (t : Bool) (sh : Fin 64) (s : State) : Out :=
  .next (s.laneData l dd (fun x => some (accToWord (x.accu acc) t sh)))

/-- MOV accN, sa, #sh: illegal above 39 (R145, R153). -/
def execMovToAcc (l : Fin 16) (acc : Fin 8) (sa : Fin 32) (sh : Fin 64) (s : State) : Out :=
  .next (s.lane l (fun _ => 1) (fun x => if 39 < sh.val then none else
    (x.src sa).map (fun v => x.setAccu acc (v.toInt * 2 ^ sh.val))))

/-- MOV pN, #imm: load, or add modulo 65,536 (R145). -/
def execMovPtr (l : Fin 16) (p : Fin 4) (a : Bool) (imm : BitVec 16) (s : State) : Out :=
  .next (s.lane l (fun _ => 1) (fun x => some (x.setPtr p (if a then x.ptr p + imm.toNat else imm.toNat))))

/-- MOV dd, [pN + off] (R145, R151, R153). -/
def execMovLoad (l dd : Fin 16) (p : Fin 4) (off : BitVec 12) (s : State) : Out :=
  .next (s.laneData l dd (fun x => (x.index p off).map (fun w => x.load s.mem w)))

/-- MOV [pN + off], sa, into the private copy (R145, R151, R153). -/
def execMovStore (l : Fin 16) (sa : Fin 32) (p : Fin 4) (off : BitVec 12) (s : State) : Out :=
  .next (s.lane l (fun _ => 1) (fun x => (x.src sa).bind (fun v => (x.index p off).bind (fun w => x.store w v))))

/-- ADD, saturating to 32 bits (R145). -/
def execLAdd (l dd : Fin 16) (sa sb : Fin 32) (s : State) : Out :=
  .next (s.lane2 l dd sa sb (fun a b => satS 32 (a.toInt + b.toInt)))

/-- SUB, saturating to 32 bits (R145). -/
def execLSub (l dd : Fin 16) (sa sb : Fin 32) (s : State) : Out :=
  .next (s.lane2 l dd sa sb (fun a b => satS 32 (a.toInt - b.toInt)))

/-- The new accumulator of MAC: an exact product added or subtracted, the sum saturating (R145). -/
def macAcc (old : Int) (z n : Bool) (a b : Int) : Int :=
  let base := if z then 0 else old
  satAcc (if n then base - a * b else base + a * b)

/-- MAC accN, sa, sb (R145). -/
def execMac (l : Fin 16) (acc : Fin 8) (z : Bool) (sa sb : Fin 32) (n : Bool) (s : State) : Out :=
  .next (s.lane l (fun _ => 1) (fun x => (x.src sa).bind (fun a => (x.src sb).map (fun b =>
    x.setAccu acc (macAcc (x.accu acc) z n a.toInt b.toInt)))))

/-- MAC accN, sa, #imm (R145). -/
def execMacImm (l : Fin 16) (acc : Fin 8) (z : Bool) (sa : Fin 32) (n : Bool) (imm : BitVec 16) (s : State) : Out :=
  .next (s.lane l (fun _ => 1) (fun x => (x.src sa).map (fun a =>
    x.setAccu acc (macAcc (x.accu acc) z n a.toInt imm.toInt))))

/-- A cascade instruction: lane-ops from NS, the output to `dd`, the history into the private copy (R145, R146, R153). -/
def State.laneSos (s : State) (l dd : Fin 16) (sa : Fin 32) (pc ps : Fin 4) (bfp : Bool) : State :=
  s.lane l (fun x => 1 + (if bfp then 1 else 3) * x.sections s.mem (x.ptr pc)) (fun x =>
    (x.src sa).bind (fun v => (x.sos s.mem bfp (x.ptr pc) (x.ptr ps) v.toInt).map (fun r =>
      r.1.setReg dd (BitVec.ofInt 32 r.2))))

/-- SOS: the fixed-format cascade (R146). -/
def execSos (l dd : Fin 16) (sa : Fin 32) (pc ps : Fin 4) (s : State) : Out := .next (s.laneSos l dd sa pc ps false)

/-- SOSB: the block floating-point cascade (R146). -/
def execSosb (l dd : Fin 16) (sa : Fin 32) (pc ps : Fin 4) (s : State) : Out := .next (s.laneSos l dd sa pc ps true)

/-- FFV: min(0xFFFF, floor(sa × 65,536 ÷ sb)), 0 when sb is not positive (R145). -/
def execFfv (l dd : Fin 16) (sa sb : Fin 32) (s : State) : Out :=
  .next (s.lane2 l dd sa sb (fun a b => ffv a.toNat b.toInt))

/-- FFS: the signed product over 16, rounded down, saturated (R145). -/
def execFfs (l dd : Fin 16) (sa sb : Fin 32) (s : State) : Out :=
  .next (s.lane2 l dd sa sb (fun a b => satS 32 (a.toInt * b.toInt / 16)))

/-- min(max(a, lo), hi), signed or unsigned (R147). -/
def clmpWord (u : Bool) (a lo hi : Word) : Word :=
  if u then (let x := if a.ult lo then lo else a; if hi.ult x then hi else x)
  else (let x := if a.slt lo then lo else a; if hi.slt x then hi else x)

/-- CLMP: bounds from two sources, or both from the halves of one (R147). -/
def execClmp (l dd : Fin 16) (sa lo hi : Fin 32) (u k : Bool) (s : State) : Out :=
  .next (s.laneData l dd (fun x => (x.src sa).bind (fun a => (x.src lo).bind (fun b =>
    if k then
      if hi.val = 0 then some (clmpWord u a ((b.setWidth 16).setWidth 32) (b >>> 16)) else none
    else (x.src hi).map (fun c => clmpWord u a b c)))))

/-- FERR: the following-error operands; illegal in an optional task (R148, R153). -/
def execFerr (l : Fin 16) (sa sb : Fin 32) (s : State) : Out :=
  .next (s.lane l (fun _ => 1) (fun x => if x.isOpt then none else
    (x.src sa).bind (fun a => (x.src sb).map (fun b => { x with ferr := some (a.toInt, b.toInt) }))))

/-- GW: the width codes of the OPT entry the current and the temperature select; 2 lane-ops; illegal in an optional
task (R149, R153, R208). -/
def execGw (l dd : Fin 16) (sa sb : Fin 32) (s : State) : Out :=
  .next (s.lane l (fun _ => 2) (fun x => if x.isOpt then none else
    (x.src sa).bind (fun a => (x.src sb).map (fun b =>
      let g := s.part.gateWidth s.mem x a.toInt b.toInt
      { x.setReg dd g.1 with gw := some g.2 }))))

/-- SKB: skip n instructions when the bit equals v; illegal where n is 0 or the skip would pass the slot's last word
(R145, R153). -/
def execSkb (l : Fin 16) (sa bit : Fin 32) (v : Bool) (n : Fin 16) (s : State) : Out :=
  .next (s.lane l (fun _ => 1) (fun x => (x.src sa).bind (fun a =>
    let past := match s.part.slotLen x with
      | none => false
      | some len => decide (len ≤ x.ip + n.val)
    if n.val = 0 || past then none
    else some (if a.getLsbD bit = v then { x with ip := x.ip + n.val } else x))))

/-- YIELD: one lane-op, then the private copy commits (R80, R145, R152). -/
def execYield (l : Fin 16) (s : State) : Out :=
  .next (match (s.part.lane l).run with
    | none => s
    | some x =>
      let rom := decide (x.slot < 8) && !x.stepped
      if !s.part.inExtent x || (!rom && decide (x.cost < x.used + 1)) then s.lift (fun m => m.programFailure l)
      else s.commit l (s.part.plannedLead s.mem x.rail))

/-- TRAPL: a program failure whose code the record shows; where it would exceed COST it is not executed (R110, R145, R152). -/
def execTrapl (l : Fin 16) (code : BitVec 16) (s : State) : Out :=
  .next (match (s.part.lane l).run with
    | none => s
    | some x =>
      if !s.part.inExtent x || decide (x.cost < x.used + 1) then s.lift (fun m => m.programFailure l)
      else s.lift (fun m => (m.setLane l { m.lane l with ops := (m.lane l).ops + 1 }).programFailure l code.toNat))

end Sys2Proof.Machine
end

