-- ==== Sys2Proof/Machine/Dispatch.lean ====
section
/-! DEFINITION. One arm for each command of the table, in the table's order. -/
namespace Sys2Proof.Machine

def exec (i : Instr) (s : State) : Host.Outcome State Fault Refusal :=
  match i with
  | .registerWrite who a v => Sys2Proof.Machine.execRegisterWrite who a v s
  | .memoryAccess who wr size a v => Sys2Proof.Machine.execMemoryAccess who wr size a v s
  | .fabricBackstopTimeout who wr size a v => Sys2Proof.Machine.execFabricBackstopTimeout who wr size a v s
  | .garnetRecordWrite => Sys2Proof.Machine.execGarnetRecordWrite s
  | .railEnable who r => Sys2Proof.Machine.execRailEnable who r s
  | .railDisable who r => Sys2Proof.Machine.execRailDisable who r s
  | .railLeavesArming r => Sys2Proof.Machine.execRailLeavesArming r s
  | .softstartComplete r => Sys2Proof.Machine.execSoftstartComplete r s
  | .railSrcWrite who r v => Sys2Proof.Machine.execRailSrcWrite who r v s
  | .fallbackRequest who r => Sys2Proof.Machine.execFallbackRequest who r s
  | .fallbackReturn who r => Sys2Proof.Machine.execFallbackReturn who r s
  | .dischargeEnd r => Sys2Proof.Machine.execDischargeEnd r s
  | .disto r => Sys2Proof.Machine.execDisto r s
  | .railFaultClear who r => Sys2Proof.Machine.execRailFaultClear who r s
  | .audioFrame n cut onTime long period slots => Sys2Proof.Machine.execAudioFrame n cut onTime long period slots s
  | .missingSync n held => Sys2Proof.Machine.execMissingSync n held s
  | .outputFrame n => Sys2Proof.Machine.execOutputFrame n s
  | .bclkStop n inFrame => Sys2Proof.Machine.execBclkStop n inFrame s
  | .knotWrite r => Sys2Proof.Machine.execKnotWrite r s
  | .recomputeComplete r => Sys2Proof.Machine.execRecomputeComplete r s
  | .loadGainChange who c v => Sys2Proof.Machine.execLoadGainChange who c v s
  | .fullScaleGainChange who c v => Sys2Proof.Machine.execFullScaleGainChange who c v s
  | .channelRemap who c v => Sys2Proof.Machine.execChannelRemap who c v s
  | .channelMute who c => Sys2Proof.Machine.execChannelMute who c s
  | .releaseOfMute who c => Sys2Proof.Machine.execReleaseOfMute who c s
  | .vDropOrMarginChange who r margin v => Sys2Proof.Machine.execVDropOrMarginChange who r margin v s
  | .depthChange who g v => Sys2Proof.Machine.execDepthChange who g v s
  | .safCtrlWrite who v => Sys2Proof.Machine.execSafCtrlWrite who v s
  | .zeroEvent p => Sys2Proof.Machine.execZeroEvent p s
  | .periodEvent p => Sys2Proof.Machine.execPeriodEvent p s
  | .cmpaEvent p => Sys2Proof.Machine.execCmpaEvent p s
  | .cmpbEvent p => Sys2Proof.Machine.execCmpbEvent p s
  | .snapshot p => Sys2Proof.Machine.execSnapshot p s
  | .pwmPeriodWrite who p v => Sys2Proof.Machine.execPwmPeriodWrite who p v s
  | .pwmRperWrite who r v => Sys2Proof.Machine.execPwmRperWrite who r v s
  | .pwmDutyWrite who p v => Sys2Proof.Machine.execPwmDutyWrite who p v s
  | .pwmOffsetWrite who p v => Sys2Proof.Machine.execPwmOffsetWrite who p v s
  | .rsyncNow who r => Sys2Proof.Machine.execRsyncNow who r s
  | .tripInputEdge n level => Sys2Proof.Machine.execTripInputEdge n level s
  | .blankingClose p => Sys2Proof.Machine.execBlankingClose p s
  | .safeForce who v => Sys2Proof.Machine.execSafeForce who v s
  | .safeRelease who v => Sys2Proof.Machine.execSafeRelease who v s
  | .tbCfgWrite who v => Sys2Proof.Machine.execTbCfgWrite who v s
  | .relockComplete refOk => Sys2Proof.Machine.execRelockComplete refOk s
  | .timebaseLoss cause => Sys2Proof.Machine.execTimebaseLoss cause s
  | .timebaseRecovery pllLock refOk => Sys2Proof.Machine.execTimebaseRecovery pllLock refOk s
  | .dllLockLoss => Sys2Proof.Machine.execDllLockLoss s
  | .dllLockReturn => Sys2Proof.Machine.execDllLockReturn s
  | .invocationDispatch l => Sys2Proof.Machine.execInvocationDispatch l s
  | .invocationDeadline t => Sys2Proof.Machine.execInvocationDeadline t s
  | .costOverrun l => Sys2Proof.Machine.execCostOverrun l s
  | .admissionDecision w => Sys2Proof.Machine.execAdmissionDecision w s
  | .laneParityError l => Sys2Proof.Machine.execLaneParityError l s
  | .laneDisable who l => Sys2Proof.Machine.execLaneDisable who l s
  | .laneEnable who l => Sys2Proof.Machine.execLaneEnable who l s
  | .laneSelfCheckDone l pass => Sys2Proof.Machine.execLaneSelfCheckDone l pass s
  | .liveMarginUpdate busyNs => Sys2Proof.Machine.execLiveMarginUpdate busyNs s
  | .optionalTaskTimer j => Sys2Proof.Machine.execOptionalTaskTimer j s
  | .optionalTaskRequest who j => Sys2Proof.Machine.execOptionalTaskRequest who j s
  | .ldin l dd port => Sys2Proof.Machine.execLdin l dd port s
  | .emit l port sa => Sys2Proof.Machine.execEmit l port sa s
  | .movReg l dd sa => Sys2Proof.Machine.execMovReg l dd sa s
  | .movImm l dd h imm => Sys2Proof.Machine.execMovImm l dd h imm s
  | .movFromAcc l dd acc t sh => Sys2Proof.Machine.execMovFromAcc l dd acc t sh s
  | .movToAcc l acc sa sh => Sys2Proof.Machine.execMovToAcc l acc sa sh s
  | .movPtr l p a imm => Sys2Proof.Machine.execMovPtr l p a imm s
  | .movLoad l dd p off => Sys2Proof.Machine.execMovLoad l dd p off s
  | .movStore l sa p off => Sys2Proof.Machine.execMovStore l sa p off s
  | .lAdd l dd sa sb => Sys2Proof.Machine.execLAdd l dd sa sb s
  | .lSub l dd sa sb => Sys2Proof.Machine.execLSub l dd sa sb s
  | .mac l acc z sa sb n => Sys2Proof.Machine.execMac l acc z sa sb n s
  | .macImm l acc z sa n imm => Sys2Proof.Machine.execMacImm l acc z sa n imm s
  | .sos l dd sa pc ps => Sys2Proof.Machine.execSos l dd sa pc ps s
  | .sosb l dd sa pc ps => Sys2Proof.Machine.execSosb l dd sa pc ps s
  | .ffv l dd sa sb => Sys2Proof.Machine.execFfv l dd sa sb s
  | .ffs l dd sa sb => Sys2Proof.Machine.execFfs l dd sa sb s
  | .clmp l dd sa lo hi u k => Sys2Proof.Machine.execClmp l dd sa lo hi u k s
  | .ferr l sa sb => Sys2Proof.Machine.execFerr l sa sb s
  | .gw l dd sa sb => Sys2Proof.Machine.execGw l dd sa sb s
  | .skb l sa bit v n => Sys2Proof.Machine.execSkb l sa bit v n s
  | .yield_ l => Sys2Proof.Machine.execYield l s
  | .trapl l code => Sys2Proof.Machine.execTrapl l code s
  | .add c rd ra rb => Sys2Proof.Machine.execAdd c rd ra rb s
  | .sub c rd ra rb => Sys2Proof.Machine.execSub c rd ra rb s
  | .and_ c rd ra rb => Sys2Proof.Machine.execAnd c rd ra rb s
  | .or_ c rd ra rb => Sys2Proof.Machine.execOr c rd ra rb s
  | .xor c rd ra rb => Sys2Proof.Machine.execXor c rd ra rb s
  | .shl c rd ra rb => Sys2Proof.Machine.execShl c rd ra rb s
  | .shr c rd ra rb => Sys2Proof.Machine.execShr c rd ra rb s
  | .sar c rd ra rb => Sys2Proof.Machine.execSar c rd ra rb s
  | .slt c rd ra rb => Sys2Proof.Machine.execSlt c rd ra rb s
  | .sltu c rd ra rb => Sys2Proof.Machine.execSltu c rd ra rb s
  | .mul c rd ra rb => Sys2Proof.Machine.execMul c rd ra rb s
  | .mulh c rd ra rb => Sys2Proof.Machine.execMulh c rd ra rb s
  | .mulhu c rd ra rb => Sys2Proof.Machine.execMulhu c rd ra rb s
  | .div c rd ra rb => Sys2Proof.Machine.execDiv c rd ra rb s
  | .divu c rd ra rb => Sys2Proof.Machine.execDivu c rd ra rb s
  | .rem c rd ra rb => Sys2Proof.Machine.execRem c rd ra rb s
  | .remu c rd ra rb => Sys2Proof.Machine.execRemu c rd ra rb s
  | .addi c rd ra imm => Sys2Proof.Machine.execAddi c rd ra imm s
  | .andi c rd ra imm => Sys2Proof.Machine.execAndi c rd ra imm s
  | .ori c rd ra imm => Sys2Proof.Machine.execOri c rd ra imm s
  | .xori c rd ra imm => Sys2Proof.Machine.execXori c rd ra imm s
  | .shli c rd ra sh => Sys2Proof.Machine.execShli c rd ra sh s
  | .shri c rd ra sh => Sys2Proof.Machine.execShri c rd ra sh s
  | .sari c rd ra sh => Sys2Proof.Machine.execSari c rd ra sh s
  | .movh c rd imm => Sys2Proof.Machine.execMovh c rd imm s
  | .ldw c rd ra off => Sys2Proof.Machine.execLdw c rd ra off s
  | .ldh c rd ra off => Sys2Proof.Machine.execLdh c rd ra off s
  | .ldhu c rd ra off => Sys2Proof.Machine.execLdhu c rd ra off s
  | .ldb c rd ra off => Sys2Proof.Machine.execLdb c rd ra off s
  | .ldbu c rd ra off => Sys2Proof.Machine.execLdbu c rd ra off s
  | .stw c rs ra off => Sys2Proof.Machine.execStw c rs ra off s
  | .sth c rs ra off => Sys2Proof.Machine.execSth c rs ra off s
  | .stb c rs ra off => Sys2Proof.Machine.execStb c rs ra off s
  | .beq c ra rb off => Sys2Proof.Machine.execBeq c ra rb off s
  | .bne c ra rb off => Sys2Proof.Machine.execBne c ra rb off s
  | .blt c ra rb off => Sys2Proof.Machine.execBlt c ra rb off s
  | .bge c ra rb off => Sys2Proof.Machine.execBge c ra rb off s
  | .bltu c ra rb off => Sys2Proof.Machine.execBltu c ra rb off s
  | .bgeu c ra rb off => Sys2Proof.Machine.execBgeu c ra rb off s
  | .jal c rd off => Sys2Proof.Machine.execJal c rd off s
  | .jr c rd ra lk => Sys2Proof.Machine.execJr c rd ra lk s
  | .crd c rd p n => Sys2Proof.Machine.execCrd c rd p n s
  | .cwr c ra p n => Sys2Proof.Machine.execCwr c ra p n s
  | .wait_ c => Sys2Proof.Machine.execWait c s
  | .fence c scope => Sys2Proof.Machine.execFence c scope s
  | .trapi c n => Sys2Proof.Machine.execTrapi c n s
  | .reti c => Sys2Proof.Machine.execReti c s
  | .impreciseStoreError c => Sys2Proof.Machine.execImpreciseStoreError c s
  | .sourceLevelChange n => Sys2Proof.Machine.execSourceLevelChange n s
  | .interruptEntry c => Sys2Proof.Machine.execInterruptEntry c s
  | .icEoi who => Sys2Proof.Machine.execIcEoi who s
  | .icPendWrite who k v => Sys2Proof.Machine.execIcPendWrite who k v s
  | .icGdisWrite who v => Sys2Proof.Machine.execIcGdisWrite who v s
  | .gdisTimeout => Sys2Proof.Machine.execGdisTimeout s
  | .semaphoreRead who n => Sys2Proof.Machine.execSemaphoreRead who n s
  | .semaphoreRelease who n v => Sys2Proof.Machine.execSemaphoreRelease who n v s
  | .semaphoreForceFree who v => Sys2Proof.Machine.execSemaphoreForceFree who v s
  | .timerStart who t v => Sys2Proof.Machine.execTimerStart who t v s
  | .timerExpiry t => Sys2Proof.Machine.execTimerExpiry t s
  | .watchdogKick who c v => Sys2Proof.Machine.execWatchdogKick who c v s
  | .watchdogWarning c => Sys2Proof.Machine.execWatchdogWarning c s
  | .watchdogExpiry c => Sys2Proof.Machine.execWatchdogExpiry c s
  | .frameTransmit n => Sys2Proof.Machine.execFrameTransmit n s
  | .frameReceive n valid hop slots => Sys2Proof.Machine.execFrameReceive n valid hop slots s
  | .laneLoss n => Sys2Proof.Machine.execLaneLoss n s
  | .bringUpStart who n => Sys2Proof.Machine.execBringUpStart who n s
  | .enumerationComplete n found => Sys2Proof.Machine.execEnumerationComplete n found s
  | .bringUpTimeout n => Sys2Proof.Machine.execBringUpTimeout n s
  | .laneDisableWrite who n v => Sys2Proof.Machine.execLaneDisableWrite who n v s
  | .managementResponse n ok code data => Sys2Proof.Machine.execManagementResponse n ok code data s
  | .managementTimeout n => Sys2Proof.Machine.execManagementTimeout n s
  | .rawTransaction who n v => Sys2Proof.Machine.execRawTransaction who n v s
  | .segmentFaultHandling p faults ok => Sys2Proof.Machine.execSegmentFaultHandling p faults ok s
  | .micaRebuild p low ok => Sys2Proof.Machine.execRebuild p low ok s
  | .micaRebuildAll who => Sys2Proof.Machine.execRebuildAll who s
  | .micaRotation p ok => Sys2Proof.Machine.execRotation p ok s
  | .ageIncrement p low seg => Sys2Proof.Machine.execAgeIncrement p low seg s
  | .surveyStart who => Sys2Proof.Machine.execSurveyStart who s
  | .surveyStageDone p res => Sys2Proof.Machine.execSurveyStageDone p res s
  | .surveyAbort who => Sys2Proof.Machine.execSurveyAbort who s
  | .steerDeadExpiry p => Sys2Proof.Machine.execSteerDeadExpiry p s
  | .steerConfirmTimeout p => Sys2Proof.Machine.execSteerConfirmTimeout p s
  | .drainFail p => Sys2Proof.Machine.execDrainFail p s
  | .moveToHomeRail who v => Sys2Proof.Machine.execMoveToHomeRail who v s
  | .moveToGuestRail who v => Sys2Proof.Machine.execMoveToGuestRail who v s
  | .poolPark who v => Sys2Proof.Machine.execPark who v s
  | .poolClear who v => Sys2Proof.Machine.execClear who v s
  | .speculativeAddStart r => Sys2Proof.Machine.execSpeculativeAddStart r s
  | .budgetTick => Sys2Proof.Machine.execBudgetTick s
  | .ladderQuietExpiry => Sys2Proof.Machine.execLadderQuietExpiry s
  | .marginStep => Sys2Proof.Machine.execMarginStep s
  | .busSenseTimeout => Sys2Proof.Machine.execBusSenseTimeout s
  | .clvCtrlWrite who v => Sys2Proof.Machine.execClvCtrlWrite who v s
  | .coreRetentionEntry c => Sys2Proof.Machine.execCoreRetentionEntry c s
  | .bankRetentionEntry b => Sys2Proof.Machine.execBankRetentionEntry b s
  | .adcWord who code sat => Sys2Proof.Machine.execAdcWord who code sat s
  | .injectedTrigger sp => Sys2Proof.Machine.execInjectedTrigger sp s
  | .swtrig who sp => Sys2Proof.Machine.execSwtrig who sp s
  | .groupTrigger who g => Sys2Proof.Machine.execGroupTrigger who g s
  | .rotationStep => Sys2Proof.Machine.execRotationStep s
  | .calibrationDone who ofs gain lin => Sys2Proof.Machine.execCalibrationDone who ofs gain lin s
  | .calibrationSweep who => Sys2Proof.Machine.execCalibrationSweep who s
  | .referenceSettled => Sys2Proof.Machine.execReferenceSettled s
  | .senseStale sp => Sys2Proof.Machine.execSenseStale sp s
  | .monitorSample m x => Sys2Proof.Machine.execMonitorSample m x s
  | .monitorEnable who m v => Sys2Proof.Machine.execMonitorEnable who m v s
  | .monitorClear who m v => Sys2Proof.Machine.execMonitorClear who m v s
  | .monitorStuck m => Sys2Proof.Machine.execMonitorStuck m s
  | .chatterWindow m => Sys2Proof.Machine.execChatterWindow m s
  | .faultApply => Sys2Proof.Machine.execFaultApply s
  | .fltNextRead who => Sys2Proof.Machine.execFltNextRead who s
  | .fltAck who v => Sys2Proof.Machine.execFltAck who v s
  | .fltDevclr who => Sys2Proof.Machine.execFltDevclr who s
  | .grnFreeze who => Sys2Proof.Machine.execFreeze who s
  | .grnUnfreeze who => Sys2Proof.Machine.execUnfreeze who s
  | .freezeTimeout => Sys2Proof.Machine.execFreezeTimeout s
  | .grnSwev who v => Sys2Proof.Machine.execGrnSwev who v s
  | .mirrorCopy => Sys2Proof.Machine.execMirrorCopy s
  | .pmbPage op => Sys2Proof.Machine.execPage op s
  | .pmbOperation op => Sys2Proof.Machine.execOperation op s
  | .onOffConfig op => Sys2Proof.Machine.execOnOffConfig op s
  | .clearFaults op => Sys2Proof.Machine.execClearFaults op s
  | .writeProtect op => Sys2Proof.Machine.execWriteProtect op s
  | .pmbCapability op => Sys2Proof.Machine.execCapability op s
  | .voutMode op => Sys2Proof.Machine.execVoutMode op s
  | .voutCommand op => Sys2Proof.Machine.execVoutCommand op s
  | .voutMax op => Sys2Proof.Machine.execVoutMax op s
  | .voutMarginHigh op => Sys2Proof.Machine.execVoutMarginHigh op s
  | .voutMarginLow op => Sys2Proof.Machine.execVoutMarginLow op s
  | .voutOvFaultLimit op => Sys2Proof.Machine.execVoutOvFaultLimit op s
  | .ioutOcFaultLimit op => Sys2Proof.Machine.execIoutOcFaultLimit op s
  | .otFaultLimit op => Sys2Proof.Machine.execOtFaultLimit op s
  | .statusByte op => Sys2Proof.Machine.execStatusByte op s
  | .statusWord op => Sys2Proof.Machine.execStatusWord op s
  | .statusVout op => Sys2Proof.Machine.execStatusVout op s
  | .statusIout op => Sys2Proof.Machine.execStatusIout op s
  | .statusTemperature op => Sys2Proof.Machine.execStatusTemperature op s
  | .statusCml op => Sys2Proof.Machine.execStatusCml op s
  | .readVin op => Sys2Proof.Machine.execReadVin op s
  | .readVout op => Sys2Proof.Machine.execReadVout op s
  | .readIout op => Sys2Proof.Machine.execReadIout op s
  | .readTemperature1 op => Sys2Proof.Machine.execReadTemperature1 op s
  | .readPout op => Sys2Proof.Machine.execReadPout op s
  | .pmbusRevision op => Sys2Proof.Machine.execPmbusRevision op s
  | .mfrId op => Sys2Proof.Machine.execMfrId op s
  | .mfrModel op => Sys2Proof.Machine.execMfrModel op s
  | .mfrSpecific code op => Sys2Proof.Machine.execMfrSpecific code op s
  | .mfrVoutCommandFull op => Sys2Proof.Machine.execMfrVoutCommandFull op s
  | .mfrReadVoutFull op => Sys2Proof.Machine.execMfrReadVoutFull op s
  | .mfrVoutMaxFull op => Sys2Proof.Machine.execMfrVoutMaxFull op s
  | .invalidCommandCode code op => Sys2Proof.Machine.execInvalidCommandCode code op s
  | .protocolViolation kind => Sys2Proof.Machine.execProtocolViolation kind s
  | .mailboxAnswer who v => Sys2Proof.Machine.execMailboxAnswer who v s
  | .mailboxTimeout => Sys2Proof.Machine.execMailboxTimeout s
  | .alertResponse won => Sys2Proof.Machine.execAlertResponse won s
  | .pmbusLimitCheck r => Sys2Proof.Machine.execPmbusLimitCheck r s
  | .sclTimeout => Sys2Proof.Machine.execSclTimeout s
  | .sdaTimeout => Sys2Proof.Machine.execSdaTimeout s
  | .pmbusWake => Sys2Proof.Machine.execPmbusWake s
  | .pmcTransaction who v clear => Sys2Proof.Machine.execPmcTransaction who v clear s
  | .pmcTransactionEnd r => Sys2Proof.Machine.execPmcTransactionEnd r s
  | .pmcSclTimeout => Sys2Proof.Machine.execPmcSclTimeout s
  | .pmcBusClear who v freed => Sys2Proof.Machine.execPmcBusClear who v freed s
  | .busClearRetry freed => Sys2Proof.Machine.execBusClearRetry freed s
  | .pmcAlertService addrs => Sys2Proof.Machine.execPmcAlertService addrs s
  | .alistRead who => Sys2Proof.Machine.execAlistRead who s
  | .portEnable who n v => Sys2Proof.Machine.execPortEnable who n v s
  | .portDisable who n v => Sys2Proof.Machine.execPortDisable who n v s
  | .lcpNop f => Sys2Proof.Machine.execNop f s
  | .lcpSetFloor f => Sys2Proof.Machine.execSetFloor f s
  | .lcpSetCeil f => Sys2Proof.Machine.execSetCeil f s
  | .lcpSetMargin f => Sys2Proof.Machine.execSetMargin f s
  | .lcpSetGain f => Sys2Proof.Machine.execSetGain f s
  | .lcpMute f => Sys2Proof.Machine.execMute f s
  | .lcpHold f => Sys2Proof.Machine.execHold f s
  | .lcpRelease f => Sys2Proof.Machine.execRelease f s
  | .lcpReadRail f => Sys2Proof.Machine.execReadRail f s
  | .lcpReadStatus f => Sys2Proof.Machine.execReadStatus f s
  | .lcpAckAlert f => Sys2Proof.Machine.execAckAlert f s
  | .lcpViolation n edges bits => Sys2Proof.Machine.execLcpViolation n edges bits s
  | .lcpTimeout n => Sys2Proof.Machine.execLcpTimeout n s
  | .lcpPortDisable who n v => Sys2Proof.Machine.execLcpPortDisable who n v s
  | .dmaStart who n v => Sys2Proof.Machine.execDmaStart who n v s
  | .dmaAbort who n v => Sys2Proof.Machine.execDmaAbort who n v s
  | .dmaSwtrg who n v => Sys2Proof.Machine.execDmaSwtrg who n v s
  | .dmaBeat n => Sys2Proof.Machine.execDmaBeat n s
  | .dmaPromotion n => Sys2Proof.Machine.execDmaPromotion n s
  | .dmaSpacingEnd n => Sys2Proof.Machine.execDmaSpacingEnd n s
  | .drainTimeout d => Sys2Proof.Machine.execDrainTimeout d s
  | .nvmSdataWrite who v => Sys2Proof.Machine.execNvmSdataWrite who v s
  | .recordWrite who v => Sys2Proof.Machine.execRecordWrite who v s
  | .recordWriteDone => Sys2Proof.Machine.execRecordWriteDone s
  | .nvmRecall => Sys2Proof.Machine.execRecall s
  | .nvmRecallEnd => Sys2Proof.Machine.execRecallEnd s
  | .nvmRescan who => Sys2Proof.Machine.execRescan who s
  | .bpWrite who v => Sys2Proof.Machine.execBpWrite who v s
  | .nvmScrub who => Sys2Proof.Machine.execScrub who s
  | .nvmScrubAbort who => Sys2Proof.Machine.execScrubAbort who s
  | .nvmScrubDone => Sys2Proof.Machine.execScrubDone s
  | .nvmCommit who => Sys2Proof.Machine.execCommit who s
  | .commitInterval => Sys2Proof.Machine.execCommitInterval s
  | .powerOnReset => Sys2Proof.Machine.execPowerOnReset s
  | .resetRelease strap addr => Sys2Proof.Machine.execResetRelease strap addr s
  | .resetPin => Sys2Proof.Machine.execResetPin s
  | .warmReset who v => Sys2Proof.Machine.execWarmReset who v s
  | .coreReset who v => Sys2Proof.Machine.execCoreReset who v s
  | .powerFailing supply => Sys2Proof.Machine.execPowerFailing supply s
  | .domainPowerDown who d => Sys2Proof.Machine.execDomainPowerDown who d s
  | .domainOff d => Sys2Proof.Machine.execDomainOff d s
  | .domainPowerUp who d => Sys2Proof.Machine.execDomainPowerUp who d s
  | .domainUp d => Sys2Proof.Machine.execDomainUp d s
  | .standby who => Sys2Proof.Machine.execStandby who s
  | .standbyWake => Sys2Proof.Machine.execStandbyWake s
  | .imageLoadStart => Sys2Proof.Machine.execImageLoadStart s
  | .imageLoadEnd => Sys2Proof.Machine.execImageLoadEnd s
  | .bootgo who v => Sys2Proof.Machine.execBootgo who v s
  | .imageStart op => Sys2Proof.Machine.execImageStart op s
  | .imageData op => Sys2Proof.Machine.execImageData op s
  | .imageEnd op => Sys2Proof.Machine.execImageEnd op s
  | .imageStatus op => Sys2Proof.Machine.execImageStatus op s
  | .hspWrite a data => Sys2Proof.Machine.execHspWrite a data s
  | .hspRead a count late => Sys2Proof.Machine.execHspRead a count late s
  | .hspQuadWrite a data => Sys2Proof.Machine.execHspQuadWrite a data s
  | .hspQuadRead a count late => Sys2Proof.Machine.execHspQuadRead a count late s
  | .hspStatus => Sys2Proof.Machine.execHspStatus s
  | .gpioEdge n level => Sys2Proof.Machine.execGpioEdge n level s
  | .pulseDensityWindow samples high => Sys2Proof.Machine.execPulseDensityWindow samples high s
  | .lineReset => Sys2Proof.Machine.execLineReset s
  | .ydpStatus => Sys2Proof.Machine.execStatus s
  | .memrd a => Sys2Proof.Machine.execMemrd a s
  | .memwr a v => Sys2Proof.Machine.execMemwr a v s
  | .regrd t a => Sys2Proof.Machine.execRegrd t a s
  | .regwr t a v => Sys2Proof.Machine.execRegwr t a v s
  | .ydpHalt t => Sys2Proof.Machine.execHalt t s
  | .ydpResume t => Sys2Proof.Machine.execResume t s
  | .ydpStep t => Sys2Proof.Machine.execStep t s
  | .ydpReset t a => Sys2Proof.Machine.execReset t a s
  | .ydpCrcError => Sys2Proof.Machine.execYdpCrcError s
  | .ydpBreakpoint c => Sys2Proof.Machine.execBreakpoint c s
  | .tapExtest => Sys2Proof.Machine.execExtest s
  | .tapSamplePreload => Sys2Proof.Machine.execSamplePreload s
  | .tapIdcode => Sys2Proof.Machine.execIdcode s
  | .tapClamp => Sys2Proof.Machine.execClamp s
  | .tapHighz => Sys2Proof.Machine.execHighz s
  | .tapBypass => Sys2Proof.Machine.execBypass s
  | .tapReset => Sys2Proof.Machine.execTapReset s
  | .selfTest who v => Sys2Proof.Machine.execSelfTest who v s
  | .selfTestDone fails => Sys2Proof.Machine.execSelfTestDone fails s
  | .lowWordRead who a => Sys2Proof.Machine.execLowWordRead who a s
  | .illegalInstruction u w => Sys2Proof.Machine.execIllegalInstruction u w s
  | .fetchBusError c => Sys2Proof.Machine.execFetchBusError c s
  | .receiverAlignment n => Sys2Proof.Machine.execReceiverAlignment n s
  | .powerFailingEnd => Sys2Proof.Machine.execPowerFailingEnd s

end Sys2Proof.Machine
end

