-- ==== Sys2Proof/Machine/Tick.lean ====
section
/-! DEFINITION. What the part does while no command waits: one tick of TBCLK passes, and the events that the counters of
the timebase island reach in it enter the queue (R160, R163, R171, R280, R398, R401; log entry 71). -/
namespace Sys2Proof.Machine

/-- TBCLK stands still: the timebase is lost, the device is in standby, or a cold reset is in force (R157, R399, R457). -/
def Part.clockStopped (m : Part) : Bool := m.tb.lossNow || m.sys.standby || m.sys.inReset

/-- Sense points whose injected sequence the next occurrence of event `k` of phase `p` triggers: its prescaler fires, and the
point, or the group trigger that replaces it, names the event (R280, R282). A phase that starts switching has its first events at
its next ZERO, count 0 of which is the tick at hand (R169, R171). -/
def Part.pwmTriggered (m : Part) (p k n : Nat) (c : Nat) : List Instr :=
  if m.switches p && (!(m.pwmAt p).start || c = 0) && decide (m.get F.PWM_EVC_PS p / 16 ^ k % 16 ≤ n) then
    (List.finRange 64).filterMap (fun (s : Fin 64) =>
      let g := s.val / 8
      let hit := if m.is F.ADC_GTRIG_EN g then m.get F.ADC_GTRIG_TSRC g = 2 && m.get F.ADC_GTRIG_TSEL g = p + 128 * k
        else m.get F.ADC_ISEQ_TSRC s = 2 && m.get F.ADC_ISEQ_TSEL s = p + 128 * k
      if hit then some (.injectedTrigger s) else none)
  else []

/-- Events of a phase whose counter reaches `c` in a period of `len` ticks with compares `cmpa` (1/32 tick) and `cmpb`. -/
def Part.phaseEvents (m : Part) (p : Fin 128) (c len cmpa cmpb : Nat) : List Instr :=
  let x := m.pwmAt p
  (if c = 0 then .zeroEvent p :: m.pwmTriggered p 0 x.psZero c else []) ++
  (if 0 < cmpa && cmpa / 32 = c then .cmpaEvent p :: m.pwmTriggered p 2 x.psCmpa c else []) ++
  (if cmpb = c then .cmpbEvent p :: m.pwmTriggered p 3 x.psCmpb c else []) ++
  (if c + 2 = len then [.snapshot p] else []) ++
  (if c + 1 = len then .periodEvent p :: m.pwmTriggered p 1 x.psPeriod c else [])

/-- One tick of an enabled phase counter: the count, and the events it reaches. At the wrap the next period's values are the
ones that count (R163). -/
def Part.tickPhase (m : Part) (p : Fin 128) : Part × List Instr :=
  let x := m.pwmAt p
  let wraps := decide (m.get F.PWM_ACT_VALUE p ≤ x.cnt + 1)
  let c := if wraps then 0 else x.cnt + 1
  let next := wraps && x.locked
  let len := if next then x.nextL else m.get F.PWM_ACT_VALUE p
  let cmpa := if next then x.nextCmpa else m.get F.PWM_CMPA_VALUE p
  let cmpb := if next then x.nextCmpb else x.cmpb
  (m.setPwm p { x with cnt := c }, m.phaseEvents p c len cmpa cmpb)

/-- Timers that reach 0 between two moments (R398). -/
def Part.timerEvents (old new : Part) : List Instr :=
  (List.finRange 16).filterMap (fun (t : Fin 16) =>
    if new.is F.TMR_CTL_EN t && old.timerCount t != 0 && new.timerCount t = 0 then some (.timerExpiry t) else none)

/-- Watchdogs that reach their warning point, or 0 (R401). -/
def Part.watchdogEvents (old new : Part) : List Instr :=
  (List.finRange 4).flatMap (fun (c : Fin 4) =>
    let warn := 100 * new.get F.TMR_WDCFG_WARN c
    if !new.wdRuns c then []
    else
      (if 0 < warn && warn < old.wdLeft c && new.wdLeft c ≤ warn then [.watchdogWarning c] else []) ++
      (if 0 < old.wdLeft c && new.wdLeft c = 0 then [.watchdogExpiry c] else []))

/-- One tick of TBCLK: the counters of enabled phases, the timers, the watchdogs, and the frame counters of the groups that run by
themselves (R44), the lit time of the segments (R218), and the long operations whose
progress the part itself makes (R40). -/
def Part.tick (m : Part) (mem : Mem) : Part × List Instr :=
  if m.clockStopped then (m, [])
  else
    let new := { m with tb := { m.tb with ticks := m.tb.ticks + 1 } }
    let r := ((List.finRange 128).filter (fun (p : Fin 128) => m.is F.PWM_CFG_EN p)).foldl
      (fun (a : Part × List Instr) p =>
        let t := a.1.tickPhase p
        (t.1, a.2 ++ t.2)) (new, [])
    let lit := new.each (allPhases.filter (fun p => m.is F.PWM_CFG_EN p)) (fun p m => m.glowTick p)
    (({ r.1.each (List.range 8) (fun g m => m.counterTick mem g) with mica := lit.mica }).scrubTick.loadTick.testTick, r.2 ++ m.timerEvents new ++ m.watchdogEvents new)

/-- What a step does on an empty queue: one tick of TBCLK, whose events then wait. -/
def State.idle (s : State) : State := { s with pending := (s.part.tick s.mem).2, part := (s.part.tick s.mem).1 }

end Sys2Proof.Machine
end

