-- ==== Sys2Proof/Safety.lean ====
section
/-! DEFINITION. The terms in which statements about the part are made: completion of a command, what a command leaves
unchanged, records, and sound states. -/
namespace Sys2Proof.Safety
open Sys2Proof.Machine

/-- The memories are in canonical form: addresses strictly rising, no entry that an unlisted address would read as. -/
def MemorySound (s : State) : Prop := Memory.wf s.mem = true

/-- The command answers a next state, and `P` holds of it. -/
def Completes (c : Instr) (s : State) (P : State → Prop) : Prop := ∃ t : State, exec c s = .next t ∧ P t

/-- Every register outside the list holds what it held. -/
def SameWords (s t : State) (l : List Nat) : Prop := ∀ a, a ∉ l → t.part.word a = s.part.word a

/-- Every register outside the listed blocks holds what it held. -/
def SameBlocks (s t : State) (l : List Nat) : Prop := ∀ a, blockOf a ∉ l → t.part.word a = s.part.word a

/-- Every byte of memory reads as before. -/
def SameMemory (s t : State) : Prop := ∀ a, Mem.byte t.mem a = Mem.byte s.mem a

/-- The two registers that Garnet changes where a record is lost because its input queue is full. -/
def lossRegs : List Nat := [R.GRN_STAT.base, R.GRN_LOST.base]

/-- A record with this code, SOURCE, DATA0 and DATA1 was handed to Garnet: it waits in the input queue, unless that was full. -/
def Recorded (s t : State) (code source d0 d1 : Nat) : Prop :=
  s.part.grn.queue.length < 64 →
    ∃ x ∈ t.part.grn.queue, x.code = code ∧ x.source = source ∧ x.sev = 7 ∧ x.data0 = d0 ∧ x.data1 = d1

/-- The refused-write record of R319 for a write of `v` to the register at `a`. -/
def RefusalRecorded (s t : State) (i : Initiator) (a : Nat) (v : Word) : Prop :=
  Recorded s t (codeOf (blockOf a) 0) (srcInit i) (a % 0x10000) v.toNat

/-- A write that the block refuses: its flag is set, the refusal is recorded, and no other register changes. -/
def Refuses (s t : State) (flag : FieldAt) (i : Initiator) (a : Nat) (v : Word) : Prop :=
  t.part.is flag 0 = true ∧ RefusalRecorded s t i a v ∧ SameWords s t (flag.reg.base :: lossRegs)

/-- Registers that an occurrence of a phase event may change: the flags of the phase and the states of the DMA channels. -/
def eventRegs (p : Fin 128) : List Nat := R.PWM_EVF.addr p :: (List.range 32).map (fun n => R.DMA_CSTAT.addr n)

/-- CMPA of R161 for a duty and a period length, with the minimum on-time and off-time of the phase. -/
def cmpaOf (duty len minOn minOff : Nat) : Nat :=
  let c := (roundHalfEven ((duty * len : Nat) : Int) 2048).toNat
  min (if c < 32 * minOn then 0 else c) (32 * (len - minOff))

/-- The core executes the instruction at its PC now: it runs, no store error and no interrupt is due, no breakpoint stops it, and
the fetch is allowed (R131, R132, R140, R476). -/
def AtInstruction (s : State) (c : Fin 4) : Prop :=
  (s.part.core c).st = .run ∧ s.part.storeErrorDue c = false ∧ s.part.interruptDue c = none ∧
  (s.part.breakpointAt c (s.part.core c).pc = false ∨ (s.part.core c).skipBp = true) ∧
  s.part.fetchable (s.part.core c).pc.toNat = true

/-- A core's status, exception and scratch registers and its store errors are as they were. -/
def CoreKeeps (x y : Core) : Prop :=
  y.ps = x.ps ∧ y.epc = x.epc ∧ y.eps = x.eps ∧ y.ecause = x.ecause ∧ y.eaddr = x.eaddr ∧ y.evbase = x.evbase ∧
  y.scr0 = x.scr0 ∧ y.scr1 = x.scr1 ∧ y.flight = x.flight ∧ y.held = x.held

/-- The instruction of core `c` retired with PC at `pc`, and changed nothing outside the core. -/
def Retired (s t : State) (c : Fin 4) (pc : Word) : Prop :=
  (t.part.core c).pc = pc ∧ (t.part.core c).iret = (s.part.core c).iret + 1 ∧
  (∀ d : Fin 4, d ≠ c → t.part.core d = s.part.core d) ∧ SameWords s t []

/-- The instruction of core `c` wrote `v` to `rd` and nothing else, and the core goes on at the next instruction. -/
def Wrote (s t : State) (c : Fin 4) (rd : Fin 32) (v : Word) : Prop :=
  (t.part.core c).reg rd = v ∧ (∀ q : Fin 32, q ≠ rd → (t.part.core c).reg q = (s.part.core c).reg q) ∧
  Retired s t c ((s.part.core c).pc + 4) ∧ CoreKeeps (s.part.core c) (t.part.core c) ∧ SameMemory s t

/-- Core `c` took a synchronous exception: EPC, EPS, ECAUSE and EADDR are saved, IM and EX are 1, PC is EVBASE, and the general
registers and the count of retired instructions are as they were (R130, R132). -/
def Trapped (s t : State) (c : Fin 4) (cause epc addr : Word) : Prop :=
  let x := s.part.core c
  let y := t.part.core c
  y.epc = epc ∧ y.eps = x.ps ∧ y.ecause = cause ∧ y.eaddr = addr ∧ y.ps = x.ps ||| 3 ∧ y.pc = x.evbase ∧
  (∀ q : Fin 32, y.reg q = x.reg q) ∧ y.iret = x.iret ∧ y.evbase = x.evbase ∧ y.scr0 = x.scr0 ∧ y.scr1 = x.scr1 ∧
  (∀ d : Fin 4, d ≠ c → t.part.core d = s.part.core d) ∧ SameMemory s t

/-- A region of memory that a core reads and writes as plain bytes. -/
def PlainRead (s : State) (a : Nat) : Prop :=
  readable (regionOf a) = true ∧ regionOf a ≠ .peripheral ∧ regionOf a ≠ .nvm ∧ s.part.bankOff a = false

def PlainWrite (s : State) (a n : Nat) : Prop :=
  writable (regionOf a) = true ∧ regionOf a ≠ .peripheral ∧ regionOf a ≠ .nvm ∧ s.part.bankOff a = false ∧
  (regionOf a = .lpm → s.part.lpmGuarded a n = false) ∧ (regionOf a = .lsm → s.part.lsmGuarded a n = false)

/-- The bytes from `a` hold the low `n` bytes of `v`, and every other byte is as it was. -/
def Stored (s t : State) (a n v : Nat) : Prop :=
  Mem.read t.mem a n = v % 256 ^ n ∧ ∀ b, b < a ∨ a + n ≤ b → Mem.byte t.mem b = Mem.byte s.mem b

/-- The address of a load or store (R128). -/
def dataAddress (s : State) (c : Fin 4) (ra : Fin 32) (off : BitVec 16) : Word :=
  (s.part.core c).reg ra + off.signExtend 32

/-- Every queue of the part keeps to the length that the spec gives it: the input queue, the freeze buffer and the waiting copies
of Garnet (64 each), the fault queue of each severity (16), and the set-point FIFO of each rail (64). -/
def QueuesBounded (s : State) : Prop :=
  s.part.grn.queue.length ≤ 64 ∧ s.part.grn.buffer.length ≤ 64 ∧ s.part.grn.mirror.length ≤ 64 ∧
  (∀ sev, s.part.queueFill sev ≤ 16) ∧ ∀ r, (s.part.plan r).fifo.length ≤ 64

/-- The access ended in a bus error without data, and nothing else changed. -/
def OnlyBusError (s t : State) : Prop := t = { s with part := { s.part with bus := { data := 0, error := true } } }

/-- The rail was squashed: a new epoch, or the one that an event of the same moment has given it, whose recompute has begun (R63,
R69). -/
def Squashed (s t : State) (r : Nat) : Prop :=
  t.part.get F.SAF_RSTAT_EPOCH r =
    (if s.part.squashJoins r then s.part.get F.SAF_RSTAT_EPOCH r else (s.part.get F.SAF_RSTAT_EPOCH r + 1) % 16) ∧
  t.part.is F.SAF_RSTAT_RECOMP r = true

/-- The response to the transaction `x` of lane `n` has come whole: no frame inside it was damaged, R0 is that of the transaction with
RCODE 0, and a read has its data (R196, R197). -/
def FlkAnswered (s : State) (n : Nat) (x : FlkTrans) : Prop :=
  let l := s.part.flkLane n
  l.trans = some x ∧ (requestWords x).length ≤ x.sent ∧ l.broken = false ∧ responseDone x l.resp = true ∧
  r0Match x (l.resp.headD 0) = true ∧ r0Code (l.resp.headD 0) = 0

/-- A port whose frames its group takes: enabled, in the group, and not stopped inside a frame. -/
def PortRuns (s : State) (g n : Nat) : Prop :=
  s.part.is F.AUD_PCFG_EN n = true ∧ s.part.groupOfPort n = some g ∧ s.part.wasStopped g n = false

/-- Frame `f` of the port's channels is stored in the look-ahead buffer, and no other byte changed. -/
def FrameStored (s t : State) (n : Nat) (f : Int) (slots : List Word) : Prop :=
  (∀ c : Fin 64, s.part.is F.AUD_CHSRC_EN c = true → s.part.get F.AUD_CHSRC_PORT c = n →
    Mem.word t.mem (labAddr c f) = slotWord (s.part.wordBits n) (slots.getD (s.part.get F.AUD_CHSRC_SLOT c) 0)) ∧
  ∀ b, (∀ c : Fin 64, s.part.is F.AUD_CHSRC_EN c = true → s.part.get F.AUD_CHSRC_PORT c = n →
    b < labAddr c f ∨ labAddr c f + 4 ≤ b) → Mem.byte t.mem b = Mem.byte s.mem b

/-- Lane `l` runs `x`, whose next word lies in its extent, and `ops` more lane-ops stay within its COST (R105, R152, R153). -/
def LaneReady (s : State) (l : Fin 16) (x : Run) (ops : Nat) : Prop :=
  (s.part.lane l).run = some x ∧ s.part.inExtent x = true ∧ x.used + ops ≤ x.cost

/-- The instruction took `ops` lane-ops and made `y` of the invocation `x`, which goes on at the next word; nothing outside the lane
changed. -/
def LaneWent (s t : State) (l : Fin 16) (x y : Run) (ops : Nat) : Prop :=
  (t.part.lane l).run = some { y with used := x.used + ops, ip := y.ip + 1, stepped := true } ∧
  (t.part.lane l).held = (s.part.lane l).held ∧ (t.part.lane l).ops = (s.part.lane l).ops + ops ∧ (∀ k : Fin 16, k ≠ l → t.part.lane k = s.part.lane k) ∧ SameWords s t [] ∧ SameMemory s t

/-- The invocation of lane `l` ended as a program failure, of which nothing commits (R110). -/
def LaneFailed (s t : State) (l : Fin 16) : Prop :=
  (t.part.lane l).run = none ∧ t.part.is F.BSL_STAT_PGMFAIL 0 = true ∧ SameMemory s t

/-- The PMBus port takes a write whose data bytes are the number `d`: it answers its address, no PEC is sent or demanded, and
WRITE_PROTECT lets the code pass. -/
def PmbTakes (s : State) (code n : Nat) (op : PmbOp) (d : Nat) : Prop :=
  s.part.pmbUp = true ∧ op.read = false ∧ op.data.length = n ∧ fromBytes op.data = d ∧ s.part.is F.PMB_CTRL_PECREQ 0 = false ∧
  s.part.protects code = false

/-- A read of a code that returns `n` bytes and their PEC. -/
def PmbAsks (s : State) (n : Nat) (op : PmbOp) : Prop :=
  s.part.pmbUp = true ∧ op.read = true ∧ op.data = [] ∧ op.count = n + 1

/-- The port sent these bytes and the PEC of the whole transaction (R336). -/
def Answered (s t : State) (code : Nat) (bytes : List Byte) : Prop :=
  let a := 8 * s.part.get F.PMB_CFG_BASE 0 + s.part.sys.straps
  t.part.pmb.sent = bytes ++ [crc8 ([byteOf (2 * a), byteOf code, byteOf (2 * a + 1)] ++ bytes)]

/-- A completed read clears what it returned (R346). -/
def ClearsOnRead (s : State) (op : PmbOp) : Prop := op.complete = true ∧ s.part.is F.PMB_CTRL_COR 0 = true

/-- The commands of R339 that a host may write: the command, its code, and its number of data bytes. -/
def pmbWritable (op : PmbOp) : List (Instr × Nat × Nat) :=
  [(.pmbPage op, 0x00, 1), (.pmbOperation op, 0x01, 1), (.onOffConfig op, 0x02, 1), (.clearFaults op, 0x03, 0), (.writeProtect op, 0x10, 1),
   (.voutCommand op, 0x21, 2), (.voutMax op, 0x24, 2), (.voutMarginHigh op, 0x25, 2), (.voutMarginLow op, 0x26, 2),
   (.voutOvFaultLimit op, 0x40, 2), (.ioutOcFaultLimit op, 0x46, 2), (.otFaultLimit op, 0x4F, 2), (.statusByte op, 0x78, 1),
   (.statusWord op, 0x79, 2), (.statusVout op, 0x7A, 1), (.statusIout op, 0x7B, 1), (.statusTemperature op, 0x7D, 1), (.statusCml op, 0x7E, 1)]

/-- A protocol violation was noted: VIOL, the count, and nothing else but the record and the latched bits (R350). -/
def Violated (s t : State) : Prop :=
  t.part.is F.PMB_STAT_VIOL 0 = true ∧ t.part.get F.PMB_VCNT_COUNT 0 = min 0xFFFF (s.part.get F.PMB_VCNT_COUNT 0 + 1) ∧
  SameWords s t (R.PMB_STAT.base :: R.PMB_VCNT.base :: lossRegs) ∧ SameMemory s t

/-- The command frame passes checks 5 to 8 of R374 at an enabled port. -/
def LcpPasses (s : State) (f : LcpFrame) (op : Nat) : Prop :=
  s.part.is F.LCP_CFG_EN f.port = true ∧ s.part.railPermitted f.port f.rail op = true ∧ s.part.argOk f.rail op f.arg.toNat = true ∧
  s.part.stateBars f.rail op = false ∧ s.part.lcpRefused f.rail op = false

/-- The port answers with a code and data in its next response, and sends the response that waited (R373). -/
def LcpAnswers (s t : State) (f : LcpFrame) (op code data : Nat) : Prop :=
  let a := (s.part.lcpPort f.port).answer.getD (1, 0, 0)
  (t.part.lcpPort f.port).answer = some (code, f.rail.val, data) ∧ t.part.get F.LCP_STAT_LASTCODE f.port = code ∧
  t.part.get F.LCP_STAT_LASTOP f.port = op ∧
  (t.part.lcpPort f.port).sent = responseFrame a.2.1 a.1 a.2.2 (s.part.get F.LCP_STAT_ALAT f.port != 0)

/-- The commands of R376 with their opcodes. -/
def LcpRow (f : LcpFrame) (c : Instr) (op : Nat) : Prop :=
  (c = .lcpNop f ∧ op = 0x00) ∨ (c = .lcpSetFloor f ∧ op = 0x01) ∨ (c = .lcpSetCeil f ∧ op = 0x02) ∨
  (c = .lcpSetMargin f ∧ op = 0x03) ∨ (c = .lcpSetGain f ∧ op = 0x04) ∨ (c = .lcpMute f ∧ op = 0x05) ∨
  (c = .lcpHold f ∧ op = 0x06) ∨ (c = .lcpRelease f ∧ op = 0x07) ∨ (c = .lcpReadRail f ∧ op = 0x10) ∨
  (c = .lcpReadStatus f ∧ op = 0x11) ∨ (c = .lcpAckAlert f ∧ op = 0x18)

/-- Channel `n` of the DMA engine issues the next beat, of this kind, and no power domain is in its way. -/
def BeatIs (s : State) (n : Fin 32) (stage : DmaStage) (k : BeatKind) : Prop :=
  s.part.dmaNext = some n.val ∧ s.part.dmaBlocked n = false ∧ (s.part.dmaChan n).stage = stage ∧ s.part.beatOf n = k

/-- The memory outside `n` bytes from `a` reads as before. -/
def SameOutside (s t : State) (a n : Nat) : Prop := ∀ b, b < a ∨ a + n ≤ b → Mem.byte t.mem b = Mem.byte s.mem b

/-- The debug port answered with this status and data, and no register and no byte of memory changed. -/
def DebugReplied (s t : State) (st : Nat) (d : Option Word) : Prop :=
  t.part.ydp.status = st ∧ t.part.ydp.data = d ∧ SameWords s t [] ∧ SameMemory s t

end Sys2Proof.Safety
end

