-- ==== Sys2Proof/Certificates/Slice0/Obligations.lean ====
section
/-! DEFINITION. The statements of this row, in the order of the spec's chapters. Each docstring names the rules its statement
formalises. -/
open Sys2Proof Sys2Proof.Machine Sys2Proof.Safety

/-! ## The machine as a whole -/

/-- A step with a command at the front of the queue is exec of that command with the rest of the queue. -/
def Obligations.StepRunsFront : Prop := ∀ (c : Instr) (rest : List Instr) (s : State),
  step { s with pending := c :: rest } = exec c { s with pending := rest }

/-- A step on an empty queue lets one tick of TBCLK pass (the model's choice, log entry 71): the counter of ticks advances, unless the
clock stands still, no byte of memory changes, and no register either unless a frame counter runs by itself or a scrub, an image
load or a self-test makes progress (log entry 124). A group's frame counter that runs by itself reaches the next output frame at the
end of its period (R44). -/
def Obligations.StepOnEmptyQueueTicks : Prop := ∀ (g : Fin 8) (s : State), s.pending = [] →
  ∃ t : State, step s = .next t ∧ SameMemory s t ∧
    t.part.tb.ticks = s.part.tb.ticks + (if s.part.clockStopped then 0 else 1) ∧ (s.part.clockStopped = true → t = s) ∧
    ((∀ h : Fin 8, s.part.freeRuns h = false) → s.part.scrubRuns = false → s.part.sys.loading = false → s.part.sys.testing = none →
      SameWords s t []) ∧
    (s.part.clockStopped = false → s.part.freeRuns g = true →
      (s.part.group g).outStart + (s.part.group g).period ≤ s.part.tb.ticks + 1 →
      t.part.get F.SAF_GFRAME_FRAME g = ofSigned 32 (s.part.outFrame g + 1))

/-- Every command answers a next state and leaves the queue of waiting commands as it is. -/
def Obligations.EveryCommandKeepsQueue : Prop := ∀ (c : Instr) (s : State), Completes c s (fun t => t.pending = s.pending)

/-- The memories stay in canonical form over every step. -/
def Obligations.StepKeepsMemorySound : Prop := ∀ (s t : State), MemorySound s → step s = .next t → MemorySound t

/-- R56, R310, R314, R324, R326, R329: the queues of Garnet, the fault queues and the set-point FIFOs keep to their lengths over
every step. -/
def Obligations.StepKeepsQueuesBounded : Prop := ∀ (s t : State), QueuesBounded s → step s = .next t → QueuesBounded t

/-- R10, R22, R458: the machine after power-on reset. The memories list nothing, the queues are empty, every register but
SYS_RSTCAUSE holds the reset word of its description, SYS_RSTCAUSE holds the cause POR, and only SC0 runs. -/
def Obligations.ResetState : Prop :=
  MemorySound State.reset ∧ QueuesBounded State.reset ∧ State.reset.pending = [] ∧
  (∀ a, Mem.byte State.reset.mem a = memDefault a) ∧
  (∀ a, a ≠ R.SYS_RSTCAUSE.base → State.reset.part.word a = resetWord a) ∧
  State.reset.part.word R.SYS_RSTCAUSE.base = 1 ∧
  (∀ c : Fin 4, (State.reset.part.core c).st = if c = 0 then .run else .off) ∧
  (∀ r : Fin 63, State.reset.part.railState r = railOff)

/-! ## The fabric (R4 to R25) -/

/-- R24: an access to an address outside the table of R22, an access that the table forbids, and a misaligned access end in a
bus error, change nothing and return no data. -/
def Obligations.BusErrors : Prop := ∀ (i : Initiator) (wr : Bool) (size : Fin 4) (a : Nat) (v : BitVec 64) (s : State),
  (regionOf a = .nowhere → Completes (.memoryAccess i wr size a v) s (OnlyBusError s)) ∧
  (wr = true → writable (regionOf a) = false → Completes (.memoryAccess i wr size a v) s (OnlyBusError s)) ∧
  (a % 2 ^ size.val ≠ 0 → Completes (.memoryAccess i wr size a v) s (OnlyBusError s))

/-- R4: an access to peripheral space of any size but 32 bits ends in a bus error and neither reads nor changes a register. R23:
an aligned access of 8, 16, 32 or 64 bits to memory reads or stores its bytes, little-endian, and changes no register and no
other byte. R5, R7: a write of HSP_STAT clears the flags that it writes as 1, and changes nothing else.
R11: a read of the low word of a long value, as of the Garnet time, captures the high word; the next read of the high word by the same initiator
returns that copy, and one without a low-word read before it returns the live value.
R18: a request that the backstop timer ends has a bus error. A read leaves its initiator and address in a Garnet record and
changes no memory; for the debug port and the host port the error is flagged. -/
def Obligations.FabricAccesses : Prop :=
  (∀ (i : Initiator) (size : Fin 4) (a : Nat) (v : BitVec 64) (w : Word) (s : State),
  (regionOf a = .peripheral → size ≠ 2 →
    Completes (.memoryAccess i false size a v) s (OnlyBusError s) ∧ Completes (.memoryAccess i true size a v) s (OnlyBusError s)) ∧
  (PlainRead s a → a % 2 ^ size.val = 0 → Completes (.memoryAccess i false size a v) s (fun t =>
    t.part.bus = { data := BitVec.ofNat 64 (Mem.read s.mem a (2 ^ size.val)), error := false } ∧ SameWords s t [] ∧ SameMemory s t)) ∧
  (PlainWrite s a (2 ^ size.val) → a % 2 ^ size.val = 0 → Completes (.memoryAccess i true size a v) s (fun t =>
    t.part.bus = {} ∧ SameWords s t [] ∧ Stored s t a (2 ^ size.val) v.toNat)) ∧
  Completes (.registerWrite i R.HSP_STAT.base w) s (fun t => t.part.bus.error = false ∧ SameWords s t [R.HSP_STAT.base] ∧
    SameMemory s t ∧ t.part.is F.HSP_STAT_ERR 0 = (s.part.is F.HSP_STAT_ERR 0 && bitsOf w 0 1 == 0) ∧
    t.part.is F.HSP_STAT_UNDER 0 = (s.part.is F.HSP_STAT_UNDER 0 && bitsOf w 1 1 == 0)) ∧
  (regionOf a = .peripheral → a % 4 = 0 → regSpecAt a = none → blockOf a ≠ 1 → blockOf a ≠ 16 →
    Completes (.registerWrite i a w) s (fun t => t.part.bus.error = false ∧ SameWords s t [] ∧ SameMemory s t))) ∧
  (∀ (i : Initiator) (s : State),
  let high := holdKey i (R.TMR_TIMELO.base + 4)
  Completes (.lowWordRead i R.TMR_TIMELO.base) s (fun t => t.part.bus.error = false ∧
    t.part.bus.data = BitVec.ofNat 64 (s.part.timestamp % 2 ^ 32) ∧
    t.part.holding.find high = some (BitVec.ofNat 32 (s.part.timestamp / 2 ^ 32)) ∧ SameWords s t [] ∧ SameMemory s t) ∧
  (∀ a h, regionOf a = .peripheral → a % 4 = 0 → R.IC_SEM.covers a = false → a ≠ R.FLT_NEXT.base → a ≠ R.PMC_ALIST.base →
    isHigh a = false → highOf a = some h → Completes (.lowWordRead i a) s (fun t => t.part.bus.error = false ∧
      t.part.bus.data = (s.part.readNow s.mem i a).setWidth 64 ∧ t.part.holding.find (holdKey i h) = some (s.part.readNow s.mem i h) ∧
      SameWords s t [] ∧ SameMemory s t)) ∧
  (∀ w, s.part.holding.find high = some w → Completes (.memoryAccess i false 2 (R.TMR_TIMELO.base + 4) 0) s (fun t =>
    t.part.bus.data = w.setWidth 64 ∧ t.part.holding.find high = none ∧ SameWords s t [] ∧ SameMemory s t)) ∧
  (s.part.holding.find high = none → Completes (.memoryAccess i false 2 (R.TMR_TIMELO.base + 4) 0) s (fun t =>
    t.part.bus.data = BitVec.ofNat 64 (s.part.timestamp / 2 ^ 32) ∧ SameWords s t [] ∧ SameMemory s t))) ∧
  (∀ (i : Initiator) (size : Fin 4) (a : Nat) (v : BitVec 64) (s : State),
  (i = .hsp ∨ i = .pmb ∨ i = .ydp → Completes (.fabricBackstopTimeout i false size a v) s (fun t =>
    t.part.bus = { data := 0, error := true } ∧ SameMemory s t ∧
    Recorded s t (codeOf 0 2) (srcInit i) 0 (s.part.word R.SYS_STAT.base).toNat ∧
    SameWords s t ([R.HSP_STAT.base, R.YDP_STAT.base] ++ lossRegs) ∧ (i = .hsp → t.part.is F.HSP_STAT_ERR 0 = true) ∧
    (i = .ydp → t.part.is F.YDP_STAT_BERR 0 = true ∧ t.part.ydp.status = ydpFault))) ∧
  Completes (.fabricBackstopTimeout i true size a v) s (fun t => t.part.bus = { data := 0, error := true }))

/-! ## Saffron and the audio ports (R42 to R77, R359 to R370) -/

/-- R42, R71, R364 to R366: a complete frame on time of the timeline master of a group in LOCKED or HOLDOVER is stored as the
group's next frame and leaves the group LOCKED; a missing sync takes it from LOCKED to HOLDOVER and stores zeros for the master's
channels, and from HOLDOVER to LOST with STAT.LOST and a record. Where BCLK has carried the whole frame in progress although its
sync is missing, that frame keeps the place of the sync that started it, and the zeros take the next (log entry 103). A frame on a disabled port, and a sync missing on a port of no
group, do nothing; a sync outside the window is ignored; a stopped BCLK outside a frame clears BCLKOK only, and inside one it also ends
what the port sends (R368).
R14, R44, R367: a frame sync of an enabled port sends, slot by slot, the delayed samples of its channels; while the group follows its
timeline the master's sync moves the group's output frame on by one, and with it the words behind the look-ahead buffer; an on-time
complete frame steers the counter, which otherwise goes on at the period measured last. Any other sync moves nothing. A disabled
port sends nothing. -/
def Obligations.AudioFrames : Prop :=
  (∀ (n : Fin 8) (g : Nat) (cut onTime long : Bool) (period bits : Nat) (slots : List Word)
    (held : Option (List Word)) (s : State),
  (s.part.is F.AUD_PCFG_EN n = false → Completes (.audioFrame n cut onTime long period slots) s (fun t => t = s)) ∧
  (PortRuns s g n → s.part.master g = some n.val → (s.part.group g).depthRestart = false → (s.part.group g).handover = false →
    (s.part.group g).judged = false → s.part.get F.SAF_GSTAT_STATE g = grpLocked ∨ s.part.get F.SAF_GSTAT_STATE g = grpHoldover →
    Completes (.audioFrame n false true long period slots) s (fun t => t.part.get F.SAF_GSTAT_STATE g = grpLocked ∧
      (t.part.group g).inFrame = (s.part.group g).inFrame + 1 ∧ (t.part.group g).lastComplete = (s.part.group g).inFrame + 1 ∧
      (t.part.group g).missing = 0 ∧ FrameStored s t n ((s.part.group g).inFrame + 1) slots ∧
      (s.part.get F.SAF_GSTAT_STATE g = grpHoldover → t.part.bit F.SAF_STAT_LOCK 0 g = true) ∧
      SameWords s t [R.SAF_GSTAT.addr g, R.SAF_STAT.base, R.AUD_PSTAT.addr n])) ∧
  (PortRuns s g n → s.part.onTimeline g = true → (s.part.group g).depthRestart = false → (s.part.group g).handover = false →
    Completes (.audioFrame n cut false long period slots) s (fun t => t.part.is F.AUD_PSTAT_BCLKOK n = true ∧
      SameWords s t [R.AUD_PSTAT.addr n] ∧ SameMemory s t ∧ t.part.saf = s.part.saf)) ∧
  (s.part.groupOfPort n = none → Completes (.missingSync n held) s (fun t => t = s)) ∧
  (PortRuns s g n → s.part.master g = some n.val → (s.part.group g).handover = false → (s.part.group g).lost = false →
    s.part.get F.SAF_GSTAT_STATE g = grpLocked →
    Completes (.missingSync n none) s (fun t => t.part.get F.SAF_GSTAT_STATE g = grpHoldover ∧
      (t.part.group g).inFrame = (s.part.group g).inFrame + 1 ∧
      (∀ c : Fin 64, s.part.is F.AUD_CHSRC_EN c = true → s.part.get F.AUD_CHSRC_PORT c = n.val →
        Mem.word t.mem (labAddr c ((s.part.group g).inFrame + 1)) = 0)) ∧
    Completes (.missingSync n (some slots)) s (fun t => t.part.get F.SAF_GSTAT_STATE g = grpHoldover ∧
      (t.part.group g).inFrame = (s.part.group g).inFrame + 1 ∧ (t.part.group g).lastComplete = (s.part.group g).inFrame + 1 ∧
      (∀ c : Fin 64, s.part.is F.AUD_CHSRC_EN c = true → s.part.get F.AUD_CHSRC_PORT c = n.val →
        Mem.word t.mem (labAddr c ((s.part.group g).inFrame + 1)) =
          slotWord (s.part.wordBits n) (slots.getD (s.part.get F.AUD_CHSRC_SLOT c) 0) ∧
        Mem.word t.mem (labAddr c ((s.part.group g).inFrame + 2)) = 0))) ∧
  (PortRuns s g n → s.part.master g = some n.val → (s.part.group g).handover = false → s.part.get F.SAF_GSTAT_STATE g = grpHoldover →
    Completes (.missingSync n held) s (fun t => t.part.get F.SAF_GSTAT_STATE g = grpLost ∧ t.part.bit F.SAF_STAT_LOST 0 g = true ∧
      Recorded s t (codeOf 8 1) (grpSource g) (grpHoldover * 256 + grpLost) 0 ∧ SameMemory s t)) ∧
  Completes (.bclkStop n none) s (fun t => t.part.is F.AUD_PSTAT_BCLKOK n = false ∧ SameWords s t [R.AUD_PSTAT.addr n] ∧
    SameMemory s t) ∧
  (s.part.is F.AUD_PCFG_EN n = true → Completes (.bclkStop n (some bits)) s (fun t => t.part.is F.AUD_PSTAT_BCLKOK n = false ∧
    (t.part.audPort n).shifted = some bits))) ∧
  (∀ (n : Fin 8) (g : Nat) (s : State),
  (s.part.is F.AUD_PCFG_EN n = false → Completes (.outputFrame n) s (fun t => t = s)) ∧
  (s.part.is F.AUD_PCFG_EN n = true → s.part.groupOfPort n = some g →
    Completes (.outputFrame n) s (fun t => SameMemory s t ∧
      (t.part.audPort n).sent = (List.range (s.part.slotCount n)).map (t.part.slotOut g n) ∧
      (t.part.audPort n).shifted = none ∧
      (s.part.master g = some n.val → s.part.onTimeline g = true →
        t.part.get F.SAF_GFRAME_FRAME g = ofSigned 32 (s.part.outFrame g + 1) ∧
        (t.part.group g).outStart =
          (if (s.part.group g).steer then s.part.tb.ticks else (s.part.group g).outStart + (s.part.group g).period) ∧
        ∀ c ∈ s.part.groupChannels g, (t.part.chan c).pipe =
          (s.part.chan c).pipe.drop 1 ++ [BitVec.ofInt 32 (s.part.sample s.mem c (s.part.outFrame g + 4))]) ∧
      (s.part.master g ≠ some n.val ∨ s.part.onTimeline g = false → SameWords s t [] ∧ t.part.saf.groups = s.part.saf.groups))))

/-- R363, R370: enabling a port of an idle group starts ACQUIRE; disabling a group's last port leaves the group IDLE. A write
that gives a field an illegal value, changes the format of an enabled port, or enables a port of no group is refused. -/
def Obligations.PortEnables : Prop := ∀ (i : Initiator) (n : Fin 8) (g : Nat) (v : Word) (s : State),
  let on := withBits v 31 1 1
  let off := withBits v 31 1 0
  let bad := fieldOf v F.AUD_PCFG_SLOTS = 0 ∨ fieldOf v F.AUD_PCFG_WLEN = 3 ∨ fieldOf v F.AUD_PCFG_FMT = 3
  let format := bitsOf (s.part.word (R.AUD_PCFG.addr n)) 0 16 &&& 0xFFE3 = bitsOf v 0 16 &&& 0xFFE3
  (bad ∨ s.part.groupOfPort n = none ∨ (s.part.is F.AUD_PCFG_EN n = true ∧ ¬format) →
    Completes (.portEnable i n v) s (fun t => Refuses s t F.AUD_STAT_REFUSED i (R.AUD_PCFG.addr n) on)) ∧
  (¬bad → s.part.is F.AUD_PCFG_EN n = false → s.part.groupOfPort n = some g → s.part.get F.SAF_GSTAT_STATE g = grpIdle →
    Completes (.portEnable i n v) s (fun t => t.part.is F.AUD_PCFG_EN n = true ∧ t.part.get F.SAF_GSTAT_STATE g = grpAcquire ∧
      (t.part.group g).cand = 0 ∧ SameWords s t [R.AUD_PCFG.addr n, R.SAF_GSTAT.addr g] ∧ SameMemory s t)) ∧
  (bad → Completes (.portDisable i n v) s (fun t => Refuses s t F.AUD_STAT_REFUSED i (R.AUD_PCFG.addr n) off)) ∧
  (¬bad → format → s.part.is F.AUD_PCFG_EN n = true → s.part.groupOfPort n = some g → s.part.groupPorts g = [n.val] →
    Completes (.portDisable i n v) s (fun t => t.part.is F.AUD_PCFG_EN n = false ∧ t.part.get F.SAF_GSTAT_STATE g = grpIdle ∧
      SameWords s t [R.AUD_PCFG.addr n, R.AUD_PSTAT.addr n, R.SAF_GSTAT.addr g] ∧ SameMemory s t))

/-- R68: a changed load gain, full-scale gain, drop or margin takes its value and squashes the rail it feeds; a write that changes
nothing, or a gain of a channel mapped to no rail, squashes nothing. -/
def Obligations.GainsSquash : Prop := ∀ (i : Initiator) (c : Fin 64) (r : Fin 63) (v : Word) (s : State),
  (s.part.railOfChannel c = some r.val → s.part.changes F.SAF_LGAIN_LGAIN c v = true →
    Completes (.loadGainChange i c v) s (fun t => t.part.get F.SAF_LGAIN_LGAIN c = fieldOf v F.SAF_LGAIN_LGAIN ∧ Squashed s t r ∧
      SameMemory s t)) ∧
  (s.part.railOfChannel c = none ∨ s.part.changes F.SAF_LGAIN_LGAIN c v = false →
    Completes (.loadGainChange i c v) s (fun t => t.part.get F.SAF_LGAIN_LGAIN c = fieldOf v F.SAF_LGAIN_LGAIN ∧
      SameWords s t [R.SAF_LGAIN.addr c] ∧ SameMemory s t)) ∧
  (s.part.railOfChannel c = some r.val → s.part.changes F.SAF_FSG_FS_GAIN c v = true →
    Completes (.fullScaleGainChange i c v) s (fun t => t.part.get F.SAF_FSG_FS_GAIN c = fieldOf v F.SAF_FSG_FS_GAIN ∧ Squashed s t r ∧
      SameMemory s t)) ∧
  (s.part.changes F.SAF_MARGIN_VALUE r v = true → Completes (.vDropOrMarginChange i r true v) s (fun t =>
    t.part.get F.SAF_MARGIN_VALUE r = fieldOf v F.SAF_MARGIN_VALUE ∧ Squashed s t r ∧ SameMemory s t)) ∧
  (s.part.changes F.SAF_VDROP_VALUE r v = true → Completes (.vDropOrMarginChange i r false v) s (fun t =>
    t.part.get F.SAF_VDROP_VALUE r = fieldOf v F.SAF_VDROP_VALUE ∧ Squashed s t r ∧ SameMemory s t))

/-- R47, R48, R68: a channel is remapped, muted and released; the rails concerned squash, and a remapped or released channel is
silent until its safe frame. RAIL = 63 is refused, and so is a ninth channel on a rail. -/
def Obligations.ChannelMapping : Prop := ∀ (i : Initiator) (c : Fin 64) (r q : Fin 63) (v : Word) (s : State),
  let a := R.SAF_CHMAP.addr c
  (fieldOf v F.SAF_CHMAP_RAIL = 63 → Completes (.channelRemap i c v) s (fun t => Refuses s t F.SAF_ERR_MAPALL i a v)) ∧
  (fieldOf v F.SAF_CHMAP_RAIL = q.val → fieldOf v F.SAF_CHMAP_MAPEN = 1 → s.part.railOfChannel c ≠ some q.val →
    8 ≤ ((s.part.railChannels q).filter (fun x => x ≠ c.val)).length →
    Completes (.channelRemap i c v) s (fun t => Refuses s t F.SAF_ERR_MAPFULL i a v)) ∧
  (s.part.chmapFault c v = none → s.part.railOfChannel c = some r.val → fieldOf v F.SAF_CHMAP_RAIL = q.val →
    fieldOf v F.SAF_CHMAP_MAPEN = 1 → r ≠ q →
    Completes (.channelRemap i c v) s (fun t => t.part.railOfChannel c = some q.val ∧ Squashed s t r ∧ Squashed s t q ∧
      (t.part.chan c).zeroed = true ∧ (t.part.chan c).safeAt = none ∧ SameMemory s t)) ∧
  (s.part.railOfChannel c = some r.val → s.part.is F.SAF_CHMAP_MUTE c = false →
    Completes (.channelMute i c) s (fun t => t.part.is F.SAF_CHMAP_MUTE c = true ∧ t.part.railOfChannel c = some r.val ∧
      Squashed s t r ∧ SameMemory s t)) ∧
  (s.part.railOfChannel c = some r.val → s.part.is F.SAF_CHMAP_MUTE c = true →
    Completes (.releaseOfMute i c) s (fun t => t.part.is F.SAF_CHMAP_MUTE c = false ∧ Squashed s t r ∧
      (t.part.chan c).zeroed = true ∧ (t.part.chan c).safeAt = none ∧ SameMemory s t))

/-- R56, R64, R66, R75, R77: a knot that is due and fits enters its rail's FIFO with the plan's epoch and number, and no other
does; a completed recompute discards the old knots; a depth outside 16 to 4,096 is refused, and a changed depth of a group that is
not idle discards its knots; planning is switched off only where no rail tracks, and discards every knot. -/
def Obligations.KnotsAndPlans : Prop := ∀ (i : Initiator) (r : Fin 63) (g : Fin 8) (v : Word) (s : State),
  (s.part.knotReady r = false → Completes (.knotWrite r) s (fun t => t = s)) ∧
  (s.part.knotReady r = true → Completes (.knotWrite r) s (fun t => SameMemory s t ∧
    (∃ k, (t.part.plan r).fifo = (s.part.plan r).fifo ++ [k] ∧ k.k = (s.part.plan r).nextK ∧
      k.epoch = s.part.get F.SAF_RSTAT_EPOCH r) ∧
    (t.part.plan r).nextK = (s.part.plan r).nextK + 1 ∧ ∀ q : Fin 63, q ≠ r → t.part.plan q = s.part.plan q)) ∧
  (s.part.is F.SAF_RSTAT_RECOMP r = false → Completes (.recomputeComplete r) s (fun t => t = s)) ∧
  (s.part.is F.SAF_RSTAT_RECOMP r = true → Completes (.recomputeComplete r) s (fun t => t.part.is F.SAF_RSTAT_RECOMP r = false ∧
    t.part.is F.SAF_STAT_SQDONE 0 = true ∧ (t.part.plan r).fifo = [] ∧ (t.part.plan r).heldKnot = (s.part.railGroup r).isSome ∧
    t.part.get F.SAF_RSTAT_EPOCH r = s.part.get F.SAF_RSTAT_EPOCH r ∧ SameMemory s t)) ∧
  (fieldOf v F.SAF_GCFG_DEPTH < 16 ∨ 4096 < fieldOf v F.SAF_GCFG_DEPTH →
    Completes (.depthChange i g v) s (fun t => Refuses s t F.SAF_ERR_DEPTH i (R.SAF_GCFG.addr g) v)) ∧
  (s.part.gcfgFault g v = none → s.part.changes F.SAF_GCFG_DEPTH g v = true → s.part.get F.SAF_GSTAT_STATE g ≠ grpIdle →
    Completes (.depthChange i g v) s (fun t => t.part.get F.SAF_GCFG_DEPTH g = fieldOf v F.SAF_GCFG_DEPTH ∧
      (t.part.group g).depthRestart = true ∧ (t.part.group g).silent = true ∧ SameMemory s t ∧
      ∀ q ∈ t.part.groupRails g, (t.part.plan q).fifo = [])) ∧
  (fieldOf v F.SAF_CTRL_EN = 1 → Completes (.safCtrlWrite i v) s (fun t => t.part.is F.SAF_CTRL_EN 0 = true ∧
    SameWords s t [R.SAF_CTRL.base] ∧ SameMemory s t ∧ t.part.saf = s.part.saf)) ∧
  (fieldOf v F.SAF_CTRL_EN = 0 → s.part.get F.RAIL_SRC_SRC r = 0 → s.part.railState r ≠ railOff →
    Completes (.safCtrlWrite i v) s (fun t => Refuses s t F.SAF_ERR_NOPLAN i R.SAF_CTRL.base v)) ∧
  (fieldOf v F.SAF_CTRL_EN = 0 → (∀ q : Fin 63, s.part.get F.RAIL_SRC_SRC q = 0 → s.part.railState q = railOff) →
    Completes (.safCtrlWrite i v) s (fun t => t.part.is F.SAF_CTRL_EN 0 = false ∧ SameWords s t [R.SAF_CTRL.base] ∧
      SameMemory s t ∧ ∀ q : Fin 63, (t.part.plan q).fifo = []))

/-! ## Basalt: tasks and lanes (R78 to R113) -/

/-- R81, R82, R104, R107, R162: a lane in service that runs no admitted invocation dispatches the chosen one of the tasks placed on it,
which leaves the queue and starts with one lane-op used, and suspends an optional one; a lane out of service dispatches nothing. An
invocation still waiting or running at its deadline is dropped, and each such one counts as missed. A decided period change is in the shadow, or refused with the shadow as it was. -/
def Obligations.InvocationsAndAdmission : Prop := ∀ (l : Fin 16) (t0 : Task) (p : Fin 128) (r : Fin 63) (q : Ready) (y : Run)
    (w : PendPeriod) (s : State),
  let pick := pickReady (s.part.bsl.ready.filter (fun q => s.part.placeOf q.task = some l.val && !s.part.taskRunning q.task))
  let on := s.part.is F.BSL_CTRL_EN 0 = true ∧ s.part.tb.dbgHalt = false ∧ s.part.bit F.BSL_LANEST_INSV 0 l = true
  (¬on → Completes (.invocationDispatch l) s (fun t => t = s)) ∧
  ((s.part.lane l).run = some y → y.isOpt = false → Completes (.invocationDispatch l) s (fun t => t = s)) ∧
  (on → (∀ z, (s.part.lane l).run = some z → z.isOpt = true) → pick = some q → q.task = .volt r ∨ q.task = .curr p →
    Completes (.invocationDispatch l) s (fun t => SameMemory s t ∧ (t.part.lane l).ops = (s.part.lane l).ops + 1 ∧
      t.part.bsl.ready = s.part.bsl.ready.filter (fun x => x.task ≠ q.task) ∧
      (t.part.lane l).held = (if (s.part.lane l).run.isSome then (s.part.lane l).run else (s.part.lane l).held) ∧
      ∃ x, (t.part.lane l).run = some x ∧ x.task = q.task ∧ x.gen = q.gen ∧ x.deadline = q.deadline ∧ x.used = 1)) ∧
  (s.part.outstanding t0 = false ∨ s.part.tb.dbgHalt = true → Completes (.invocationDeadline t0) s (fun t => t = s)) ∧
  (s.part.outstanding t0 = true → s.part.tb.dbgHalt = false → Completes (.invocationDeadline t0) s (fun t =>
    t.part.outstanding t0 = false ∧ t.part.is F.BSL_STAT_MISS 0 = true ∧ SameMemory s t ∧
    (s.part.get F.BSL_MISS_COUNT 0 + s.part.outstandingCount t0 < 2 ^ F.BSL_MISS_COUNT.width →
      t.part.get F.BSL_MISS_COUNT 0 = s.part.get F.BSL_MISS_COUNT 0 + s.part.outstandingCount t0))) ∧
  ((s.part.pwmAt p).pendPeriod = some w → s.part.pendingAt (R.PWM_PERIOD.addr p) = [p.val] → w.value < 65536 →
    Completes (.admissionDecision (.period p)) s (fun t => t.part.is F.PWM_PERIOD_PEND p = false ∧
      (t.part.pwmAt p).pendPeriod = none ∧ SameMemory s t ∧
      ((t.part.get F.PWM_PERIOD_PERIOD p = w.value ∧ (t.part.pwmAt p).perNew = true) ∨
       (t.part.get F.PWM_PERIOD_PERIOD p = s.part.get F.PWM_PERIOD_PERIOD p ∧ t.part.is F.PWM_ERR_ADMIT 0 = true)))) ∧
  (s.part.bsl.readmit = false → Completes (.admissionDecision .laneLoss) s (fun t => t = s)) ∧
  ((s.part.bslRail r).retPend = none → Completes (.admissionDecision (.fallbackReturn r)) s (fun t => t = s)) ∧
  ((s.part.poolAt p).move = none → Completes (.admissionDecision (.joining p)) s (fun t => t = s))

/-- R82, R106, R112: a lane with a parity error, and one whose enable is cleared, leaves service; a retired lane whose enable is set
again checks itself, and returns to service or stays out with ERR.LANE. The live margin raises HEADLOW where HEAD falls below
HEADMIN. A timer or a request asks for one optional invocation. -/
def Obligations.LanesAndMargin : Prop := ∀ (i : Initiator) (l : Fin 16) (j : Fin 16) (busy : List Nat) (s : State),
  (s.part.bit F.BSL_LANEST_INSV 0 l = true → Completes (.laneParityError l) s (fun t => SameMemory s t ∧
    t.part.bit F.BSL_LANEST_INSV 0 l = false ∧ t.part.bit F.BSL_LANEST_RET 0 l = true ∧ t.part.is F.BSL_STAT_LANEERR 0 = true)) ∧
  Completes (.laneDisable i l) s (fun t => SameMemory s t ∧ t.part.bit F.BSL_LANEEN_EN 0 l = false ∧
    t.part.bit F.BSL_LANEST_INSV 0 l = false ∧ t.part.bit F.BSL_LANEST_RET 0 l = true) ∧
  (s.part.bit F.BSL_LANEST_INSV 0 l = false → Completes (.laneEnable i l) s (fun t => SameMemory s t ∧
    t.part.bit F.BSL_LANEEN_EN 0 l = true ∧ (t.part.lane l).check = true)) ∧
  ((s.part.lane l).check = false → Completes (.laneSelfCheckDone l true) s (fun t => t = s) ∧
    Completes (.laneSelfCheckDone l false) s (fun t => t = s)) ∧
  ((s.part.lane l).check = true →
    Completes (.laneSelfCheckDone l true) s (fun t => t.part.bit F.BSL_LANEST_INSV 0 l = true ∧
      t.part.bit F.BSL_LANEST_RET 0 l = false ∧ (t.part.lane l).check = false ∧ SameMemory s t) ∧
    Completes (.laneSelfCheckDone l false) s (fun t => t.part.is F.BSL_ERR_LANE 0 = true ∧ (t.part.lane l).check = false ∧
      SameWords s t [R.BSL_ERR.base] ∧ SameMemory s t)) ∧
  (s.part.lanesIn = [] → Completes (.liveMarginUpdate busy) s (fun t => SameWords s t [] ∧ SameMemory s t)) ∧
  (s.part.lanesIn ≠ [] → Completes (.liveMarginUpdate busy) s (fun t => SameMemory s t ∧ (t.part.lane l).ops = 0 ∧
    t.part.bsl.headLow = decide (t.part.get F.BSL_MARGIN_HEAD 0 < s.part.get F.BSL_CTRL_HEADMIN 0) ∧
    (t.part.bsl.headLow = true → s.part.bsl.headLow = false → t.part.is F.BSL_STAT_HEADLOW 0 = true))) ∧
  (s.part.is F.BSL_OTASK_EN j = true → 0 < s.part.get F.BSL_OTASK_INTERVAL j → Completes (.optionalTaskTimer j) s (fun t =>
    t.part.is F.BSL_OTASK_PEND j = true ∧ SameWords s t [R.BSL_OTASK.addr j] ∧ SameMemory s t)) ∧
  (s.part.is F.BSL_OTASK_EN j = false ∨ s.part.get F.BSL_OTASK_INTERVAL j = 0 → Completes (.optionalTaskTimer j) s (fun t => t = s)) ∧
  Completes (.optionalTaskRequest i j) s (fun t => t.part.is F.BSL_OTASK_PEND j = true ∧ SameWords s t [R.BSL_OTASK.addr j] ∧
    SameMemory s t)

/-! ## The L-profile (R142 to R154) -/

/-- R145, R150, R151, R153: the moves of the L-profile. Each takes one lane-op and changes one register of the invocation or its
private copy; an operand that R153 forbids ends the invocation as a program failure.
R145 to R149: the arithmetic of the L-profile saturates to 32 bits and its accumulators to 72; a cascade takes 1 + 3 NS
lane-ops, or 1 + NS in block floating-point format, and GW takes 2. -/
def Obligations.LProfileMovesAndArithmetic : Prop :=
  (∀ (l dd : Fin 16) (port sa : Fin 32) (acc : Fin 8) (h t0 : Bool) (sh : Fin 64) (p : Fin 4)
    (imm : BitVec 16) (off : BitVec 12) (x : Run) (a : Word) (s : State),
  LaneReady s l x 1 → x.src sa = some a →
  (port.val < 16 → x.isOpt = false →
    Completes (.ldin l dd port) s (fun t => LaneWent s t l x (x.setReg dd (x.ports.get 0 port)) 1)) ∧
  (port.val < 16 → x.isOpt = true → Completes (.ldin l dd port) s (fun t => ∃ w, LaneWent s t l x (x.setReg dd w) 1)) ∧
  (16 ≤ port.val → Completes (.ldin l dd port) s (fun t => LaneFailed s t l)) ∧
  (x.isOpt = false → x.isVolt = false →
    Completes (.emit l 16 sa) s (fun t => LaneWent s t l x { x with duty := some a.toInt } 1) ∧
    Completes (.emit l 17 sa) s (fun t => LaneWent s t l x { x with width := some a } 1) ∧
    Completes (.emit l 18 sa) s (fun t => LaneFailed s t l)) ∧
  (x.isVolt = true →
    Completes (.emit l 18 sa) s (fun t => LaneWent s t l x { x with iref := some a.toInt } 1) ∧
    Completes (.emit l 19 sa) s (fun t => LaneWent s t l x { x with vset := some a.toInt } 1) ∧
    Completes (.emit l 16 sa) s (fun t => LaneFailed s t l)) ∧
  Completes (.movReg l dd sa) s (fun t => LaneWent s t l x (x.setReg dd a) 1) ∧
  Completes (.movImm l dd h imm) s (fun t => LaneWent s t l x
    (x.setReg dd (if h then BitVec.ofNat 32 (imm.toNat * 65536 + (x.reg dd).toNat % 65536) else BitVec.ofInt 32 imm.toInt)) 1) ∧
  Completes (.movFromAcc l dd acc t0 sh) s (fun t => LaneWent s t l x (x.setReg dd (BitVec.ofInt 32
    (satS 32 (if t0 then x.accu acc / 2 ^ sh.val else roundHalfEven (x.accu acc) (2 ^ sh.val))))) 1) ∧
  (sh.val ≤ 39 → Completes (.movToAcc l acc sa sh) s (fun t => LaneWent s t l x (x.setAccu acc (a.toInt * 2 ^ sh.val)) 1)) ∧
  (39 < sh.val → Completes (.movToAcc l acc sa sh) s (fun t => LaneFailed s t l)) ∧
  Completes (.movPtr l p h imm) s (fun t => LaneWent s t l x (x.setPtr p (if h then x.ptr p + imm.toNat else imm.toNat)) 1) ∧
  (x.ptr p + off.toNat ≤ 65535 →
    Completes (.movLoad l dd p off) s (fun t => LaneWent s t l x (x.setReg dd (x.load s.mem (x.ptr p + off.toNat))) 1) ∧
    (∀ y, x.store (x.ptr p + off.toNat) a = some y → Completes (.movStore l sa p off) s (fun t => LaneWent s t l x y 1)) ∧
    (x.mayStore (x.ptr p + off.toNat) = false → Completes (.movStore l sa p off) s (fun t => LaneFailed s t l))) ∧
  (65535 < x.ptr p + off.toNat → Completes (.movLoad l dd p off) s (fun t => LaneFailed s t l) ∧
    Completes (.movStore l sa p off) s (fun t => LaneFailed s t l))) ∧
  (∀ (l dd : Fin 16) (sa sb lo hi : Fin 32) (acc : Fin 8) (z n u : Bool) (pc ps : Fin 4)
    (imm : BitVec 16) (x : Run) (a b c d : Word) (s : State),
  LaneReady s l x 1 → x.src sa = some a → x.src sb = some b → x.src lo = some c → x.src hi = some d →
  let sum := fun (p : Int) => satAcc ((if z then 0 else x.accu acc) + (if n then -p else p))
  Completes (.lAdd l dd sa sb) s (fun t => LaneWent s t l x (x.setReg dd (BitVec.ofInt 32 (satS 32 (a.toInt + b.toInt)))) 1) ∧
  Completes (.lSub l dd sa sb) s (fun t => LaneWent s t l x (x.setReg dd (BitVec.ofInt 32 (satS 32 (a.toInt - b.toInt)))) 1) ∧
  Completes (.mac l acc z sa sb n) s (fun t => LaneWent s t l x (x.setAccu acc (sum (a.toInt * b.toInt))) 1) ∧
  Completes (.macImm l acc z sa n imm) s (fun t => LaneWent s t l x (x.setAccu acc (sum (a.toInt * imm.toInt))) 1) ∧
  Completes (.ffv l dd sa sb) s (fun t => LaneWent s t l x (x.setReg dd (BitVec.ofNat 32
    (if b.toInt ≤ 0 then 0 else min 0xFFFF (a.toNat * 65536 / b.toNat)))) 1) ∧
  Completes (.ffs l dd sa sb) s (fun t => LaneWent s t l x (x.setReg dd (BitVec.ofInt 32 (satS 32 (a.toInt * b.toInt / 16)))) 1) ∧
  Completes (.clmp l dd sa lo hi false false) s (fun t => LaneWent s t l x
    (x.setReg dd (BitVec.ofInt 32 (min (max a.toInt c.toInt) d.toInt))) 1) ∧
  Completes (.clmp l dd sa lo hi true false) s (fun t => LaneWent s t l x
    (x.setReg dd (BitVec.ofNat 32 (min (max a.toNat c.toNat) d.toNat))) 1) ∧
  (hi.val ≠ 0 → Completes (.clmp l dd sa lo hi u true) s (fun t => LaneFailed s t l)) ∧
  (x.isOpt = false → Completes (.ferr l sa sb) s (fun t => LaneWent s t l x { x with ferr := some (a.toInt, b.toInt) } 1)) ∧
  (x.isOpt = true → Completes (.ferr l sa sb) s (fun t => LaneFailed s t l)) ∧
  (x.isOpt = false → x.used + 2 ≤ x.cost → Completes (.gw l dd sa sb) s (fun t =>
    let g := s.part.gateWidth s.mem x a.toInt b.toInt
    LaneWent s t l x { x.setReg dd g.1 with gw := some g.2 } 2)) ∧
  (∀ r : Run × Int, x.used + (1 + 3 * x.sections s.mem (x.ptr pc)) ≤ x.cost →
    x.sos s.mem false (x.ptr pc) (x.ptr ps) a.toInt = some r →
    Completes (.sos l dd sa pc ps) s (fun t => LaneWent s t l x (r.1.setReg dd (BitVec.ofInt 32 r.2))
      (1 + 3 * x.sections s.mem (x.ptr pc)))) ∧
  (∀ r : Run × Int, x.used + (1 + x.sections s.mem (x.ptr pc)) ≤ x.cost →
    x.sos s.mem true (x.ptr pc) (x.ptr ps) a.toInt = some r →
    Completes (.sosb l dd sa pc ps) s (fun t => LaneWent s t l x (r.1.setReg dd (BitVec.ofInt 32 r.2))
      (1 + x.sections s.mem (x.ptr pc)))))

/-- R80, R105, R110, R113, R145, R150, R152: SKB skips where the bit is v; YIELD commits the stored words, and the duty within
RAIL_DLIM, of an invocation whose generation is its task's, and commits nothing otherwise; TRAPL, whose code the record of an
optional task shows, a cost overrun, and an instruction that would pass COST or the extent are program failures. A lane that runs nothing does nothing. -/
def Obligations.LProfileControl : Prop := ∀ (l dd : Fin 16) (sa bit : Fin 32) (v : Bool) (n : Fin 16) (code : BitVec 16) (x : Run)
    (a : Word) (p : Fin 128) (duty : Int) (s : State),
  (LaneReady s l x 1 → x.src sa = some a → 0 < n.val → (∀ k, s.part.slotLen x = some k → x.ip + n.val < k) →
    Completes (.skb l sa bit v n) s (fun t =>
      LaneWent s t l x (if a.getLsbD bit = v then { x with ip := x.ip + n.val } else x) 1)) ∧
  (LaneReady s l x 1 → n.val = 0 → Completes (.skb l sa bit v n) s (fun t => LaneFailed s t l)) ∧
  (LaneReady s l x 1 → x.stepped = true → x.gen = s.part.taskGen x.task → Completes (.yield_ l) s (fun t =>
    (t.part.lane l).run = none ∧ t.mem = x.commitTo s.mem ∧
    (x.task = .curr p → x.duty = some duty → s.part.is F.PWM_CFG_DSRC p = false → t.part.get F.PWM_DUTY_VALUE p =
      (clampInt (s.part.get F.RAIL_DLIM_DMIN (s.part.phRail p)) (s.part.get F.RAIL_DLIM_DMAX (s.part.phRail p))
        (clampInt 0 0xFFFF duty)).toNat))) ∧
  (LaneReady s l x 1 → x.stepped = true → x.gen ≠ s.part.taskGen x.task → Completes (.yield_ l) s (fun t =>
    (t.part.lane l).run = none ∧ SameMemory s t ∧ t.part.is F.BSL_STAT_MISS 0 = true)) ∧
  (LaneReady s l x 1 → Completes (.trapl l code) s (fun t => LaneFailed s t l ∧ (x.isOpt = true →
    Recorded s t (codeOf 7 2) 0 (257 + l.val * 4096 + code.toNat * 65536) (t.part.get F.BSL_MISS_COUNT 0)))) ∧
  ((s.part.lane l).run = some x → Completes (.costOverrun l) s (fun t => LaneFailed s t l)) ∧
  ((s.part.lane l).run = some x → x.cost < x.used + 1 ∨ s.part.inExtent x = false →
    Completes (.movReg l dd sa) s (fun t => LaneFailed s t l) ∧ Completes (.trapl l code) s (fun t => LaneFailed s t l)) ∧
  ((s.part.lane l).run = none → Completes (.movReg l dd sa) s (fun t => t = s) ∧ Completes (.yield_ l) s (fun t => t = s) ∧
    Completes (.costOverrun l) s (fun t => t = s))

/-! ## Timebase and PWM (R155 to R181) -/

/-- R163, R171: at the wrap the counter returns to 0, and what the snapshot computed comes into force: L and CMPA show in
PWM_ACT and PWM_CMPA, and the lock window ends. A phase whose EN is 0 has no ZERO.
R169, R171: the PERIOD, CMPA and CMPB events of a phase that has taken its first ZERO of switching set their flag on every v + 1-th occurrence, v the prescaler
field, and count otherwise; before that ZERO it has no events and counts none; a CMPA of 0, or of the whole period, and a CMPB beyond the period have no event. -/
def Obligations.PhaseEvents : Prop :=
  (∀ (p : Fin 128) (s : State),
  (s.part.is F.PWM_CFG_EN p = false → Completes (.zeroEvent p) s (fun t => t = s)) ∧
  (s.part.is F.PWM_CFG_EN p = true → s.part.switches p = true → (s.part.pwmAt p).locked = true →
    Completes (.zeroEvent p) s (fun t => (t.part.pwmAt p).cnt = 0 ∧ (t.part.pwmAt p).locked = false ∧
      t.part.get F.PWM_ACT_VALUE p = (s.part.pwmAt p).nextL % 2 ^ 16 ∧
      t.part.get F.PWM_CMPA_VALUE p = (s.part.pwmAt p).nextCmpa % 2 ^ 21 ∧
      (t.part.pwmAt p).period = (s.part.pwmAt p).nextPeriod ∧ SameMemory s t))) ∧
  (∀ (p : Fin 128) (s : State),
  s.part.is F.PWM_CFG_EN p = true →
  (s.part.pwmRuns p = false → Completes (.periodEvent p) s (fun t => SameWords s t [] ∧ SameMemory s t ∧
    (t.part.pwmAt p).psPeriod = (s.part.pwmAt p).psPeriod)) ∧
  (s.part.pwmRuns p = true →
  Completes (.periodEvent p) s (fun t => SameWords s t (eventRegs p) ∧ SameMemory s t ∧
    (t.part.pwmAt p).cnt = s.part.get F.PWM_ACT_VALUE p - 1 ∧
    (s.part.get F.PWM_EVC_PS p / 16 % 16 ≤ (s.part.pwmAt p).psPeriod →
      t.part.bit F.PWM_EVF_EVF p 1 = true ∧ (t.part.pwmAt p).psPeriod = 0) ∧
    ((s.part.pwmAt p).psPeriod < s.part.get F.PWM_EVC_PS p / 16 % 16 →
      SameWords s t [] ∧ (t.part.pwmAt p).psPeriod = (s.part.pwmAt p).psPeriod + 1)) ∧
  (0 < s.part.get F.PWM_CMPA_VALUE p → s.part.get F.PWM_CMPA_VALUE p < 32 * s.part.get F.PWM_ACT_VALUE p →
    Completes (.cmpaEvent p) s (fun t => SameWords s t (eventRegs p) ∧ SameMemory s t ∧ (t.part.pwmAt p).pin = false ∧
      (s.part.get F.PWM_EVC_PS p / 256 % 16 ≤ (s.part.pwmAt p).psCmpa →
        t.part.bit F.PWM_EVF_EVF p 2 = true ∧ (t.part.pwmAt p).psCmpa = 0) ∧
      ((s.part.pwmAt p).psCmpa < s.part.get F.PWM_EVC_PS p / 256 % 16 →
        SameWords s t [] ∧ (t.part.pwmAt p).psCmpa = (s.part.pwmAt p).psCmpa + 1))) ∧
  ((s.part.get F.PWM_CMPA_VALUE p = 0 ∨ 32 * s.part.get F.PWM_ACT_VALUE p ≤ s.part.get F.PWM_CMPA_VALUE p) →
    Completes (.cmpaEvent p) s (fun t => t = s)) ∧
  ((s.part.pwmAt p).cmpb < s.part.get F.PWM_ACT_VALUE p →
    Completes (.cmpbEvent p) s (fun t => SameWords s t (eventRegs p) ∧ SameMemory s t ∧
      (s.part.get F.PWM_EVC_PS p / 4096 % 16 ≤ (s.part.pwmAt p).psCmpb →
        t.part.bit F.PWM_EVF_EVF p 3 = true ∧ (t.part.pwmAt p).psCmpb = 0) ∧
      ((s.part.pwmAt p).psCmpb < s.part.get F.PWM_EVC_PS p / 4096 % 16 →
        SameWords s t [] ∧ (t.part.pwmAt p).psCmpb = (s.part.pwmAt p).psCmpb + 1))) ∧
  (s.part.get F.PWM_ACT_VALUE p ≤ (s.part.pwmAt p).cmpb → Completes (.cmpbEvent p) s (fun t => t = s))))

/-- R161, R163, R165, R166: the snapshot of a phase that needs no correction takes DUTY and OFFSET from their shadows, takes a new
PERIOD where its DUTY has landed, where it is not paired, or before the phase's first ZERO of switching, and computes CMPA of the next
period. -/
def Obligations.SnapshotComputes : Prop := ∀ (p : Fin 128) (s : State),
  s.part.is F.PWM_CFG_EN p = true → (s.part.pwmAt p).err = 0 → s.part.get F.FLK_LSTAT_STATE (laneOf p) ≠ 5 →
  (s.part.pwmAt p).perNew = false ∨ s.part.is F.PWM_CFG_PAIRGUARD p = false ∨ s.part.pwmRuns p = false ∨ (s.part.pwmAt p).dutySince = true →
  Completes (.snapshot p) s (fun t =>
    let per := if (s.part.pwmAt p).perNew then s.part.get F.PWM_PERIOD_PERIOD p else (s.part.pwmAt p).period
    (t.part.pwmAt p).nextL = per ∧ (t.part.pwmAt p).nextPeriod = per ∧ (t.part.pwmAt p).perNew = false ∧
    (t.part.pwmAt p).duty = s.part.get F.PWM_DUTY_VALUE p ∧ (t.part.pwmAt p).offset = s.part.get F.PWM_OFFSET_VALUE p ∧
    (t.part.pwmAt p).nextCmpa = cmpaOf (s.part.get F.PWM_DUTY_VALUE p) per (s.part.get F.PWM_CFG_MINON p)
      (s.part.get F.PWM_CFG_MINOFF p) ∧
    (t.part.pwmAt p).locked = true ∧ t.part.get F.PWM_ACT_VALUE p = s.part.get F.PWM_ACT_VALUE p ∧
    SameWords s t [R.PWM_STAT.addr p, R.PWM_PERIOD.addr p] ∧ SameMemory s t)

/-- R155, R162: PWM_PERIOD. A value outside the range of the selected reference is refused; one that does not raise the
admitted frequency lands in the shadow at once; one that raises it waits for admission with PEND = 1, the shadow unchanged.
PWM_RPER of a rail that no phase has as its current rail does nothing.
R164, R170: PWM_DUTY is taken by the shadow where DSRC is 1 and refused where it is 0; PWM_OFFSET is refused while AUTOOFF of
the phase's rail is 1. A write in the lock window sets LATE (R163). A write of NOW asks for a rail sync event and leaves the
rest of PWM_RSYNC as it was (R168). -/
def Obligations.PeriodAndShadowWrites : Prop :=
  (∀ (i : Initiator) (p : Fin 128) (r : Fin 63) (v : Word) (s : State),
  (s.part.periodInRange (bitsOf v 0 16) = false →
    Completes (.pwmPeriodWrite i p v) s (fun t => Refuses s t F.PWM_ERR_RANGE i (R.PWM_PERIOD.addr p) v)) ∧
  (s.part.periodInRange (bitsOf v 0 16) = true → s.part.admittedPeriod p ≤ bitsOf v 0 16 →
    Completes (.pwmPeriodWrite i p v) s (fun t => t.part.get F.PWM_PERIOD_PERIOD p = bitsOf v 0 16 ∧
      t.part.is F.PWM_PERIOD_PEND p = false ∧ (t.part.pwmAt p).perNew = true ∧
      t.part.is F.PWM_STAT_LATE p = (s.part.is F.PWM_STAT_LATE p || (s.part.pwmAt p).locked) ∧
      SameWords s t [R.PWM_PERIOD.addr p, R.PWM_STAT.addr p] ∧ SameMemory s t)) ∧
  (s.part.periodInRange (bitsOf v 0 16) = true → bitsOf v 0 16 < s.part.admittedPeriod p →
    Completes (.pwmPeriodWrite i p v) s (fun t => t.part.get F.PWM_PERIOD_PERIOD p = s.part.get F.PWM_PERIOD_PERIOD p ∧
      t.part.is F.PWM_PERIOD_PEND p = true ∧
      (t.part.pwmAt p).pendPeriod = some ⟨bitsOf v 0 16, i, R.PWM_PERIOD.addr p⟩ ∧
      SameWords s t [R.PWM_PERIOD.addr p] ∧ SameMemory s t)) ∧
  ((∀ q : Fin 128, s.part.phRail q ≠ r) → Completes (.pwmRperWrite i r v) s (fun t => t = s)) ∧
  ((∃ q : Fin 128, s.part.phRail q = r) → s.part.periodInRange (bitsOf v 0 16) = false →
    Completes (.pwmRperWrite i r v) s (fun t => Refuses s t F.PWM_ERR_RANGE i (R.PWM_RPER.addr r) v)) ∧
  (s.part.periodInRange (bitsOf v 0 16) = true → (∀ q : Fin 128, s.part.phRail q = r → s.part.admittedPeriod q ≤ bitsOf v 0 16) →
    Completes (.pwmRperWrite i r v) s (fun t => SameMemory s t ∧
      ∀ q : Fin 128, t.part.get F.PWM_PERIOD_PERIOD q =
        (if s.part.phRail q = r then bitsOf v 0 16 else s.part.get F.PWM_PERIOD_PERIOD q)))) ∧
  (∀ (i : Initiator) (p : Fin 128) (r : Fin 63) (v : Word) (s : State),
  (s.part.is F.PWM_CFG_DSRC p = false →
    Completes (.pwmDutyWrite i p v) s (fun t => Refuses s t F.PWM_ERR_DSRC i (R.PWM_DUTY.addr p) v)) ∧
  (s.part.is F.PWM_CFG_DSRC p = true →
    Completes (.pwmDutyWrite i p v) s (fun t => t.part.get F.PWM_DUTY_VALUE p = bitsOf v 0 16 ∧
      t.part.is F.PWM_STAT_LATE p = (s.part.is F.PWM_STAT_LATE p || (s.part.pwmAt p).locked) ∧
      SameWords s t [R.PWM_DUTY.addr p, R.PWM_STAT.addr p] ∧ SameMemory s t)) ∧
  (s.part.phRail p < 63 → s.part.is F.PWM_RSYNC_AUTOOFF (s.part.phRail p) = true →
    Completes (.pwmOffsetWrite i p v) s (fun t => Refuses s t F.PWM_ERR_AUTO i (R.PWM_OFFSET.addr p) v)) ∧
  (s.part.is F.PWM_RSYNC_AUTOOFF (s.part.phRail p) = false →
    Completes (.pwmOffsetWrite i p v) s (fun t => t.part.get F.PWM_OFFSET_VALUE p = bitsOf v 0 16 ∧
      t.part.is F.PWM_STAT_LATE p = (s.part.is F.PWM_STAT_LATE p || (s.part.pwmAt p).locked) ∧
      SameWords s t [R.PWM_OFFSET.addr p, R.PWM_STAT.addr p] ∧ SameMemory s t)) ∧
  Completes (.rsyncNow i r) s (fun t => t.part.is F.PWM_RSYNC_NOW r = true ∧
    t.part.get F.PWM_RSYNC_DIV r = s.part.get F.PWM_RSYNC_DIV r ∧
    t.part.is F.PWM_RSYNC_AUTOOFF r = s.part.is F.PWM_RSYNC_AUTOOFF r ∧
    SameWords s t (R.PWM_RSYNC.addr r :: (List.range 128).map (fun q => R.PWM_OFFSET.addr q)) ∧ SameMemory s t))

/-- R173 to R175: a trip input that becomes active trips every switching phase that it guards and that is outside its blanking
windows, where its ACT selects the phase trip. A closing blanking window lets a trip that is still active act.
R177 to R179: FORCE puts its lanes into safe state, in which no phase of theirs switches; clearing FORCE releases no lane.
PWM_SAFEREL releases the lanes that have no cause; where it names one that has, the write is reported as refused. -/
def Obligations.TripsAndSafeState : Prop :=
  (∀ (n : Fin 16) (level : Bool) (p : Fin 128) (s : State),
  Completes (.tripInputEdge n level) s (fun t => t.part.trips.get true n = level ∧
    t.part.is F.PWM_TRIP_LEVEL n = (level == s.part.is F.PWM_TRIP_POL n) ∧ SameMemory s t ∧
    (level = s.part.is F.PWM_TRIP_POL n → s.part.is F.PWM_TRIP_EN n = true → s.part.get F.PWM_TRIP_ACT n = 1 →
      (s.part.get F.PWM_TRIP_RAIL n = 63 ∨ s.part.get F.PWM_TRIP_RAIL n = s.part.phRail p) →
      s.part.switches p = true → (s.part.pwmAt p).blank = 0 →
      t.part.phState p = phTripped ∧ t.part.is F.PWM_STAT_TRIPD p = true)) ∧
  (1 < (s.part.pwmAt p).blank → Completes (.blankingClose p) s (fun t => SameWords s t [] ∧
    (t.part.pwmAt p).blank = (s.part.pwmAt p).blank - 1 ∧ SameMemory s t)) ∧
  ((s.part.pwmAt p).blank ≤ 1 → s.part.switches p = true → s.part.guardActive p 1 = true →
    Completes (.blankingClose p) s (fun t => t.part.phState p = phTripped ∧ t.part.is F.PWM_STAT_TRIPD p = true ∧ SameMemory s t))) ∧
  (∀ (i : Initiator) (v : Word) (s : State),
  Completes (.safeForce i v) s (fun t => t.part.get F.PWM_SAFE_FORCE 0 = bitsOf v 0 16 ∧ SameMemory s t ∧
    (∀ n : Fin 16, bitsOf v n 1 = 1 → t.part.laneSafe n = true) ∧ (∀ n : Fin 16, s.part.laneSafe n = true → t.part.laneSafe n = true) ∧
    (∀ p : Fin 128, bitsOf v (laneOf p) 1 = 1 → s.part.laneSafe (laneOf p) = false → t.part.switches p = false)) ∧
  Completes (.safeRelease i v) s (fun t => SameMemory s t ∧
    (∀ n : Fin 16, t.part.laneSafe n = (s.part.laneSafe n && (bitsOf v n 1 == 0 || s.part.causeHolds n))) ∧
    ((∃ n : Fin 16, bitsOf v n 1 = 1 ∧ s.part.causeHolds n = true) →
      t.part.is F.PWM_ERR_SAFE 0 = true ∧ RefusalRecorded s t i R.PWM_SAFEREL.base v)))

/-- R156: TB_CFG is written only with every rail in OFF, every Flint lane disabled and RSEL other than 3; the relock that follows
holds every lane in safe state with PLLLOCK 0, without setting LOST, and its end with a good reference removes the cause.
R157 to R159: timebase loss sets LOST and puts every lane into safe state with no phase switching; recovery of lock and
reference removes the cause and leaves LOST; loss of the delay-locked line sets DLLERR and leaves the phases alone,
and its lock calibrates the tap step against the period of TBCLK. -/
def Obligations.TimebaseRelockAndLoss : Prop :=
  (∀ (i : Initiator) (v : Word) (ok : Bool) (s : State),
  ((s.part.allOff = false ∨ s.part.flintDisabled = false ∨ fieldOf v F.TB_CFG_RSEL = 3) →
    Completes (.tbCfgWrite i v) s (fun t => Refuses s t F.TB_STAT_REFUSED i R.TB_CFG.base v)) ∧
  (s.part.allOff = true → s.part.flintDisabled = true → fieldOf v F.TB_CFG_RSEL ≠ 3 →
    Completes (.tbCfgWrite i v) s (fun t => t.part.get F.TB_CFG_RSEL 0 = fieldOf v F.TB_CFG_RSEL ∧
      t.part.is F.TB_STAT_PLLLOCK 0 = false ∧ t.part.is F.TB_STAT_LOST 0 = s.part.is F.TB_STAT_LOST 0 ∧
      t.part.bit F.PWM_SAFEST_CAUSE 0 causeTbLoss = true ∧ (∀ n : Fin 16, t.part.laneSafe n = true) ∧ SameMemory s t)) ∧
  Completes (.relockComplete ok) s (fun t => t.part.is F.TB_STAT_PLLLOCK 0 = true ∧ t.part.is F.TB_STAT_REFOK 0 = ok ∧
    t.part.is F.TB_STAT_LOST 0 = s.part.is F.TB_STAT_LOST 0 ∧ SameMemory s t ∧
    (ok = true → t.part.bit F.PWM_SAFEST_CAUSE 0 causeTbLoss = false ∧ t.part.tb.lossNow = false))) ∧
  (∀ (c : LossCause) (pll ref : Bool) (s : State),
  Completes (.timebaseLoss c) s (fun t => t.part.is F.TB_STAT_LOST 0 = true ∧ t.part.tb.lossNow = true ∧
    t.part.bit F.PWM_SAFEST_CAUSE 0 causeTbLoss = true ∧ (∀ n : Fin 16, t.part.laneSafe n = true) ∧
    (c = .frequency → t.part.is F.TB_STAT_FREQERR 0 = true ∧ t.part.is F.TB_STAT_REFOK 0 = false) ∧
    (c = .edges → t.part.is F.TB_STAT_REFOK 0 = false) ∧ (c = .pll → t.part.is F.TB_STAT_PLLLOCK 0 = false) ∧ SameMemory s t) ∧
  Completes (.timebaseRecovery pll ref) s (fun t => t.part.is F.TB_STAT_PLLLOCK 0 = pll ∧ t.part.is F.TB_STAT_REFOK 0 = ref ∧
    t.part.is F.TB_STAT_LOST 0 = s.part.is F.TB_STAT_LOST 0 ∧ SameMemory s t ∧
    (pll = true → ref = true → t.part.tb.lossNow = false ∧ t.part.bit F.PWM_SAFEST_CAUSE 0 causeTbLoss = false)) ∧
  Completes .dllLockLoss s (fun t => t.part.is F.TB_STAT_DLLLOCK 0 = false ∧ t.part.is F.TB_STAT_DLLERR 0 = true ∧
    (∀ p : Fin 128, t.part.phState p = s.part.phState p) ∧ t.part.pwm = s.part.pwm ∧ SameMemory s t) ∧
  Completes .dllLockReturn s (fun t => t.part.is F.TB_STAT_DLLLOCK 0 = true ∧ t.part.get F.TB_DLL_STEP 0 = s.part.tapStep ∧
    SameWords s t [R.TB_STAT.base, R.TB_DLL.base] ∧ SameMemory s t))

/-! ## Flint and Mica (R182 to R223) -/

/-- R185, R189, R191, R194: a frame of a lane in ENUM or above has 69 symbols, of which the last two are the CRC of the others, and
carries for each phase MODE 2 while its stage is surveyed, MODE 1 while it does not switch or its lane is in safe state, and MODE 0
otherwise, with the steer epoch. A frame that comes back damaged is counted, and one whose CRC is right but whose HOP is not NPOS counts
as such too; of a valid one each report with good parity is taken, and the current of a fresh report of the present epoch is the phase's measured current.
R200, R202, R203, R206: bring-up takes a lane from OFF through TRAIN, ENUM and CONFIG; a wrong number of positions and a limit that
passes send it back to OFF with EN = 0 and the flag of the step; a lane that is lost goes from UP to LOST. A lane is not enabled
while its power domain is off, and not disabled while a phase of it switches. -/
def Obligations.FlintFramesAndBringUp : Prop :=
  (∀ (n : Fin 16) (i : Fin 8) (comma decoded : Bool) (symbols : List Byte) (s : State),
  let p := 8 * n.val + i.val
  let w := reportSlot symbols i
  let clean := comma && decoded
  (s.part.lnState n < lnEnum → Completes (.frameTransmit n) s (fun t => t = s) ∧
    Completes (.frameReceive n comma decoded symbols) s (fun t => t = s)) ∧
  (lnEnum ≤ s.part.lnState n → Completes (.frameTransmit n) s (fun t =>
    let x := (t.part.flkLane n).sent
    x.length = 69 ∧ x.drop 67 = [BitVec.ofNat 8 (crc16 (x.take 67) / 256), BitVec.ofNat 8 (crc16 (x.take 67))] ∧
    (t.part.flkLane n).seq = ((s.part.flkLane n).seq + 1) % 8 ∧
    bitsOf (t.part.word (R.FLK_LASTC.addr p)) 22 3 =
      (if s.part.surveying p then 2 else if s.part.laneSafe n || !s.part.switches p then 1 else 0) ∧
    bitsOf (t.part.word (R.FLK_LASTC.addr p)) 25 2 = s.part.get F.POOL_PSTAT_EPOCH p ∧
    SameWords s t (R.MICA_STAT.base :: (List.range 8).map (fun k => R.FLK_LASTC.addr (8 * n.val + k))) ∧ SameMemory s t)) ∧
  (lnEnum ≤ s.part.lnState n → s.part.frameValid n clean symbols = false → Completes (.frameReceive n comma decoded symbols) s (fun t =>
    SameWords s t [R.FLK_LCNT1.addr n] ∧ t.part.get F.FLK_LCNT1_BAD n = min 0xFFFF (s.part.get F.FLK_LCNT1_BAD n + 1) ∧
    t.part.get F.FLK_LCNT1_HOP n = min 0xFFFF (s.part.get F.FLK_LCNT1_HOP n + (if clean && frameCrcOk symbols then 1 else 0)) ∧
    SameMemory s t)) ∧
  (lnEnum ≤ s.part.lnState n → s.part.frameValid n clean symbols = true → i.val < s.part.npos n → reportParity w = true →
    Completes (.frameReceive n comma decoded symbols) s (fun t => t.part.word (R.FLK_LASTR.addr p) = w ∧ SameMemory s t ∧
      (bitsOf w 24 1 = 1 → bitsOf w 28 2 = s.part.get F.POOL_PSTAT_EPOCH p → s.part.phState p = phActive →
        (t.part.poolAt p).imeas = toSigned 16 (bitsOf w 0 16) ∧ (t.part.poolAt p).fresh = true)))) ∧
  (∀ (i : Initiator) (n : Fin 16) (found : Nat) (v : Word) (s : State),
  let a := R.FLK_LCFG.addr n
  let on := withBits (s.part.word a) 31 1 1
  let off := withBits v 31 1 0
  let back := fun (flag : FieldAt) (t : State) => t.part.lnState n = lnOff ∧ t.part.is flag n = true ∧
    t.part.is F.FLK_LCFG_EN n = false ∧ SameMemory s t
  (s.part.is F.FLK_LCFG_EN n = false → 3 ≤ s.part.get F.FLK_LCFG_STO n → 0 < s.part.npos n → s.part.npos n ≤ 8 →
    (s.part.domainOff (6 + n.val / 8) = false → Completes (.bringUpStart i n) s (fun t => t.part.lnState n = lnTrain ∧
      t.part.is F.FLK_LCFG_EN n = true ∧ SameMemory s t)) ∧
    (s.part.domainOff (6 + n.val / 8) = true → Completes (.bringUpStart i n) s (fun t =>
      Refuses s t (F.FLK_LSTAT_REFUSED.at n) i a on))) ∧
  (s.part.lnState n = lnTrain → Completes (.receiverAlignment n) s (fun t => t.part.lnState n = lnEnum ∧ SameMemory s t)) ∧
  (s.part.lnState n ≠ lnTrain → Completes (.receiverAlignment n) s (fun t => t = s)) ∧
  (s.part.lnState n = lnEnum → Completes (.enumerationComplete n (s.part.npos n)) s (fun t => t.part.lnState n = lnConfig ∧
    SameMemory s t)) ∧
  (s.part.lnState n = lnEnum → found ≠ s.part.npos n → Completes (.enumerationComplete n found) s (back F.FLK_LSTAT_TOPO)) ∧
  (s.part.lnState n = lnTrain ∨ s.part.lnState n = lnEnum → Completes (.bringUpTimeout n) s (back F.FLK_LSTAT_TOPO)) ∧
  (s.part.lnState n = lnConfig → Completes (.bringUpTimeout n) s (back F.FLK_LSTAT_TRAINF)) ∧
  (s.part.lnState n = lnUp → Completes (.bringUpTimeout n) s (fun t => t = s)) ∧
  (s.part.lnState n = lnUp → Completes (.laneLoss n) s (fun t => t.part.lnState n = lnLost ∧ t.part.bit F.FLK_STAT_UP 0 n = false ∧
    t.part.bit F.FLK_STAT_LOSTF 0 n = true ∧ SameMemory s t)) ∧
  (s.part.lnState n ≠ lnUp → Completes (.laneLoss n) s (fun t => t = s)) ∧
  (s.part.is F.FLK_LCFG_EN n = true → s.part.laneSwitches n = true →
    Completes (.laneDisableWrite i n v) s (fun t => Refuses s t (F.FLK_LSTAT_REFUSED.at n) i a off)) ∧
  (s.part.is F.FLK_LCFG_EN n = true → s.part.laneSwitches n = false → 3 ≤ fieldOf v F.FLK_LCFG_STO →
    fieldOf v F.FLK_LCFG_NPOS = s.part.npos n → 0 < s.part.npos n → s.part.npos n ≤ 8 →
    Completes (.laneDisableWrite i n v) s (fun t => t.part.lnState n = lnOff ∧ t.part.is F.FLK_LCFG_EN n = false ∧ SameMemory s t)))

/-- R196, R197: a raw transaction is refused while one is under way, fails at once on a lane that is not UP, and waits on one that is. A
raw transaction that is answered with its POS and TAG and RCODE 0, and all its data, ends with RESULT 0; one whose answer has
another RCODE, POS or TAG, or a frame that was not valid, or that times out, is sent again up to RETRY times and then ends with RESULT 2
or 1 and MFAIL. A response or a timeout on a lane that has no transaction does nothing. -/
def Obligations.FlintManagement : Prop := ∀ (i : Initiator) (n : Fin 16) (v : Word)
    (x : FlkTrans) (s : State),
  let a := R.FLK_MCMD.addr n
  let go := withBits v 31 1 1
  let resp := (s.part.flkLane n).resp
  let bad := (s.part.flkLane n).broken = true ∨ (resp ≠ [] ∧ (r0Match x (resp.headD 0) = false ∨ r0Code (resp.headD 0) ≠ 0))
  (s.part.is F.FLK_MCMD_GO n = true →
    Completes (.rawTransaction i n v) s (fun t => Refuses s t (F.FLK_LSTAT_REFUSED.at n) i a go)) ∧
  (s.part.is F.FLK_MCMD_GO n = false → s.part.lnState n = lnUp → Completes (.rawTransaction i n v) s (fun t =>
    t.part.is F.FLK_MCMD_GO n = true ∧ t.part.get F.FLK_MCMD_ADDR n = fieldOf v F.FLK_MCMD_ADDR ∧ SameWords s t [a] ∧ SameMemory s t)) ∧
  (s.part.is F.FLK_MCMD_GO n = false → s.part.lnState n ≠ lnUp → Completes (.rawTransaction i n v) s (fun t =>
    t.part.is F.FLK_MCMD_GO n = false ∧ t.part.get F.FLK_MSTAT_RESULT n = 3 ∧ SameWords s t [a, R.FLK_MSTAT.addr n] ∧ SameMemory s t)) ∧
  ((s.part.flkLane n).trans = none → Completes (.managementResponse n () () ()) s (fun t => t = s) ∧
    Completes (.managementTimeout n) s (fun t => t = s)) ∧
  (FlkAnswered s n x → x.raw = true → x.len ≤ 64 →
    Completes (.managementResponse n () () ()) s (fun t => (t.part.flkLane n).trans = none ∧ t.part.is F.FLK_MCMD_GO n = false ∧
      t.part.get F.FLK_MSTAT_RESULT n = 0 ∧ t.part.get F.FLK_MSTAT_RCODE n = 0 ∧ SameMemory s t)) ∧
  ((s.part.flkLane n).trans = some x → (requestWords x).length ≤ x.sent → bad → x.raw = true →
    s.part.get F.FLK_LCFG_RETRY n ≤ x.tries → Completes (.managementResponse n () () ()) s (fun t => (t.part.flkLane n).trans = none ∧
      t.part.is F.FLK_MCMD_GO n = false ∧ t.part.get F.FLK_MSTAT_RESULT n = 2 ∧ t.part.is F.FLK_LSTAT_MFAIL n = true ∧ SameMemory s t)) ∧
  ((s.part.flkLane n).trans = some x → (requestWords x).length ≤ x.sent → resp = [] →
    x.tries < s.part.get F.FLK_LCFG_RETRY n → Completes (.managementTimeout n) s (fun t =>
    (∃ y, (t.part.flkLane n).trans = some y ∧ y.sent = 0 ∧ y.tries = x.tries + 1 ∧ y.addr = x.addr ∧ y.data = x.data) ∧
    SameWords s t [] ∧ SameMemory s t)) ∧
  ((s.part.flkLane n).trans = some x → (requestWords x).length ≤ x.sent → resp = [] → x.raw = true →
    s.part.get F.FLK_LCFG_RETRY n ≤ x.tries → Completes (.managementTimeout n) s (fun t => (t.part.flkLane n).trans = none ∧ t.part.is F.FLK_MCMD_GO n = false ∧
      t.part.get F.FLK_MSTAT_RESULT n = 1 ∧ t.part.is F.FLK_LSTAT_MFAIL n = true ∧ SameMemory s t))

/-- R213, R215 to R218, R221: on a lane that is UP Mica takes up what is due of a stage: its fault list, the rebuild of a side, a
rotation, which a rebuild under way drops; what is not due changes nothing. The answers to its transactions have the effects: the
segments of a fault list are FAILED; a rebuild waits while an activation is pending, and its ACTIVATE sets the usable count and
starts the side's rotation at 0; a rotation's moves both sides on by ROT_STEP modulo the usable count; a rebuild that fails sets
DLFAIL. A segment whose lit time has reached UNIT ages by one, up to 63. With Mica off, or on a lane that is not UP, nothing
happens.
R219, R220, R222, R255: a survey starts at the first stage that takes part, is over at once where none does, and is not started
while a program manages the segments; the results read of the stage under survey change the health of its segments by the rules of
R219; with both sides read the survey goes on and both sides are due to be rebuilt, unless Clove's step 1 defers it; an abort
ends it. -/
def Obligations.MicaSegmentsAndSurveys : Prop :=
  (∀ (i : Initiator) (p : Fin 128) (low : Bool) (rest : List MicaJob) (x : FlkTrans) (k : Fin 1024)
    (s : State),
  let n := laneOf p
  let l := s.part.flkLane n
  let works := s.part.micaWorks p = true
  let takes := fun (j : MicaJob) (t : State) => (t.part.flkLane n).jobs = l.jobs ++ [j] ∧ SameWords s t [] ∧ SameMemory s t
  let faults := (l.resp.tail.take x.len).take l.faults
  let answered := fun (j : MicaJob) => FlkAnswered s n x ∧ x.raw = false ∧ x.work = .job ∧ l.jobs = j :: rest
  (¬works → Completes (.micaRebuild p low ()) s (fun t => t = s) ∧ Completes (.segmentFaultHandling p () ()) s (fun t => t = s) ∧
    Completes (.micaRotation p ()) s (fun t => t = s)) ∧
  (works → l.jobs.contains (.faults p) = false → Completes (.segmentFaultHandling p () ()) s (takes (.faults p))) ∧
  (works → s.part.rebuildDue s.mem p low = true → l.jobs.contains (.rebuild p low) = false →
    Completes (.micaRebuild p low ()) s (takes (.rebuild p low))) ∧
  (s.part.rebuildDue s.mem p low = false → Completes (.micaRebuild p low ()) s (fun t => t = s)) ∧
  (works → s.part.stageRotationDue p = true → s.part.rebuilding p = false → Completes (.micaRotation p ()) s (takes (.rotate p))) ∧
  (works → s.part.stageRotationDue p = true → s.part.rebuilding p = true → Completes (.micaRotation p ()) s (fun t =>
    t.part.flk = s.part.flk ∧ SameWords s t [] ∧ SameMemory s t)) ∧
  (s.part.stageRotationDue p = false → Completes (.micaRotation p ()) s (fun t => t = s)) ∧
  (answered (.faults p) → l.step ≠ 0 → Completes (.managementResponse (Fin.ofNat 16 n) () () ()) s (fun t =>
    (∀ f ∈ faults, segHealth t.mem p (decide (1024 ≤ f % 2048)) (f % 1024) = 2) ∧
    ∀ b, (∀ f ∈ faults, b ≠ segAddr p (decide (1024 ≤ f % 2048)) (f % 1024)) → Mem.byte t.mem b = Mem.byte s.mem b)) ∧
  (answered (.rebuild p low) → l.step = 0 → Completes (.managementResponse (Fin.ofNat 16 n) () () ()) s (fun t =>
    (if l.resp.tail.headD 0 / 4 % 2 = 1 ∧ 0 < x.len then (t.part.flkLane n).step = 0
     else (t.part.flkLane n).step = 1 ∧ (t.part.flkLane n).order = lightingOrder s.mem p low ∧
       (t.part.flkLane n).usable = usableCount s.mem p low) ∧ SameWords s t [] ∧ SameMemory s t)) ∧
  (answered (.rebuild p low) → 20 ≤ l.step → l.usable ≤ 1024 → Completes (.managementResponse (Fin.ofNat 16 n) () () ()) s (fun t =>
    t.part.get (if low then F.MICA_USE_U_LS else F.MICA_USE_U_HS) p = l.usable ∧
    t.part.get (if low then F.MICA_ROT_R_LS else F.MICA_ROT_R_HS) p = 0 ∧ (t.part.flkLane n).jobs = rest ∧ SameMemory s t)) ∧
  (answered (.rotate p) → l.step ≠ 0 → 0 < s.part.get F.MICA_USE_U_HS p → s.part.get F.MICA_USE_U_HS p ≤ 1024 →
    Completes (.managementResponse (Fin.ofNat 16 n) () () ()) s (fun t => t.part.get F.MICA_ROT_R_HS p =
      (s.part.get F.MICA_ROT_R_HS p + s.part.get F.MICA_CFG_ROT_STEP 0) % s.part.get F.MICA_USE_U_HS p ∧
      SameWords s t [R.MICA_ROT.addr p] ∧ SameMemory s t)) ∧
  (l.trans = some x → (requestWords x).length ≤ x.sent → l.resp = [] → x.raw = false → x.work = .job → l.jobs = .rebuild p low :: rest →
    s.part.get F.FLK_LCFG_RETRY n ≤ x.tries → Completes (.managementTimeout (Fin.ofNat 16 n)) s (fun t =>
      t.part.is F.MICA_STAT_DLFAIL 0 = true ∧ (t.part.flkLane n).jobs = rest ∧ SameMemory s t)) ∧
  (s.part.micaOn = true → s.part.get F.MICA_AGE_UNIT 0 * 3600000 * s.part.kHz ≤ s.part.litTicks p low k →
    Completes (.ageIncrement p low k) s (fun t => segAge t.mem p low k = min 63 (segAge s.mem p low k + 1) ∧
    segHealth t.mem p low k = segHealth s.mem p low k ∧ SameWords s t [] ∧
    ∀ b, b ≠ segAddr p low k → Mem.byte t.mem b = Mem.byte s.mem b)) ∧
  (s.part.micaOn = false ∨ s.part.litTicks p low k < s.part.get F.MICA_AGE_UNIT 0 * 3600000 * s.part.kHz →
    Completes (.ageIncrement p low k) s (fun t => t = s)) ∧
  (works → Completes (.micaRebuildAll i) s (fun t => 2 * p.val ∈ t.part.mica.due ∧ 2 * p.val + 1 ∈ t.part.mica.due ∧
      t.part.is F.MICA_CTRL_REBUILD 0 = true ∧ SameWords s t [R.MICA_CTRL.base] ∧ SameMemory s t)) ∧
  (s.part.micaOn = false → Completes (.micaRebuildAll i) s (fun t => t.part.mica.due = [] ∧ t.part.is F.MICA_CTRL_REBUILD 0 = false))) ∧
  (∀ (i : Initiator) (n : Fin 16) (p : Fin 128) (k j : Nat) (x : FlkTrans) (s : State),
  let l := s.part.flkLane n
  let step := s.part.mica.surveyStep
  let res := sresOf ((l.resp.tail.take x.len).take 64)
  (s.part.mica.survey = none → s.part.is F.MICA_CTRL_XSEG 0 = false → s.part.surveyable 0 = true →
    Completes (.surveyStart i) s (fun t => t.part.mica.survey = some 0 ∧ t.part.is F.MICA_CTRL_SURVEY 0 = true ∧
      t.part.is F.MICA_STAT_SBUSY 0 = true ∧ SameMemory s t)) ∧
  (s.part.mica.survey = none → s.part.is F.MICA_CTRL_XSEG 0 = false → (∀ q : Fin 128, s.part.surveyable q = false) →
    Completes (.surveyStart i) s (fun t => t.part.mica.survey = none ∧ t.part.is F.MICA_CTRL_SURVEY 0 = false ∧
      t.part.is F.MICA_STAT_SBUSY 0 = false ∧ t.part.is F.MICA_STAT_SDONE 0 = true ∧ SameMemory s t)) ∧
  (s.part.mica.survey = none → s.part.is F.MICA_CTRL_XSEG 0 = true → Completes (.surveyStart i) s (fun t =>
    t.part.mica.survey = none ∧ t.part.is F.MICA_CTRL_SURVEY 0 = false ∧ SameWords s t [R.MICA_CTRL.base, R.MICA_STAT.base] ∧
    SameMemory s t)) ∧
  (s.part.surveying p = false ∨ s.part.stepInForce 1 = true ∨ step < 8 → Completes (.surveyStageDone p ()) s (fun t => t = s)) ∧
  (s.part.mica.survey = some k → s.part.surveying p = true → s.part.stepInForce 1 = false → 8 ≤ step →
    Completes (.surveyStageDone p ()) s (fun t => (∀ q, t.part.mica.survey = some q → k < q) ∧ SameMemory s t ∧
      (s.part.micaOn = true → 2 * p.val ∈ t.part.mica.due ∧ 2 * p.val + 1 ∈ t.part.mica.due))) ∧
  (FlkAnswered s n x → x.raw = false → x.work = .survey → s.part.mica.survey = some k → surveyPhase k = 8 * n.val + x.pos →
    (surveyTrans (surveyPhase k) 0 step).map (fun y => y.addr) = some x.addr → 2 ≤ step % 4 →
    Completes (.managementResponse n () () ()) s (fun t => t.part.mica.surveyStep = step + 1 ∧
      ∀ h : j < res.length, segHealth t.mem (surveyPhase k) (decide (4 ≤ step)) (512 * (step % 4 - 2) + j) =
        surveyHealth (res[j]'h) (segHealth s.mem (surveyPhase k) (decide (4 ≤ step)) (512 * (step % 4 - 2) + j)) ∧
        segAge t.mem (surveyPhase k) (decide (4 ≤ step)) (512 * (step % 4 - 2) + j) =
          segAge s.mem (surveyPhase k) (decide (4 ≤ step)) (512 * (step % 4 - 2) + j))) ∧
  (s.part.mica.survey ≠ none → s.part.is F.MICA_CTRL_XSEG 0 = false → Completes (.surveyAbort i) s (fun t => t.part.mica.survey = none ∧
    t.part.is F.MICA_STAT_SABORT 0 = true ∧ t.part.is F.MICA_STAT_SBUSY 0 = false ∧ SameWords s t [R.MICA_CTRL.base, R.MICA_STAT.base] ∧
    SameMemory s t)))

/-! ## The phase pool (R224 to R248) -/

/-- R236, R237, R238, R240, R242, R243, R244: the waits of a steering, its confirmation that fails, a drain that fails; a speculative add
or request at its start goes to admission with its plan epoch, sets NOPH where no phase is to be had, and is cancelled where the epoch
has passed, before its start or while admission waits.
R244, R245: the requests through POOL_LREQ. One written while GO is 1 is reported as refused; one that a rule of R244 refuses ends with
RESULT 2 and GO = 0; a move waits for admission with GO and BUSY set, a park starts to drain, and a clear parks a tripped phase. -/
def Obligations.PoolMovesAndRequests : Prop :=
  (∀ (p : Fin 128) (r : Fin 63) (e : Nat) (mv : Move) (q : PoolReq) (s : State),
  let now := s.part.get F.SAF_RSTAT_EPOCH r
  let goes := (s.part.poolRail r).spec = some now ∧ s.part.regulating r = true ∧ s.part.is F.POOL_CFG_EN 0 = true ∧
    s.part.railMoving r = false ∧ s.part.pool.request = none
  (s.part.phState p ≠ phSteering → Completes (.steerDeadExpiry p) s (fun t => t = s) ∧
    Completes (.steerConfirmTimeout p) s (fun t => t = s)) ∧
  (s.part.phState p = phSteering → (s.part.poolAt p).openConf = true → (s.part.poolAt p).closed = false →
    Completes (.steerDeadExpiry p) s (fun t => (t.part.poolAt p).closed = true ∧
      (t.part.poolAt p).steerCmd = 1 + s.part.get F.POOL_PSTAT_SW p ∧ SameWords s t [] ∧ SameMemory s t)) ∧
  (s.part.phState p = phSteering → (s.part.poolAt p).openConf = true → (s.part.poolAt p).closed = true →
    (s.part.poolAt p).move = some mv → mv.ending = .park →
    Completes (.steerDeadExpiry p) s (fun t => t.part.phState p = phParked ∧ (t.part.poolAt p).move = none ∧
      t.part.phRail p = s.part.phRail p ∧ SameMemory s t)) ∧
  (s.part.phState p = phSteering → (s.part.poolAt p).openConf = true → (s.part.poolAt p).closed = true →
    (s.part.poolAt p).move = some mv → mv.ending = .join → s.part.regulating (s.part.phRail p) = true →
    Completes (.steerDeadExpiry p) s (fun t => (t.part.poolAt p).settled = true ∧ SameWords s t [] ∧ SameMemory s t)) ∧
  (s.part.phState p = phSteering → (s.part.poolAt p).openConf = false →
    Completes (.steerConfirmTimeout p) s (fun t => t.part.phState p = phTripped ∧ t.part.is F.POOL_PSTAT_STEERUNK p = true ∧
      t.part.is F.POOL_STAT_CONFF 0 = true ∧ SameMemory s t)) ∧
  (s.part.phState p = phDraining → s.part.get F.POOL_PFACT_F p = 0 → Completes (.drainFail p) s (fun t =>
    t.part.phState p = (if s.part.railState (s.part.phRail p) = railOff then phParked else phActive) ∧
    t.part.is F.POOL_STAT_DRAINF 0 = true ∧ (t.part.poolAt p).move = none ∧ SameMemory s t)) ∧
  (s.part.phState p ≠ phDraining → Completes (.drainFail p) s (fun t => t = s)) ∧
  ((s.part.poolRail r).spec = none → s.part.pool.request = none → Completes (.speculativeAddStart r) s (fun t => t = s)) ∧
  ((s.part.poolRail r).spec = some e → e ≠ s.part.get F.SAF_RSTAT_EPOCH r → s.part.pool.request = none →
    Completes (.speculativeAddStart r) s (fun t => (t.part.poolRail r).spec = none ∧ t.part.is F.POOL_STAT_CANCEL 0 = true ∧
      SameWords s t (R.POOL_STAT.base :: lossRegs) ∧ SameMemory s t)) ∧
  (goes → s.part.addChoice r = some p.val → s.part.roomFor p r = true → Completes (.speculativeAddStart r) s (fun t =>
    (t.part.poolAt p).move = some { steer := s.part.phRail p != r.val, toGuest := decide (s.part.get F.POOL_PCFG_GUEST p = r.val),
                                    ending := .join, waiting := true, epoch := some now } ∧
    (t.part.poolRail r).spec = none ∧ SameWords s t [] ∧ SameMemory s t)) ∧
  (goes → s.part.addChoice r = none → Completes (.speculativeAddStart r) s (fun t =>
    t.part.is F.POOL_RSTAT_NOPH r = true ∧ SameWords s t [R.POOL_RSTAT.addr r] ∧ SameMemory s t)) ∧
  ((s.part.poolRail r).spec = none → s.part.pool.request = some q → q.epoch = now → q.phase = p.val → q.op < 2 →
    s.part.steerRail p (q.op = 1) = r.val → s.part.requestRefused s.mem q.op p = false →
    Completes (.speculativeAddStart r) s (fun t => t.part.pool.request = none ∧ (t.part.poolAt p).move =
      some { steer := true, toGuest := decide (q.op = 1), ending := .join, request := true, waiting := true, epoch := some now } ∧
      SameWords s t [] ∧ SameMemory s t)) ∧
  ((s.part.poolAt p).move = some mv → mv.waiting = true → mv.epoch = some e → s.part.moveRail p mv = r.val → e ≠ now →
    Completes (.admissionDecision (.joining p)) s (fun t => (t.part.poolAt p).move = none ∧ t.part.phState p = s.part.phState p ∧
      t.part.is F.POOL_STAT_CANCEL 0 = true ∧ SameMemory s t))) ∧
  (∀ (i : Initiator) (v : Word) (p : Fin 128) (s : State), bitsOf v 0 7 = p.val →
  let regs := [R.POOL_STAT.base, R.POOL_LRES.base, R.POOL_LREQ.base]
  let busy := fun (t : State) => t.part.is F.POOL_STAT_REFUSED 0 = true ∧ t.part.get F.POOL_LRES_RESULT 0 = 1 ∧
    SameWords s t (regs ++ lossRegs) ∧ SameMemory s t
  let refused := fun (t : State) => t.part.is F.POOL_STAT_REFUSED 0 = true ∧ t.part.get F.POOL_LRES_RESULT 0 = 2 ∧
    t.part.is F.POOL_LRES_BUSY 0 = false ∧ t.part.is F.POOL_LREQ_GO 0 = false ∧ SameWords s t regs ∧ SameMemory s t
  let waits := fun (guest : Bool) (t : State) =>
    (t.part.poolAt p).move = some { steer := true, toGuest := guest, ending := .join, request := true, waiting := true } ∧
    t.part.is F.POOL_LRES_BUSY 0 = true ∧ t.part.is F.POOL_LREQ_GO 0 = true ∧ t.part.get F.POOL_LRES_PHASE 0 = p.val ∧
    SameWords s t regs ∧ SameMemory s t
  (s.part.is F.POOL_LREQ_GO 0 = true → Completes (.moveToHomeRail i v) s busy ∧ Completes (.moveToGuestRail i v) s busy ∧
    Completes (.poolPark i v) s busy ∧ Completes (.poolClear i v) s busy) ∧
  (s.part.is F.POOL_LREQ_GO 0 = false →
    (s.part.requestRefused s.mem 0 p = true → Completes (.moveToHomeRail i v) s refused) ∧
    (s.part.requestRefused s.mem 1 p = true → Completes (.moveToGuestRail i v) s refused) ∧
    (s.part.phState p ≠ phActive → Completes (.poolPark i v) s refused) ∧
    (s.part.phState p = phActive → Completes (.poolClear i v) s refused)) ∧
  (s.part.is F.POOL_LREQ_GO 0 = false → bitsOf v 30 1 = 0 →
    (s.part.requestRefused s.mem 0 p = false → Completes (.moveToHomeRail i v) s (waits false)) ∧
    (s.part.requestRefused s.mem 1 p = false → Completes (.moveToGuestRail i v) s (waits true))) ∧
  (s.part.is F.POOL_LREQ_GO 0 = false → s.part.phState p = phActive → (s.part.poolAt p).move = none → s.part.is F.POOL_CFG_EN 0 = true →
    Completes (.poolPark i v) s (fun t => t.part.phState p = phActive ∧ t.part.moveStarted p = true ∧ t.part.is F.POOL_LRES_BUSY 0 = true ∧ SameMemory s t)) ∧
  (s.part.is F.POOL_LREQ_GO 0 = false → s.part.phState p = phTripped → s.part.is F.POOL_PSTAT_STEERUNK p = false →
    s.part.requestRefused s.mem 3 p = false →
    Completes (.poolClear i v) s (fun t => t.part.phState p = phParked ∧ t.part.get F.POOL_LRES_RESULT 0 = 0 ∧
      t.part.is F.POOL_LRES_BUSY 0 = false ∧ t.part.is F.POOL_LREQ_GO 0 = false ∧ SameMemory s t)))

/-! ## Clove and retention (R249 to R270) -/

/-- R254, R256, R266, R268, R269: the ladder falls by one step when QUIET_T has passed; the margin steps of a rail in TRACK rise only
while step 3 is in force; a change of XB is refused unless every rail is in OFF, and switching Clove off sets level 0 and every gain to
32,768; a lost bus slice is flagged; a waiting core and an idle bank of memory enter retention where their time is set. While Clove is
off its ticks and steps do nothing. -/
def Obligations.CloveAndRetention : Prop := ∀ (i : Initiator) (v : Word) (r : Fin 63) (c : Fin 4) (b : Fin 28) (ch : Fin 64) (s : State),
  (s.part.is F.CLV_CTRL_EN 0 = false → Completes .budgetTick s (fun t => t = s) ∧ Completes .marginStep s (fun t => t = s) ∧
    Completes .ladderQuietExpiry s (fun t => t = s)) ∧
  (s.part.is F.CLV_CTRL_EN 0 = true → Completes .budgetTick s (fun t => SameMemory s t ∧ t.part.clv.tickAt = s.part.tb.ticks)) ∧
  (s.part.is F.CLV_CTRL_EN 0 = true → 0 < s.part.get F.CLV_STAT_LEVEL 0 → 100 * s.part.get F.CLV_CFG_QUIET_T 0 ≤ s.part.clv.quiet →
    Completes .ladderQuietExpiry s (fun t => t.part.get F.CLV_STAT_LEVEL 0 = s.part.get F.CLV_STAT_LEVEL 0 - 1 ∧ t.part.clv.quiet = 0 ∧
      SameMemory s t)) ∧
  (s.part.is F.CLV_CTRL_EN 0 = true → s.part.stepInForce 3 = true → s.part.railState r = railTrack →
    s.part.get F.CLV_RSTAT_MSTEPS r < 255 → s.part.get F.CLV_RMARG_MARGIN_MIN r < s.part.margin r →
    Completes .marginStep s (fun t => t.part.get F.CLV_RSTAT_MSTEPS r = s.part.get F.CLV_RSTAT_MSTEPS r + 1 ∧ SameMemory s t)) ∧
  (s.part.is F.CLV_CTRL_EN 0 = true → s.part.stepInForce 3 = true → s.part.railState r ≠ railTrack →
    Completes .marginStep s (fun t => t.part.get F.CLV_RSTAT_MSTEPS r = s.part.get F.CLV_RSTAT_MSTEPS r ∧ SameMemory s t)) ∧
  Completes .busSenseTimeout s (fun t => t.part.clv.noBus = true ∧ t.part.is F.CLV_STAT_SENSE 0 = true ∧
    t.part.is F.FLT_STAT_NEW 0 = true ∧ SameMemory s t) ∧
  (s.part.changes F.CLV_CTRL_XB 0 v = true → s.part.allOff = false →
    Completes (.clvCtrlWrite i v) s (fun t => Refuses s t F.CLV_STAT_REFUSED i R.CLV_CTRL.base v)) ∧
  (s.part.changes F.CLV_CTRL_XB 0 v = false → fieldOf v F.CLV_CTRL_EN = 1 →
    Completes (.clvCtrlWrite i v) s (fun t => t.part.is F.CLV_CTRL_EN 0 = true ∧ SameWords s t [R.CLV_CTRL.base] ∧ SameMemory s t)) ∧
  (s.part.changes F.CLV_CTRL_XB 0 v = false → fieldOf v F.CLV_CTRL_EN = 0 →
    Completes (.clvCtrlWrite i v) s (fun t => t.part.is F.CLV_CTRL_EN 0 = false ∧ t.part.get F.CLV_STAT_LEVEL 0 = 0 ∧
      t.part.get F.CLV_GNOW_G 0 = 32768 ∧ (t.part.chan ch).gain = 32768 ∧ t.part.get F.CLV_RSTAT_MSTEPS r = 0 ∧ SameMemory s t)) ∧
  (s.part.get F.CLV_SLP_CORE_T 0 ≠ 0 → (s.part.core c).st = .wait → Completes (.coreRetentionEntry c) s (fun t =>
    (t.part.core c).st = .retention ∧ (t.part.core c).pc = (s.part.core c).pc ∧ (t.part.core c).g = (s.part.core c).g ∧
    SameWords s t [] ∧ SameMemory s t)) ∧
  (s.part.get F.CLV_SLP_CORE_T 0 = 0 ∨ (s.part.core c).st ≠ .wait → Completes (.coreRetentionEntry c) s (fun t => t = s)) ∧
  (s.part.get F.CLV_SLP_MEM_T 0 ≠ 0 → b.val ∉ s.part.sys.asleep → s.part.bankOff (retentionBase b) = false →
    Completes (.bankRetentionEntry b) s (fun t => b.val ∈ t.part.sys.asleep ∧ SameWords s t [] ∧ SameMemory s t)) ∧
  (s.part.get F.CLV_SLP_MEM_T 0 = 0 → Completes (.bankRetentionEntry b) s (fun t => t = s))

/-! ## Sensing (R271 to R300) -/

/-- R273 to R283: a word of a serving slice counts down the words that settling discards, and then becomes a result, corrected, saturated
and with the next SEQ, valid where the reference was ready through the word's filter window; a trigger of a block that is enabled starts the injected sequence of an idle point, waits as pending behind a running one, and is dropped with INJOVR
behind a pending one; a software and a hardware trigger of one modulator clock are one. How the corrections act is the model's choice
(log entry 121).
R284 to R287, R290: a rotation step begins on each group that has a spare; a slice that passes its calibration takes its corrections
and is the spare, and one that fails is retired; a sweep begins with the spare of group 0; the reference settles; a point without a valid result is stale. -/
def Obligations.ConversionsAndCalibration : Prop :=
  (∀ (i : Initiator) (k : Fin 72) (code : BitVec 24) (sat : Bool) (p : Fin 64) (g j : Fin 8) (s : State),
  let top : Int := 2 ^ 23 - 1
  let x := s.part.corrected k code.toInt
  let c := if sat then (if code.toInt < 0 then -top else top) else clampInt (-top) top x
  let mux := s.part.regMux p (s.part.point p).entry
  let valid := s.part.is F.ADC_STAT_REFRDY 0 && !(s.part.point p).unready && decide ((s.part.point p).bad = 0) &&
    !s.part.domainOff (8 + p.val / 8)
  let hard := (s.part.point p).trig = some (s.part.modClock, false)
  let soft := (s.part.point p).trig = some (s.part.modClock, true)
  let started := fun (t : State) => t.part.is F.ADC_SPSTAT_IACT p = true ∧
    (t.part.point p).inj = some (0, s.part.word (R.ADC_ISEQ.addr p)) ∧ SameMemory s t
  let source := if s.part.is F.ADC_GTRIG_EN (p.val / 8) then s.part.get F.ADC_GTRIG_TSRC (p.val / 8) else s.part.get F.ADC_ISEQ_TSRC p
  (s.part.is F.ADC_CTRL_EN 0 = false → Completes (.adcWord k code sat) s (fun t => t = s)) ∧
  (s.part.is F.ADC_CTRL_EN 0 = true → s.part.get F.ADC_SL_STATE k = 0 → s.part.get F.ADC_SL_SP k = p.val →
    (0 < (s.part.point p).drop → Completes (.adcWord k code sat) s (fun t =>
      (t.part.point p).drop = (s.part.point p).drop - 1 ∧ SameWords s t [] ∧ SameMemory s t)) ∧
    ((s.part.point p).drop = 0 → (s.part.point p).inj = none → Completes (.adcWord k code sat) s (fun t =>
      t.part.word (resAddr p mux) = resultWord valid (sat || decide (x < -top) || decide (top < x)) (bitsOf (s.part.word (resAddr p mux)) 28 3 + 1) mux c ∧ SameMemory s t))) ∧
  (source < 2 ∨ s.part.is F.ADC_CTRL_EN 0 = false ∨ soft → Completes (.injectedTrigger p) s (fun t => t = s)) ∧
  (2 ≤ source → s.part.is F.ADC_CTRL_EN 0 = true → ¬soft →
    ((s.part.point p).inj = none → Completes (.injectedTrigger p) s (fun t => started t ∧ SameWords s t [R.ADC_SPSTAT.addr p])) ∧
    ((s.part.point p).inj ≠ none → s.part.is F.ADC_SPSTAT_IPEND p = false → Completes (.injectedTrigger p) s (fun t =>
      t.part.is F.ADC_SPSTAT_IPEND p = true ∧ SameWords s t [R.ADC_SPSTAT.addr p] ∧ SameMemory s t)) ∧
    ((s.part.point p).inj ≠ none → s.part.is F.ADC_SPSTAT_IPEND p = true → Completes (.injectedTrigger p) s (fun t =>
      t.part.is F.ADC_SPSTAT_INJOVR p = true ∧ t.part.is F.ADC_STAT_INJOVR 0 = true ∧
      SameWords s t [R.ADC_SPSTAT.addr p, R.ADC_STAT.base] ∧ SameMemory s t))) ∧
  (s.part.is F.ADC_CTRL_EN 0 = true → s.part.get F.ADC_SPCFG_OSR p ≠ 7 → (s.part.point p).inj = none → ¬hard →
    Completes (.swtrig i p) s (fun t => started t ∧ SameWords s t [R.ADC_SPCFG.addr p, R.ADC_SPSTAT.addr p])) ∧
  (s.part.is F.ADC_CTRL_EN 0 = true → validTrigger (s.part.get F.ADC_GTRIG_TSRC g) (s.part.get F.ADC_GTRIG_TSEL g) = true →
    p.val = 8 * g.val + j.val → (s.part.point p).inj = none → ¬hard →
    Completes (.groupTrigger i g) s started)) ∧
  (∀ (i : Initiator) (k : Fin 72) (g : Fin 8) (ofs gain : Int) (lin : Nat) (p : Fin 64) (s : State),
  (s.part.is F.ADC_CTRL_EN 0 = false ∨ s.part.is F.ADC_CTRL_CALEN 0 = false → Completes .rotationStep s (fun t => t = s)) ∧
  (s.part.is F.ADC_CTRL_EN 0 = true → s.part.is F.ADC_CTRL_CALEN 0 = true → s.part.stepFree g = true → s.part.adc.sweep = none →
    s.part.stepInForce 1 = false → (s.part.sliceGroup g).next < 8 → Completes .rotationStep s (fun t => SameMemory s t ∧
      t.part.get F.ADC_GSTAT_CALPOS g = (s.part.sliceGroup g).next ∧
      ∃ h, (t.part.sliceGroup g).step = some h ∧ h.pos = (s.part.sliceGroup g).next)) ∧
  (s.part.get F.ADC_SL_STATE k ≠ 2 ∨ s.part.is F.ADC_STAT_REFRDY 0 = false →
    Completes (.calibrationDone k ofs gain lin) s (fun t => t = s)) ∧
  (s.part.get F.ADC_SL_STATE k = 2 → s.part.is F.ADC_STAT_REFRDY 0 = true → s.part.adc.sweep = none →
    (s.part.calPasses ofs gain lin = true → (s.part.sliceGroup (k.val / 9)).due = false →
      Completes (.calibrationDone k ofs gain lin) s (fun t => t.part.get F.ADC_SL_STATE k = 1 ∧
        t.part.sliceCal k = { ofs := ofs, gain := gain } ∧ t.part.get F.ADC_GSTAT_SPARE (k.val / 9) = k.val % 9 ∧ t.part.get F.ADC_GSTAT_CALPOS (k.val / 9) = 15 ∧ SameMemory s t)) ∧
    (s.part.calPasses ofs gain lin = false → Completes (.calibrationDone k ofs gain lin) s (fun t =>
      t.part.get F.ADC_SL_STATE k = 3 ∧ t.part.bit F.ADC_GSTAT_RET (k.val / 9) (k.val % 9) = true ∧
      t.part.is F.ADC_STAT_RETIRE 0 = true ∧ t.part.get F.ADC_GSTAT_SPARE (k.val / 9) = 15 ∧ SameMemory s t))) ∧
  (s.part.is F.ADC_CTRL_EN 0 = true → s.part.get F.ADC_CTRL_SNS_T 0 ≠ 0 → s.part.get F.ADC_CTRL_REFSEL 0 ≠ 3 →
    s.part.adc.sweep = none → s.part.groupBusy 0 = true ∨ s.part.get F.ADC_GSTAT_SPARE 0 < 9 →
    Completes (.calibrationSweep i) s (fun t => t.part.adc.sweep = some (0, 0) ∧ t.part.is F.ADC_STAT_SWBUSY 0 = true ∧
      (s.part.groupBusy 0 = false → t.part.get F.ADC_SL_STATE (s.part.get F.ADC_GSTAT_SPARE 0) = 2 ∧
        t.part.get F.ADC_GSTAT_SPARE 0 = 15) ∧ SameMemory s t)) ∧
  Completes .referenceSettled s (fun t => t.part.is F.ADC_STAT_REFRDY 0 = true ∧ SameWords s t [R.ADC_STAT.base] ∧ SameMemory s t) ∧
  Completes (.senseStale p) s (fun t => t.part.is F.ADC_SPSTAT_STALE p = true ∧ SameMemory s t ∧
    (p.val = 63 ∨ s.part.railState p = railOff → SameWords s t [R.ADC_SPSTAT.addr p])))

/-- R292 to R299: a monitor's filtered output is the majority of its last NFILT samples, and sets its latch when it rises, over a clear
written in that sample; FOLLOW clears the latch when it falls. Enabling starts the filter afresh, disabling clears it, and an illegal configuration is refused; a clear, the
supervision of a stuck output and of a chattering input act as their rules say. -/
def Obligations.Monitors : Prop := ∀ (i : Initiator) (k : Fin 96) (x : Int) (v : Word) (s : State),
  let cfg := R.WMON_CFG.addr k
  let y := s.part.monitor k
  let raw := s.part.compare k (s.part.is F.WMON_ST_FILT k) (s.part.get F.WMON_CFG_HYS k) x
  let out := majority (s.part.get F.WMON_CFG_NFILT k) ((raw :: y.samples).take 15)
  let clearedNow := fun c => y.clearAt = some (s.part.sampleNo, c)
  let bad := 6 ≤ fieldOf v F.WMON_CFG_SEV ∨ fieldOf v F.WMON_CFG_NFILT % 2 = 0 ∨ fieldOf v F.WMON_CFG_NFILT < 3 ∨
    (2 ≤ fieldOf v F.WMON_CFG_MODE ∧ s.part.get F.WMON_THR_TH k < s.part.get F.WMON_THR_TL k)
  (s.part.is F.WMON_CFG_EN k = false → Completes (.monitorSample k x) s (fun t => t = s) ∧
    Completes (.monitorStuck k) s (fun t => t = s) ∧ Completes (.chatterWindow k) s (fun t => t = s)) ∧
  (s.part.is F.WMON_CFG_EN k = true → y.init = 0 → y.force = false → Completes (.monitorSample k x) s (fun t =>
    t.part.is F.WMON_ST_FILT k = out ∧ SameMemory s t ∧
    (out = true → s.part.is F.WMON_ST_FILT k = false → t.part.is F.WMON_ST_OUT k = true ∧
      (s.part.is F.WMON_ST_OUT k = false → (∀ c, ¬clearedNow c) → t.part.is F.WMON_STAT_HIT 0 = true) ∧
      (clearedNow true → s.part.get F.WMON_CFG_LMODE k = 0 → t.part.is F.WMON_ST_STILL k = true)) ∧
    (out = false → s.part.is F.WMON_ST_FILT k = true → s.part.get F.WMON_CFG_LMODE k = 3 → t.part.is F.WMON_ST_OUT k = false))) ∧
  (bad → Completes (.monitorEnable i k v) s (fun t => Refuses s t F.WMON_STAT_REFUSED i cfg v)) ∧
  (¬bad → s.part.is F.WMON_CFG_EN k = false → s.part.is F.WMON_ST_OUT k = false → fieldOf v F.WMON_CFG_EN = 1 → Completes (.monitorEnable i k v) s (fun t =>
    t.part.is F.WMON_CFG_EN k = true ∧ (t.part.monitor k).init = fieldOf v F.WMON_CFG_NFILT ∧ t.part.is F.WMON_ST_INIT k = true ∧
    SameWords s t [cfg, R.WMON_ST.addr k] ∧ SameMemory s t)) ∧
  (¬bad → s.part.is F.WMON_CFG_EN k = true → fieldOf v F.WMON_CFG_EN = 0 → Completes (.monitorEnable i k v) s (fun t =>
    t.part.is F.WMON_CFG_EN k = false ∧ t.part.is F.WMON_ST_FILT k = false ∧ t.part.is F.WMON_ST_OUT k = false ∧
    t.part.monitor k = {} ∧ SameWords s t [cfg, R.WMON_ST.addr k] ∧ SameMemory s t)) ∧
  (fieldOf v F.WMON_CLR_CLR = 1 →
    (s.part.get F.WMON_CFG_LMODE k = 0 → s.part.is F.WMON_ST_FILT k = false → Completes (.monitorClear i k v) s (fun t =>
      t.part.is F.WMON_ST_OUT k = false ∧ SameWords s t [R.WMON_CLR.addr k, R.WMON_ST.addr k] ∧ SameMemory s t)) ∧
    (s.part.get F.WMON_CFG_LMODE k = 0 → s.part.is F.WMON_ST_FILT k = true → Completes (.monitorClear i k v) s (fun t =>
      t.part.is F.WMON_ST_OUT k = s.part.is F.WMON_ST_OUT k ∧ t.part.is F.WMON_ST_STILL k = true)) ∧
    (s.part.get F.WMON_CFG_LMODE k = 1 → s.part.is F.WMON_ST_OUT k = true → s.part.is F.WMON_ST_FILT k = true →
      Completes (.monitorClear i k v) s (fun t => t.part.is F.WMON_ST_ARMED k = true ∧ t.part.is F.WMON_ST_OUT k = true)) ∧
    (s.part.get F.WMON_CFG_LMODE k = 3 → Completes (.monitorClear i k v) s (fun t => SameWords s t [R.WMON_CLR.addr k] ∧ SameMemory s t))) ∧
  (s.part.is F.WMON_CFG_EN k = true → s.part.is F.WMON_ST_FILT k = true → s.part.get F.WMON_TIM_STUCK_T k ≠ 0 → y.stuck = false →
    Completes (.monitorStuck k) s (fun t => t.part.is F.WMON_ST_STUCK k = true ∧ t.part.is F.WMON_STAT_STUCK 0 = true ∧
      t.part.is F.WMON_ST_OUT k = s.part.is F.WMON_ST_OUT k ∧ SameMemory s t)) ∧
  (s.part.is F.WMON_CFG_EN k = true → s.part.get F.WMON_TIM_CHAT_W k ≠ 0 → s.part.get F.WMON_TIM_CHATMAX k < y.trans →
    Completes (.chatterWindow k) s (fun t => t.part.is F.WMON_ST_CHATTER k = true ∧ (t.part.monitor k).force = true ∧
      (t.part.monitor k).trans = 0 ∧ SameMemory s t)) ∧
  (s.part.is F.WMON_CFG_EN k = true → s.part.get F.WMON_TIM_CHAT_W k ≠ 0 → y.trans ≤ s.part.get F.WMON_TIM_CHATMAX k →
    Completes (.chatterWindow k) s (fun t => (t.part.monitor k).force = false ∧ (t.part.monitor k).trans = 0 ∧ SameWords s t [] ∧
      SameMemory s t))

/-! ## Rails and faults (R26 to R28, R301 to R317) -/

/-- R27: the enable request. Refused in FAULTED and under a DEVICE response, it leaves EN at 0 and sets REF; otherwise EN is
1, and a rail in OFF enters ARMING where the boot image has been accepted. A write of the value EN holds changes nothing.
R26, R27: the disable request. It clears EN and takes ARMING to OFF and a regulating rail to DISCHARGE; FAULTED stays. Where a
fault response of TRIP or above waits for the rail, the request is discarded under R28. -/
def Obligations.RailEnableAndDisable : Prop :=
  (∀ (i : Initiator) (r : Fin 63) (s : State),
  (s.part.is F.RAIL_CTRL_EN r = true → Completes (.railEnable i r) s (fun t => SameWords s t [] ∧ t.part.pool = s.part.pool)) ∧
  (s.part.is F.RAIL_CTRL_EN r = false → (s.part.railState r = railFaulted ∨ s.part.deviceOn = true) →
    Completes (.railEnable i r) s (fun t => t.part.is F.RAIL_CTRL_EN r = false ∧ t.part.is F.RAIL_CTRL_REF r = true ∧
      t.part.railState r = s.part.railState r ∧ RefusalRecorded s t i (R.RAIL_CTRL.addr r) 0x80000000 ∧
      SameWords s t (R.RAIL_CTRL.addr r :: lossRegs))) ∧
  (s.part.is F.RAIL_CTRL_EN r = false → s.part.railState r ≠ railFaulted → s.part.deviceOn = false →
    Completes (.railEnable i r) s (fun t => t.part.is F.RAIL_CTRL_EN r = true ∧
      t.part.railState r = (if s.part.railState r = railOff ∧ s.part.tb.boot = false then railArming else s.part.railState r) ∧
      SameMemory s t))) ∧
  (∀ (i : Initiator) (r : Fin 63) (s : State),
  s.part.is F.RAIL_CTRL_EN r = true →
  (s.part.outranked r = true → Completes (.railDisable i r) s (fun t => t.part.is F.RAIL_CTRL_EN r = true ∧
    Refuses s t F.BSL_ERR_DISC i (R.RAIL_CTRL.addr r) 0)) ∧
  (s.part.outranked r = false → Completes (.railDisable i r) s (fun t => t.part.is F.RAIL_CTRL_EN r = false ∧ SameMemory s t ∧
    (s.part.railState r = railArming → t.part.railState r = railOff) ∧
    (s.part.regulating r = true → t.part.railState r = railDischarge) ∧
    (s.part.railState r = railFaulted → t.part.railState r = railFaulted))))

/-- R26: leaving ARMING. The rail is held while Saffron is off and TRACK is its source (R77); with its phases and its sense ready
it enters SOFTSTART where admission accepts it, its set-point starting at VRAIL (R87), and stays in ARMING otherwise.
R26, R87: a rail in SOFTSTART whose set-point has reached the target, with VRAIL within the FEV limit, enters TRACK, HOLD or
FOLLOW as its selected source says; otherwise it stays. -/
def Obligations.RailStartsUp : Prop :=
  (∀ (r : Fin 63) (s : State), s.part.railState r = railArming →
  (s.part.get F.RAIL_SRC_SRC r = 0 → s.part.is F.SAF_CTRL_EN 0 = false → (s.part.bslRail r).noPlan = false →
    Completes (.railLeavesArming r) s (fun t => t.part.railState r = railArming ∧ t.part.is F.SAF_ERR_NOPLAN 0 = true ∧
      (t.part.bslRail r).noPlan = true ∧ SameMemory s t)) ∧
  ((s.part.get F.RAIL_SRC_SRC r ≠ 0 ∨ s.part.is F.SAF_CTRL_EN 0 = true) →
    (s.part.assignPhases r).armingReady r = true → (s.part.assignPhases r).senseValid r = true →
    (∀ m, ((s.part.assignPhases r).releaseLanes.inSoftstart r).decideAdmission = .ok m →
      Completes (.railLeavesArming r) s (fun t => t.part.railState r = railSoftstart ∧ (t.part.bslRail r).setp = s.part.vrail r ∧
        SameMemory s t)) ∧
    (∀ e, ((s.part.assignPhases r).releaseLanes.inSoftstart r).decideAdmission = .error e →
      Completes (.railLeavesArming r) s (fun t => t.part.railState r = railArming ∧ SameMemory s t)))) ∧
  (∀ (r : Fin 63) (s : State), s.part.railState r = railSoftstart →
  ((s.part.bslRail r).target = some (s.part.bslRail r).setp →
    (((s.part.bslRail r).setp : Int) - s.part.vrail r).natAbs ≤ s.part.get F.RAIL_FEV_LIMIT r →
    Completes (.softstartComplete r) s (fun t => t.part.railState r = railTrack + s.part.sourceOf r ∧ SameMemory s t)) ∧
  ((s.part.bslRail r).target ≠ some (s.part.bslRail r).setp → Completes (.softstartComplete r) s (fun t => t = s)) ∧
  (s.part.get F.RAIL_FEV_LIMIT r < (((s.part.bslRail r).setp : Int) - s.part.vrail r).natAbs →
    Completes (.softstartComplete r) s (fun t => t = s)))

/-- R28, R32, R120: RAIL_SRC. A reserved source or follow input is refused with RANGE, a change of MIX outside OFF with BOUND; a
write in OFF is stored at once; a change in TRACK, HOLD or FOLLOW moves the rail to the new source's state.
R26, R28, R104: RAIL_LCMD. FB takes a regulating rail to FALLBACK at once; RET in FALLBACK is held for admission; either is
discarded where a fault response waits for the rail, with BSL_ERR.DISC and a record. -/
def Obligations.RailSourceAndFallback : Prop :=
  (∀ (i : Initiator) (r : Fin 63) (v : Word) (s : State),
  ((fieldOf v F.RAIL_SRC_SRC = 3 ∨ 0x1F < fieldOf v F.RAIL_SRC_FIN) →
    Completes (.railSrcWrite i r v) s (fun t => Refuses s t F.BSL_ERR_RANGE i (R.RAIL_SRC.addr r) v)) ∧
  (fieldOf v F.RAIL_SRC_SRC ≠ 3 → fieldOf v F.RAIL_SRC_FIN ≤ 0x1F →
    (s.part.changes F.RAIL_SRC_MIX r v = true → s.part.railState r ≠ railOff →
      Completes (.railSrcWrite i r v) s (fun t => Refuses s t F.BSL_ERR_BOUND i (R.RAIL_SRC.addr r) v)) ∧
    (s.part.railState r = railOff →
      Completes (.railSrcWrite i r v) s (fun t => t.part.get F.RAIL_SRC_SRC r = fieldOf v F.RAIL_SRC_SRC ∧
        t.part.get F.RAIL_SRC_MIX r = fieldOf v F.RAIL_SRC_MIX ∧ SameWords s t [R.RAIL_SRC.addr r] ∧ SameMemory s t)) ∧
    (s.part.changes F.RAIL_SRC_MIX r v = false → s.part.outranked r = false → s.part.is F.SAF_CTRL_EN 0 = true →
      s.part.marginAsked r = 0 → s.part.holdForced r = false →
      (s.part.railState r = railTrack ∨ s.part.railState r = railHold ∨ s.part.railState r = railFollow) →
      Completes (.railSrcWrite i r v) s (fun t => t.part.railState r = railTrack + fieldOf v F.RAIL_SRC_SRC ∧
        t.part.get F.RAIL_SRC_SRC r = fieldOf v F.RAIL_SRC_SRC ∧ SameMemory s t)))) ∧
  (∀ (i : Initiator) (r : Fin 63) (s : State),
  (s.part.outranked r = true →
    Completes (.fallbackRequest i r) s (fun t => Refuses s t F.BSL_ERR_DISC i (R.RAIL_LCMD.addr r) 2) ∧
    Completes (.fallbackReturn i r) s (fun t => Refuses s t F.BSL_ERR_DISC i (R.RAIL_LCMD.addr r) 1)) ∧
  (s.part.outranked r = false →
    (s.part.regulating r = true → Completes (.fallbackRequest i r) s (fun t => t.part.railState r = railFallback ∧ SameMemory s t)) ∧
    (s.part.railState r = railFallback → Completes (.fallbackReturn i r) s (fun t =>
      t.part.is F.RAIL_LCMD_RET r = true ∧ (t.part.bslRail r).retPend = some i ∧ SameWords s t [R.RAIL_LCMD.addr r])) ∧
    (s.part.regulating r = false → Completes (.fallbackRequest i r) s (fun t => t = s)) ∧
    (s.part.railState r ≠ railFallback → Completes (.fallbackReturn i r) s (fun t => t = s))))

/-- R306, R307: a discharge that reaches VEND ends in FAULTED with IREF 0 where a latch is held, and in OFF otherwise (from
where an enabled rail arms); one that DISTO abandons always ends in FAULTED, with the latch held.
R309: RAIL_FCLR is refused under a DEVICE response, in DISCHARGE, and over an unacknowledged entry; otherwise no response
stays in force, and FAULTED gives OFF. -/
def Obligations.DischargeEndsAndFaultClears : Prop :=
  (∀ (r : Fin 63) (s : State), s.part.railState r = railDischarge →
  (s.part.vrail r ≤ (s.part.railFault r).vend →
    (s.part.latched r = true → Completes (.dischargeEnd r) s (fun t => t.part.railState r = railFaulted ∧
      t.part.word (R.RAIL_IREF.addr r) = 0 ∧ SameMemory s t)) ∧
    (s.part.latched r = false → s.part.is F.RAIL_CTRL_EN r = false →
      Completes (.dischargeEnd r) s (fun t => t.part.railState r = railOff ∧ t.part.get F.RAIL_FSTAT_RESP r = 7 ∧ SameMemory s t))) ∧
  ((s.part.railFault r).vend < s.part.vrail r → Completes (.dischargeEnd r) s (fun t => t = s)) ∧
  Completes (.disto r) s (fun t => t.part.railState r = railFaulted ∧ t.part.latched r = true ∧
    t.part.word (R.RAIL_IREF.addr r) = 0 ∧ SameMemory s t)) ∧
  (∀ (i : Initiator) (r : Fin 63) (s : State),
  ((s.part.deviceOn = true ∨ s.part.railState r = railDischarge ∨ s.part.unacked r = true) →
    Completes (.railFaultClear i r) s (fun t => Refuses s t F.FLT_STAT_REFUSED i (R.RAIL_FCLR.addr r) 1)) ∧
  (s.part.deviceOn = false → s.part.railState r ≠ railDischarge → s.part.unacked r = false →
    Completes (.railFaultClear i r) s (fun t => t.part.get F.RAIL_FSTAT_RESP r = 7 ∧ t.part.latched r = false ∧
      t.part.is F.RAIL_FSTAT_LATCHED r = false ∧ SameMemory s t ∧
      (s.part.railState r = railFaulted → s.part.is F.RAIL_CTRL_EN r = false → t.part.railState r = railOff))))

/-- R301, R306, R310, R311, R313, R317: applying the head of the queues. NOTE and WARN change no rail, and neither does an entry that is
only a record on its rail; TRIP and LATCH take the rail of the entry, if it regulates or a disable has it in DISCHARGE, to a new
DISCHARGE and clear its EN. -/
def Obligations.FaultApplication : Prop := ∀ s : State,
  (headEntry s.part.flt.queue = none → Completes .faultApply s (fun t => t = s)) ∧
  (∀ e, headEntry s.part.flt.queue = some e →
    (e.sev < 2 → e.code ≠ 0xB801 → s.part.bsl.readmit = false → s.part.is F.FLT_CTRL_XF 0 = false →
      Completes .faultApply s (fun t => SameWords s t [] ∧ t.part.flt.queue = s.part.flt.queue.filter (fun x => x.tag ≠ e.tag))) ∧
    (∀ r : Fin 63, e.rail = r → e.sev < 5 → e.mute.contains r.val = true → e.code ≠ 0xB801 → s.part.bsl.readmit = false →
      s.part.is F.FLT_CTRL_XF 0 = false → Completes .faultApply s (fun t => SameWords s t [])) ∧
    (∀ r : Fin 63, e.rail = r → (e.sev = 3 ∨ e.sev = 4) → e.mute.contains r.val = false →
      (s.part.regulating r = true ∨ (s.part.railState r = railDischarge ∧ (s.part.railFault r).trip = false ∧
        (s.part.railFault r).deviceLatch = false)) →
      Completes .faultApply s (fun t => t.part.railState r = railDischarge ∧ t.part.is F.RAIL_CTRL_EN r = false ∧
        (t.part.railFault r).vend = s.part.get F.RAIL_DIS_VEND r ∧ SameMemory s t)))

/-- R315 to R317: FLT_NEXT answers the entry presented and marks the handler as busy; FLT_ACK takes that entry out of its queue
and ends the handler's work, and is refused where no entry is presented. With RAISE it writes a record with the handler flag, which has
the entry's SOURCE and is made whatever its severity (the model's choice, log entry 115).
R308: FLT_DEVCLR ends the DEVICE response and its cause of safe state; it is refused while the timebase is lost, or while the
SUPPLY fault that raised the response persists. -/
def Obligations.HandlerExchangeAndDeviceClear : Prop :=
  (∀ (i : Initiator) (v : Word) (s : State),
  Completes (.fltNextRead i) s (fun t => t.part.bus = ⟨BitVec.ofNat 64 s.part.nextWord.toNat, false⟩ ∧
    t.part.is F.FLT_STAT_INH 0 = (s.part.is F.FLT_STAT_INH 0 || (s.part.presented.isSome && s.part.isHandler i)) ∧
    SameWords s t [R.FLT_STAT.base] ∧ SameMemory s t) ∧
  (s.part.presented = none → Completes (.fltAck i v) s (fun t => Refuses s t F.FLT_STAT_REFUSED i R.FLT_ACK.base v)) ∧
  (∀ e, s.part.presented = some e → e.applied = true → fieldOf v F.FLT_ACK_SEV < 6 → fieldOf v F.FLT_ACK_RAISE = 0 →
    Completes (.fltAck i v) s (fun t => t.part.flt.queue = s.part.flt.queue.filter (fun x => x.tag ≠ e.tag) ∧
      (s.part.isHandler i = true → t.part.is F.FLT_STAT_INH 0 = false) ∧ SameWords s t [R.FLT_STAT.base] ∧ SameMemory s t)) ∧
  (∀ e, s.part.presented = some e → e.applied = true → fieldOf v F.FLT_ACK_SEV ≤ e.sev → e.sev < 6 → fieldOf v F.FLT_ACK_RAISE = 1 →
    s.part.grn.queue.length < 64 → Completes (.fltAck i v) s (fun t =>
      (∃ z ∈ t.part.grn.queue, z.code = e.code ∧ z.source = e.source ∧ z.sev = fieldOf v F.FLT_ACK_SEV ∧ z.hnd = true) ∧
      SameWords s t [R.FLT_STAT.base] ∧ SameMemory s t))) ∧
  (∀ (i : Initiator) (s : State),
  ((s.part.tb.lossNow = true ∨ (s.part.flt.bySupply = true ∧ s.part.sys.failing = true)) →
    Completes (.fltDevclr i) s (fun t => Refuses s t F.FLT_STAT_REFUSED i R.FLT_DEVCLR.base 1)) ∧
  (s.part.tb.lossNow = false → (s.part.flt.bySupply = false ∨ s.part.sys.failing = false) →
    (s.part.deviceOn = false → Completes (.fltDevclr i) s (fun t => t = s)) ∧
    (s.part.deviceOn = true → Completes (.fltDevclr i) s (fun t => t.part.deviceOn = false ∧
      t.part.bit F.PWM_SAFEST_CAUSE 0 causeDevice = false ∧ t.part.flt.bySupply = false ∧ SameMemory s t))))

/-! ## The Garnet record (R319 to R330) -/

/-- R324 to R330: the oldest record of the input queue goes to the ring as the 32 bytes of slot (HEAD + 1) modulo 8,192 and becomes
HEAD, or counts as a repeat of the newest one; while the ring is frozen it goes to the freeze buffer, repeats there, or is lost. Once
there is room again, the count of records lost is recorded. A freeze keeps HEAD; its end writes what was buffered.
GRN_SWEV submits the initiator's record, and is refused with SEV 6. The oldest waiting copy goes to a slot of the NVM log region, or is dropped where
none takes it. -/
def Obligations.GarnetRecords : Prop := ∀ (i : Initiator) (v : Word) (x y : GRec) (rest : List GRec) (n k : Nat) (copies : List (GRec × Nat))
    (s : State),
  let reported := fun (t : State) =>
    if 0 < s.part.grn.lostSince ∧ rest.length < 64 ∧ (s.part.frozen = false ∨ t.part.grn.buffer.length < 64) then
      t.part.grn.lostSince = 0 ∧ ∃ z : GRec, t.part.grn.queue = rest ++ [z] ∧ z.code = 0x3C02 ∧ z.sev = 7 ∧ z.data0 = s.part.grn.lostSince
    else t.part.grn.lostSince = s.part.grn.lostSince ∧ t.part.grn.queue = rest
  let lastRepeats := fun (b : GRec) => s.part.grn.buffer.getLast? = some b ∧ s.part.repeats b x = true
  (s.part.grn.queue = [] → Completes .garnetRecordWrite s (fun t => t = s)) ∧
  (s.part.grn.queue = x :: rest →
    (s.part.frozen = false → (s.part.grn.newest = none ∨ s.part.grn.newest = some y ∧ s.part.repeats y x = false) →
      Completes .garnetRecordWrite s (fun t =>
        let seq := (s.part.get F.GRN_HEAD_SEQ 0 + 1) % 2 ^ 32
        t.part.get F.GRN_HEAD_SEQ 0 = seq ∧ reported t ∧ t.part.grn.newest = some x ∧
        Mem.word t.mem (ringAddr seq) = BitVec.ofNat 32 seq ∧
        (∀ b, b < ringAddr seq ∨ ringAddr seq + 32 ≤ b → Mem.byte t.mem b = Mem.byte s.mem b) ∧
        SameWords s t [R.GRN_HEAD.base, R.GRN_TAIL.base, R.GRN_MCNT.base])) ∧
    (s.part.frozen = false → s.part.grn.newest = some y → s.part.repeats y x = true → Completes .garnetRecordWrite s (fun t =>
      t.part.grn.newest = some { y with repeats := min 0xFFFF (y.repeats + 1) } ∧ reported t ∧ SameWords s t [])) ∧
    (s.part.frozen = true → lastRepeats y → Completes .garnetRecordWrite s (fun t =>
      t.part.grn.buffer = s.part.grn.buffer.dropLast ++ [{ y with repeats := min 0xFFFF (y.repeats + 1) }] ∧
      reported t ∧ SameWords s t [] ∧ SameMemory s t)) ∧
    (s.part.frozen = true → (∀ b, ¬lastRepeats b) → s.part.grn.buffer.length < 64 → Completes .garnetRecordWrite s (fun t =>
      t.part.grn.buffer = s.part.grn.buffer ++ [x] ∧ reported t ∧ SameWords s t [] ∧ SameMemory s t)) ∧
    (s.part.frozen = true → (∀ b, ¬lastRepeats b) → 64 ≤ s.part.grn.buffer.length → Completes .garnetRecordWrite s (fun t =>
      t.part.grn.buffer = (if x.sev = 5 then dropLowest s.part.grn.buffer ++ [x] else s.part.grn.buffer) ∧
      t.part.grn.lostSince = s.part.grn.lostSince + 1 ∧ t.part.grn.queue = rest ∧ t.part.is F.GRN_STAT_LOST 0 = true ∧
      SameWords s t lossRegs ∧ SameMemory s t))) ∧
  (5 < s.part.get F.GRN_CTRL_MSEV 0 →
    Completes (.grnFreeze i) s (fun t => Refuses s t F.GRN_STAT_REFUSED i R.GRN_CTRL.base (withBits (s.part.word R.GRN_CTRL.base) 0 1 1)) ∧
    Completes (.grnUnfreeze i) s (fun t => Refuses s t F.GRN_STAT_REFUSED i R.GRN_CTRL.base (withBits (s.part.word R.GRN_CTRL.base) 0 1 0))) ∧
  (s.part.get F.GRN_CTRL_MSEV 0 ≤ 5 →
    Completes (.grnFreeze i) s (fun t => t.part.frozen = true ∧ t.part.is F.GRN_CTRL_FREEZE 0 = true ∧
      SameWords s t [R.GRN_CTRL.base, R.GRN_STAT.base] ∧ SameMemory s t) ∧
    Completes (.grnUnfreeze i) s (fun t => t.part.frozen = false ∧ t.part.is F.GRN_CTRL_FREEZE 0 = false ∧
      (s.part.frozen = true → t.part.grn.buffer = [] ∧
        t.part.get F.GRN_HEAD_SEQ 0 = (s.part.get F.GRN_HEAD_SEQ 0 + s.part.grn.buffer.length) % 2 ^ 32) ∧
      (s.part.frozen = false → SameWords s t [R.GRN_CTRL.base] ∧ SameMemory s t))) ∧
  (s.part.frozen = false → Completes .freezeTimeout s (fun t => t = s)) ∧
  (s.part.frozen = true → Completes .freezeTimeout s (fun t => t.part.frozen = false ∧ t.part.is F.GRN_STAT_FRZTO 0 = true ∧
    t.part.grn.buffer = [] ∧ t.part.get F.GRN_HEAD_SEQ 0 = (s.part.get F.GRN_HEAD_SEQ 0 + s.part.grn.buffer.length) % 2 ^ 32)) ∧
  (fieldOf v F.GRN_SWEV_SEV = 6 → Completes (.grnSwev i v) s (fun t => Refuses s t F.GRN_STAT_REFUSED i R.GRN_SWEV.base v)) ∧
  (fieldOf v F.GRN_SWEV_SEV ≠ 6 → s.part.grn.queue.length < 64 → Completes (.grnSwev i v) s (fun t =>
    (∃ z ∈ t.part.grn.queue, z.code = (if fieldOf v F.GRN_SWEV_SEV < 6 then 0xEC00 else 0x6C00) + fieldOf v F.GRN_SWEV_EVENT ∧
      z.source = srcInit i ∧ z.sev = fieldOf v F.GRN_SWEV_SEV ∧ z.data0 = (s.part.swdWord i 0).toNat ∧
      z.data1 = (s.part.swdWord i 1).toNat ∧ z.data2 = (s.part.swdWord i 2).toNat) ∧ SameWords s t [] ∧ SameMemory s t)) ∧
  ((s.part.grn.mirror = [] ∨ s.part.recalling = true ∨ s.part.nvmProtected 0x20010000 = true) →
    Completes .mirrorCopy s (fun t => t = s)) ∧
  (s.part.grn.mirror = (x, n) :: copies → s.part.recalling = false → s.part.nvmProtected 0x20010000 = false →
    chooseSlot (s.part.logSlots s.mem) x.sev = none → Completes .mirrorCopy s (fun t => t.part.grn.mirror = copies ∧
      SameWords s t [R.GRN_MCNT.base] ∧ SameMemory s t)) ∧
  (s.part.grn.mirror = (x, n) :: copies → s.part.recalling = false → s.part.nvmProtected 0x20010000 = false →
    chooseSlot (s.part.logSlots s.mem) x.sev = some k → Completes .mirrorCopy s (fun t => t.part.grn.mirror = copies ∧
      Mem.word t.mem (logSlotAddr k) = BitVec.ofNat 32 n ∧ SameWords s t [R.GRN_MCNT.base] ∧
      ∀ b, b < logSlotAddr k ∨ logSlotAddr k + 32 ≤ b → Mem.byte t.mem b = Mem.byte s.mem b))

/-! ## PMBus (R331 to R353) -/

/-- R333, R335, R336, R343, R350: a write of a command that the port decodes changes nothing but status where it is out of order. Too few or
too many data bytes are violations that set DATA; a PEC that does not match, and one that is missing while PECREQ is 1, set PEC; a
code that WRITE_PROTECT covers sets CMD. A port that does not answer its address takes nothing, and its record of the newest
transaction is empty (R333).
R340 to R345: PAGE, OPERATION, ON_OFF_CONFIG, WRITE_PROTECT, the voltage words and the limits store what the host writes to the
page in force; a value that is not legal sets DATA and changes nothing. A voltage word above VOUT_MAX sets the warning of
STATUS_VOUT. OPERATION is a request under R27 and R28 only while ON_OFF_CONFIG is 0x18. -/
def Obligations.PmbusWriteChecksAndWrites : Prop :=
  (∀ (op : PmbOp) (s : State), op.read = false →
  ∀ x ∈ pmbWritable op,
    (s.part.pmbUp = false → Completes x.1 s (fun t => SameWords s t [] ∧ SameMemory s t ∧
      (s.part.pmb.wait = none → t.part.pmb.acked = 0 ∧ t.part.pmb.sent = []) ∧ (s.part.pmb.wait ≠ none → t = s))) ∧
    (s.part.pmbUp = true → op.data.length < x.2.2 ∨ x.2.2 + 1 < op.data.length →
      Completes x.1 s (fun t => t.part.bit F.PMB_STAT_CML 0 6 = true ∧ Violated s t)) ∧
    (s.part.pmbUp = true → op.data.length = x.2.2 + 1 →
      op.data.getLast? ≠ some (crc8 (s.part.pmbStart.pmbHead x.2.1 ++ op.data.take x.2.2)) →
      Completes x.1 s (fun t => t.part.bit F.PMB_STAT_CML 0 5 = true ∧ SameWords s t [R.PMB_STAT.base] ∧ SameMemory s t)) ∧
    (s.part.pmbUp = true → op.data.length = x.2.2 → s.part.is F.PMB_CTRL_PECREQ 0 = true →
      Completes x.1 s (fun t => t.part.bit F.PMB_STAT_CML 0 5 = true ∧ SameWords s t [R.PMB_STAT.base] ∧ SameMemory s t)) ∧
    (s.part.pmbUp = true → op.data.length = x.2.2 → s.part.is F.PMB_CTRL_PECREQ 0 = false → s.part.protects x.2.1 = true →
      Completes x.1 s (fun t => t.part.bit F.PMB_STAT_CML 0 7 = true ∧ SameWords s t [R.PMB_STAT.base] ∧ SameMemory s t))) ∧
  (∀ (op : PmbOp) (r : Fin 63) (d : Nat) (s : State), s.part.page = r →
  (PmbTakes s 0x00 1 op d →
    ((d ≤ 0x3E ∨ d = 0xFF) → Completes (.pmbPage op) s (fun t => t.part.page = d ∧ SameWords s t [R.PMB_STAT.base] ∧ SameMemory s t)) ∧
    (0x3E < d → d ≠ 0xFF → Completes (.pmbPage op) s (fun t => t.part.page = r ∧ t.part.bit F.PMB_STAT_CML 0 6 = true ∧
      SameWords s t [R.PMB_STAT.base] ∧ SameMemory s t))) ∧
  (PmbTakes s 0x01 1 op d →
    (operLegal d = false → Completes (.pmbOperation op) s (fun t => t.part.bit F.PMB_STAT_CML 0 6 = true ∧
      SameWords s t [R.PMB_STAT.base] ∧ SameMemory s t)) ∧
    (operLegal d = true → operMargin d = s.part.marginAsked r →
      (s.part.get F.PMB_OP_ONOFF r ≠ 0x18 → Completes (.pmbOperation op) s (fun t => t.part.get F.PMB_OP_OPER r = d ∧
        SameWords s t [R.PMB_OP.addr r] ∧ SameMemory s t)) ∧
      (s.part.get F.PMB_OP_ONOFF r = 0x18 → d ≠ 0x00 → d ≠ 0x40 → s.part.is F.RAIL_CTRL_EN r = false →
        ((s.part.railState r = railFaulted ∨ s.part.deviceOn = true) → Completes (.pmbOperation op) s (fun t =>
          t.part.is F.RAIL_CTRL_EN r = false ∧ t.part.is F.RAIL_CTRL_REF r = true ∧ t.part.bit F.PMB_STAT_CML 0 6 = true ∧ SameMemory s t)) ∧
        (s.part.railState r ≠ railFaulted → s.part.deviceOn = false → Completes (.pmbOperation op) s (fun t =>
          t.part.is F.RAIL_CTRL_EN r = true ∧ t.part.get F.PMB_OP_OPER r = d ∧ SameMemory s t))) ∧
      (s.part.get F.PMB_OP_ONOFF r = 0x18 → (d = 0x00 ∨ d = 0x40) → s.part.is F.RAIL_CTRL_EN r = true →
        (s.part.outranked r = true → Completes (.pmbOperation op) s (fun t => t.part.is F.RAIL_CTRL_EN r = true ∧
          t.part.bit F.PMB_STAT_CML 0 6 = true ∧ SameMemory s t)) ∧
        (s.part.outranked r = false → Completes (.pmbOperation op) s (fun t => t.part.is F.RAIL_CTRL_EN r = false ∧ SameMemory s t))))) ∧
  (PmbTakes s 0x02 1 op d →
    ((d = 0x18 ∨ d = 0) → Completes (.onOffConfig op) s (fun t => t.part.get F.PMB_OP_ONOFF r = d ∧ SameWords s t [R.PMB_OP.addr r] ∧
      SameMemory s t)) ∧
    (d ≠ 0x18 → d ≠ 0 → Completes (.onOffConfig op) s (fun t => t.part.bit F.PMB_STAT_CML 0 6 = true ∧ SameWords s t [R.PMB_STAT.base] ∧
      SameMemory s t))) ∧
  (PmbTakes s 0x10 1 op d →
    (wpLegal d = true → Completes (.writeProtect op) s (fun t => t.part.get F.PMB_CTRL_WP 0 = d ∧ SameWords s t [R.PMB_CTRL.base] ∧
      SameMemory s t)) ∧
    (wpLegal d = false → Completes (.writeProtect op) s (fun t => t.part.bit F.PMB_STAT_CML 0 6 = true ∧ SameWords s t [R.PMB_STAT.base] ∧
      SameMemory s t))) ∧
  (PmbTakes s 0x21 2 op d → Completes (.voutCommand op) s (fun t => t.part.get F.RAIL_VSET_VALUE r = d ∧
    (s.part.get F.RAIL_CEIL_VALUE r < d → t.part.bit F.PMB_ST_VOUT r 3 = true) ∧
    SameWords s t [R.RAIL_VSET.addr r, R.PMB_ST.addr r] ∧ SameMemory s t)) ∧
  (PmbTakes s 0x24 2 op d → Completes (.voutMax op) s (fun t => t.part.get F.RAIL_CEIL_VALUE r = d ∧ SameWords s t [R.RAIL_CEIL.addr r] ∧
    SameMemory s t)) ∧
  (PmbTakes s 0x25 2 op d → Completes (.voutMarginHigh op) s (fun t => t.part.get F.PMB_MARG_HIGH r = d ∧
    (s.part.get F.RAIL_CEIL_VALUE r < d → t.part.bit F.PMB_ST_VOUT r 3 = true) ∧
    SameWords s t [R.PMB_MARG.addr r, R.PMB_ST.addr r] ∧ SameMemory s t)) ∧
  (PmbTakes s 0x26 2 op d → Completes (.voutMarginLow op) s (fun t => t.part.get F.PMB_MARG_LOW r = d ∧
    (s.part.get F.RAIL_CEIL_VALUE r < d → t.part.bit F.PMB_ST_VOUT r 3 = true) ∧
    SameWords s t [R.PMB_MARG.addr r, R.PMB_ST.addr r] ∧ SameMemory s t)) ∧
  (PmbTakes s 0x40 2 op d → Completes (.voutOvFaultLimit op) s (fun t => t.part.get F.PMB_OV_OV r = d ∧ SameWords s t [R.PMB_OV.addr r] ∧
    SameMemory s t)) ∧
  (PmbTakes s 0x46 2 op d →
    (toSigned 11 d < 0 → Completes (.ioutOcFaultLimit op) s (fun t => t.part.bit F.PMB_STAT_CML 0 6 = true ∧
      SameWords s t [R.PMB_STAT.base] ∧ SameMemory s t)) ∧
    (0 ≤ toSigned 11 d → Completes (.ioutOcFaultLimit op) s (fun t =>
      t.part.get F.PMB_OC_OC r = min 0xFFFFFF (fromLinear11 d 256).toNat ∧ SameWords s t [R.PMB_OC.addr r] ∧ SameMemory s t))) ∧
  (PmbTakes s 0x4F 2 op d → Completes (.otFaultLimit op) s (fun t => t.part.getS F.PMB_OT_OT r = satS 16 (fromLinear11 d 64) ∧
    SameWords s t [R.PMB_OT.addr r] ∧ SameMemory s t)))

/-- R337, R339, R344, R346: a read returns the command's bytes and the PEC of the transaction, and changes no register, unless
CLEAR_ON_READ is set and the read of a status command completes: then the bits read are cleared. Voltages and currents read in the
formats of R344; where no exponent of Linear11 reaches a value, the word is free (log entry 57). -/
def Obligations.PmbusReads : Prop := ∀ (op : PmbOp) (r : Fin 63) (s : State),
  (PmbAsks s 1 op → s.part.page = r →
    Completes (.pmbPage op) s (fun t => Answered s t 0x00 [byteOf r] ∧ SameWords s t [] ∧ SameMemory s t) ∧
    Completes (.pmbOperation op) s (fun t => Answered s t 0x01 (lowBytes (s.part.operRead r) 1) ∧ SameWords s t [] ∧ SameMemory s t) ∧
    Completes (.pmbCapability op) s (fun t => Answered s t 0x19 [0xD0] ∧ SameWords s t [] ∧ SameMemory s t) ∧
    Completes (.voutMode op) s (fun t => Answered s t 0x20 [0x14] ∧ SameWords s t [] ∧ SameMemory s t) ∧
    Completes (.pmbusRevision op) s (fun t => Answered s t 0x98 [0x44] ∧ SameWords s t [] ∧ SameMemory s t) ∧
    Completes (.statusByte op) s (fun t => Answered s t 0x78 (lowBytes (s.part.statusWord r) 1) ∧ SameWords s t [] ∧ SameMemory s t ∧
      (ClearsOnRead s op → t.part.pmb.busy.get false r = false)) ∧
    Completes (.statusVout op) s (fun t => Answered s t 0x7A (lowBytes (s.part.get F.PMB_ST_VOUT r) 1) ∧ SameWords s t [R.PMB_ST.addr r] ∧
      SameMemory s t ∧ (ClearsOnRead s op → t.part.get F.PMB_ST_VOUT r = 0) ∧ (¬ ClearsOnRead s op → SameWords s t [])) ∧
    Completes (.statusIout op) s (fun t => Answered s t 0x7B (lowBytes (s.part.statusIout r) 1) ∧ SameWords s t [R.PMB_ST.addr r] ∧
      SameMemory s t ∧ (ClearsOnRead s op → t.part.get F.PMB_ST_IOUT r = 0) ∧ (¬ ClearsOnRead s op → SameWords s t [])) ∧
    Completes (.statusTemperature op) s (fun t => Answered s t 0x7D (lowBytes (s.part.get F.PMB_ST_TEMP r) 1) ∧
      SameWords s t [R.PMB_ST.addr r] ∧ SameMemory s t ∧ (ClearsOnRead s op → t.part.get F.PMB_ST_TEMP r = 0) ∧
      (¬ ClearsOnRead s op → SameWords s t [])) ∧
    Completes (.statusCml op) s (fun t => Answered s t 0x7E (lowBytes (s.part.get F.PMB_STAT_CML 0) 1) ∧ SameWords s t [R.PMB_STAT.base] ∧
      SameMemory s t ∧ (ClearsOnRead s op → t.part.get F.PMB_STAT_CML 0 = 0) ∧ (¬ ClearsOnRead s op → SameWords s t []))) ∧
  (PmbAsks s 2 op → s.part.page = r →
    Completes (.statusWord op) s (fun t => Answered s t 0x79 (lowBytes (s.part.statusWord r) 2) ∧ SameWords s t [] ∧ SameMemory s t ∧
      (ClearsOnRead s op → t.part.pmb.busy.get false r = false)) ∧
    Completes (.voutCommand op) s (fun t => Answered s t 0x21 (lowBytes (min (s.part.get F.RAIL_VSET_VALUE r) 0xFFFF) 2) ∧
      SameWords s t [] ∧ SameMemory s t) ∧
    Completes (.readVout op) s (fun t => Answered s t 0x8B (lowBytes (min (s.part.vrail r) 0xFFFF) 2) ∧ SameWords s t [] ∧ SameMemory s t) ∧
    (∀ w, toLinear11 s.part.vbus 4096 = some w →
      Completes (.readVin op) s (fun t => Answered s t 0x88 (lowBytes w 2) ∧ SameWords s t [] ∧ SameMemory s t)) ∧
    (∀ w, toLinear11 (s.part.railImeas r) 256 = some w →
      Completes (.readIout op) s (fun t => Answered s t 0x8C (lowBytes w 2) ∧ SameWords s t [] ∧ SameMemory s t)) ∧
    (∀ w, toLinear11 (s.part.railTemp r) 64 = some w →
      Completes (.readTemperature1 op) s (fun t => Answered s t 0x8D (lowBytes w 2) ∧ SameWords s t [] ∧ SameMemory s t)) ∧
    (∀ w, toLinear11 (s.part.pMeasRail r).num (s.part.pMeasRail r).den = some w →
      Completes (.readPout op) s (fun t => Answered s t 0x96 (lowBytes w 2) ∧ SameWords s t [] ∧ SameMemory s t)) ∧
    (toLinear11 (s.part.pMeasRail r).num (s.part.pMeasRail r).den = none → Completes (.readPout op) s (fun t =>
      t.part.free = s.part.free + 1 ∧ t.part.pmb.sent.length = 3 ∧ SameWords s t [] ∧ SameMemory s t))) ∧
  (PmbAsks s 8 op →
    Completes (.mfrId op) s (fun t => Answered s t 0x99 [7, 0x45, 0x4C, 0x56, 0x41, 0x4C, 0x49, 0x53] ∧ SameWords s t [] ∧ SameMemory s t) ∧
    Completes (.mfrModel op) s (fun t => Answered s t 0x9A [7, 0x4B, 0x4C, 0x2D, 0x39, 0x30, 0x36, 0x33] ∧ SameWords s t [] ∧
      SameMemory s t)) ∧
  (s.part.pmbUp = true → op.read = true → op.data = [] → op.count ≤ 2 → s.part.page = 0xFF →
    ∀ c ∈ [Instr.pmbOperation op, .statusByte op, .statusWord op, .statusVout op, .readVout op, .readIout op, .readTemperature1 op],
      Completes c s (fun t => t.part.bit F.PMB_STAT_CML 0 7 = true ∧ SameWords s t [R.PMB_STAT.base] ∧ SameMemory s t))

/-- R334, R345 to R353: CLEAR_FAULTS, a code the port does not know and those that it does, violations, the comparisons with the limits, the alert
response, timeouts, the wake, the mailbox of the manufacturer codes, and the three that the service program answers. -/
def Obligations.PmbusServices : Prop := ∀ (i : Initiator) (op : PmbOp) (r : Fin 63) (code : Fin 32) (kind : Fin 7) (w : PmbWait) (v : Word)
    (b0 b1 b2 : Byte) (s : State),
  (PmbTakes s 0x03 0 op 0 → s.part.page = r → s.part.is F.PMB_CTRL_CFRAIL 0 = false → Completes (.clearFaults op) s (fun t =>
    t.part.get F.PMB_ST_VOUT r = 0 ∧ t.part.get F.PMB_ST_IOUT r = 0 ∧ t.part.get F.PMB_ST_TEMP r = 0 ∧ t.part.get F.PMB_STAT_CML 0 = 0 ∧
    t.part.pmb.alert = false ∧ t.part.pmb.busy.get false r = false ∧ SameWords s t [R.PMB_ST.addr r, R.PMB_STAT.base] ∧ SameMemory s t)) ∧
  (s.part.pmbUp = true → op.read = true → Completes (.clearFaults op) s (fun t => t.part.bit F.PMB_STAT_CML 0 7 = true ∧ Violated s t)) ∧
  (s.part.pmbUp = true → decodedCommand b0.toNat = none → b0.toNat < 0xD0 ∨ 0xEF < b0.toNat → Completes (.invalidCommandCode b0 op) s (fun t =>
    t.part.pmb.acked = 1 ∧ t.part.bit F.PMB_STAT_CML 0 7 = true ∧ SameWords s t [R.PMB_STAT.base] ∧ SameMemory s t)) ∧
  (∀ x ∈ pmbWritable op, exec (.invalidCommandCode (byteOf x.2.1) op) s = exec x.1 s) ∧
  exec (.invalidCommandCode (byteOf (0xD0 + code)) op) s = exec (.mfrSpecific code op) s ∧
  (s.part.is F.PMB_CTRL_EN 0 = true → s.part.recalling = false → Completes (.protocolViolation kind) s (fun t => Violated s t ∧
    (∀ b, violationBit kind = some b → t.part.bit F.PMB_STAT_CML 0 b = true) ∧
    Recorded s t (codeOf 17 2) (srcInit .pmb) 0 t.part.pmbStatWord.toNat)) ∧
  (s.part.railState r = railOff → Completes (.pmbusLimitCheck r) s (fun t => t = s)) ∧
  (s.part.railState r ≠ railOff → Completes (.pmbusLimitCheck r) s (fun t =>
    t.part.bit F.PMB_ST_VOUT r 7 = (s.part.bit F.PMB_ST_VOUT r 7 || decide (s.part.get F.PMB_OV_OV r < s.part.vrail r)) ∧
    t.part.bit F.PMB_ST_IOUT r 7 = (s.part.bit F.PMB_ST_IOUT r 7 || decide ((s.part.get F.PMB_OC_OC r : Int) < s.part.railImeas r)) ∧
    t.part.bit F.PMB_ST_TEMP r 7 = (s.part.bit F.PMB_ST_TEMP r 7 || decide (s.part.getS F.PMB_OT_OT r < s.part.railTemp r)) ∧
    SameWords s t (R.PMB_ST.addr r :: lossRegs) ∧ SameMemory s t)) ∧
  (s.part.pmbUp = true → s.part.pmb.alert = true →
    Completes (.alertResponse true) s (fun t => t.part.pmb.alert = false ∧
      t.part.pmb.sent = [byteOf (2 * (8 * s.part.get F.PMB_CFG_BASE 0 + s.part.sys.straps))] ∧ SameWords s t [] ∧ SameMemory s t) ∧
    Completes (.alertResponse false) s (fun t => t.part.pmb.alert = true ∧ SameWords s t [] ∧ SameMemory s t)) ∧
  (s.part.is F.PMB_CTRL_EN 0 = true →
    Completes .sclTimeout s (fun t => t.part.is F.PMB_STAT_SCLTO 0 = true ∧ t.part.bit F.PMB_STAT_CML 0 1 = true ∧ t.part.pmb.wait = none ∧
      SameWords s t [R.PMB_STAT.base] ∧ SameMemory s t) ∧
    Completes .sdaTimeout s (fun t => t.part.is F.PMB_STAT_SDALTO 0 = true ∧ t.part.pmb.wait = none ∧
      SameWords s t (R.PMB_STAT.base :: lossRegs) ∧ SameMemory s t)) ∧
  (s.part.sys.standby = true → s.part.pmbUp = true → Completes .pmbusWake s (fun t => t.part.pmb.acked = 1 ∧ t.part.sys.standby = false ∧
    t.part.is F.SYS_STBY_WOKE 0 = true ∧ SameMemory s t)) ∧
  (s.part.pmbUp = true → (s.part.get F.SYS_BOOT_STATE 0 ≠ 5 ∨ code.val < 28) →
    (s.part.is F.PMB_MBIN_FULL 0 = true → Completes (.mfrSpecific code op) s (fun t => t.part.pmb.acked = 1 ∧
      (s.part.page = r → t.part.pmb.busy.get false r = true) ∧ SameWords s t [] ∧ SameMemory s t)) ∧
    (s.part.is F.PMB_MBIN_FULL 0 = false → (op.read = true ∨ s.part.protects (0xD0 + code) = false) →
      Completes (.mfrSpecific code op) s (fun t => t.part.is F.PMB_MBIN_FULL 0 = true ∧ t.part.get F.PMB_MBIN_CODE 0 = 0xD0 + code ∧
        t.part.is F.PMB_MBIN_RD 0 = op.read ∧ t.part.get F.PMB_MBIN_LEN 0 = min 34 op.data.length ∧ SameMemory s t))) ∧
  (fieldOf v F.PMB_MBOUT_LEN ≤ 34 → s.part.pmb.wait = some w → Completes (.mailboxAnswer i v) s (fun t => t.part.pmb.wait = none ∧
    t.part.pmb.sent.length = w.count ∧ SameWords s t [R.PMB_MBOUT.base] ∧ SameMemory s t)) ∧
  (34 < fieldOf v F.PMB_MBOUT_LEN →
    Completes (.mailboxAnswer i v) s (fun t => Refuses s t F.PMB_STAT_REFUSED i R.PMB_MBOUT.base (v ||| 0x80000000))) ∧
  (s.part.pmb.wait = none → Completes .mailboxTimeout s (fun t => t = s)) ∧
  (s.part.pmb.wait = some w → Completes .mailboxTimeout s (fun t => t.part.pmb.wait = none ∧ t.part.pmb.sent = List.replicate w.count 0xFF ∧
    t.part.is F.PMB_STAT_MBLATE 0 = true ∧ t.part.bit F.PMB_STAT_CML 0 1 = true ∧ SameWords s t [R.PMB_STAT.base] ∧ SameMemory s t)) ∧
  (s.part.is F.PMB_MBIN_FULL 0 = false → s.part.page = r →
    (PmbAsks s 4 op →
      Completes (.mfrVoutCommandFull op) s (fun t => Answered s t 0xD0 (3 :: lowBytes (s.part.get F.RAIL_VSET_VALUE r) 3) ∧ SameMemory s t) ∧
      Completes (.mfrReadVoutFull op) s (fun t => Answered s t 0xD1 (3 :: lowBytes (s.part.vrail r) 3) ∧ SameMemory s t) ∧
      Completes (.mfrVoutMaxFull op) s (fun t => Answered s t 0xD2 (3 :: lowBytes (s.part.get F.RAIL_CEIL_VALUE r) 3) ∧ SameMemory s t)) ∧
    (op.data = [3, b0, b1, b2] →
      (PmbTakes s 0xD0 4 op (fromBytes op.data) → Completes (.mfrVoutCommandFull op) s (fun t =>
        t.part.get F.RAIL_VSET_VALUE r = fromBytes [b0, b1, b2] % 2 ^ 20 ∧ SameMemory s t)) ∧
      (PmbTakes s 0xD2 4 op (fromBytes op.data) → Completes (.mfrVoutMaxFull op) s (fun t =>
        t.part.get F.RAIL_CEIL_VALUE r = fromBytes [b0, b1, b2] % 2 ^ 20 ∧ SameMemory s t)) ∧
      (s.part.pmbUp = true → op.read = false → Completes (.mfrReadVoutFull op) s (fun t =>
        t.part.bit F.PMB_STAT_CML 0 7 = true ∧ t.part.is F.PMB_STAT_VIOL 0 = true ∧ SameMemory s t))))

/-- R340: the values 0x00 to 0x3E of PAGE select rail 0 to rail 62, and 0xFF selects every rail at once; a write of any other value is
discarded and sets STATUS_CML.DATA; PAGE is 0x00 after a cold reset. -/
def Obligations.PmbusPageValues : Prop := ∀ (op : PmbOp) (d : Nat) (s : State),
  (PmbTakes s 0x00 1 op d →
    (d ≤ 0x3E → Completes (.pmbPage op) s (fun t => t.part.page = d ∧ t.part.pages = [d] ∧ SameWords s t [R.PMB_STAT.base] ∧ SameMemory s t)) ∧
    (d = 0xFF → Completes (.pmbPage op) s (fun t => t.part.page = d ∧ t.part.pages = allRails ∧ SameWords s t [R.PMB_STAT.base] ∧
      SameMemory s t)) ∧
    (0x3E < d → d ≠ 0xFF → Completes (.pmbPage op) s (fun t => t.part.page = s.part.page ∧ t.part.bit F.PMB_STAT_CML 0 6 = true ∧
      SameWords s t [R.PMB_STAT.base] ∧ SameMemory s t))) ∧
  (s.part.page = 0xFF → PmbTakes s 0x26 2 op d → Completes (.voutMarginLow op) s (fun t =>
    ∀ r : Fin 63, t.part.get F.PMB_MARG_LOW r = d)) ∧
  Completes .powerOnReset s (fun t => t.part.page = 0x00) ∧ Completes .resetPin s (fun t => t.part.page = 0x00) ∧
  State.reset.part.page = 0x00

/-! ## The two-wire controller and the load command ports (R354 to R382) -/

/-- R354 to R357: a transaction begins where the lengths are legal and none is in progress, and else is refused; one that only reads begins
with the address with read. Lost arbitration is retried up to RETRY times; otherwise a transaction ends with DONE set
and GO and BUSY clear, whatever its outcome; data received stands in PMC_BUF from byte 0, and a wrong PEC after it is reported. A bus clear that does not free SDA leaves
the bus stuck, which is reported. The alert list holds at most 8 addresses, none twice, and a read takes its head. -/
def Obligations.PmcPort : Prop := ∀ (i : Initiator) (v : Word) (clear : Option Bool) (freed : Bool) (d : List Byte) (pec : Byte) (b : Fin 64)
    (addrs : List (BitVec 7)) (a : Nat) (rest : List Nat) (s : State),
  ((32 < fieldOf v F.PMC_CMD_WLEN ∨ 32 < fieldOf v F.PMC_CMD_RLEN ∨ s.part.is F.PMC_STAT_BUSY 0 = true) →
    Completes (.pmcTransaction i v clear) s (fun t => Refuses s t F.PMC_STAT_REFUSED i R.PMC_CMD.base (v ||| 0x80000000))) ∧
  (fieldOf v F.PMC_CMD_WLEN ≤ 32 → fieldOf v F.PMC_CMD_RLEN ≤ 32 → s.part.is F.PMC_STAT_BUSY 0 = false →
    (s.part.is F.PMC_CFG_EN 0 = false → Completes (.pmcTransaction i v clear) s (fun t => t.part.is F.PMC_STAT_BUSY 0 = false ∧
      SameWords s t [R.PMC_CMD.base] ∧ SameMemory s t)) ∧
    (s.part.is F.PMC_CFG_EN 0 = true → Completes (.pmcTransaction i v clear) s (fun t => t.part.is F.PMC_STAT_BUSY 0 = true ∧
      t.part.is F.PMC_CMD_GO 0 = true ∧ t.part.get F.PMC_CMD_RLEN 0 = fieldOf v F.PMC_CMD_RLEN ∧ SameMemory s t ∧ t.part.pmc.tries = 0 ∧
      (0 < fieldOf v F.PMC_CMD_RLEN → fieldOf v F.PMC_CMD_WLEN = 0 → fieldOf v F.PMC_CMD_CMDEN = 0 →
        t.part.pmc.sent = [byteOf (2 * fieldOf v F.PMC_CMD_ADDR + 1)]) ∧
      (fieldOf v F.PMC_CMD_WLEN = 0 → fieldOf v F.PMC_CMD_CMDEN = 1 → fieldOf v F.PMC_CMD_RLEN = 0 → fieldOf v F.PMC_CMD_PEC = 0 →
        t.part.pmc.sent = [byteOf (2 * fieldOf v F.PMC_CMD_ADDR), byteOf (fieldOf v F.PMC_CMD_CMD)]) ∧
      (s.part.pmc.stuck = true ∨ clear = some false → t.part.pmc.stuck = true ∧ t.part.is F.PMC_STAT_BUS_STUCK 0 = true) ∧
      (s.part.pmc.stuck = false → clear ≠ some false → t.part.pmc.stuck = false)))) ∧
  ((s.part.is F.PMC_STAT_BUSY 0 = false ∨ s.part.pmc.stuck = true) →
    Completes (.pmcTransactionEnd (.nack b)) s (fun t => t = s) ∧ Completes .pmcSclTimeout s (fun t => t = s)) ∧
  (s.part.is F.PMC_STAT_BUSY 0 = true → s.part.pmc.stuck = false →
    (s.part.pmc.tries < s.part.get F.PMC_CFG_RETRY 0 → Completes (.pmcTransactionEnd .arbLost) s (fun t =>
      t.part.pmc.tries = s.part.pmc.tries + 1 ∧ SameWords s t [] ∧ SameMemory s t)) ∧
    (∀ e, (e = .arbLost → s.part.get F.PMC_CFG_RETRY 0 ≤ s.part.pmc.tries) → Completes (.pmcTransactionEnd e) s (fun t => t.part.is F.PMC_STAT_DONE 0 = true ∧ t.part.is F.PMC_STAT_BUSY 0 = false ∧
      t.part.is F.PMC_CMD_GO 0 = false ∧ SameMemory s t ∧
      (e = .arbLost → t.part.is F.PMC_STAT_ARBLOST 0 = true) ∧
      (e = .nack b → t.part.is F.PMC_STAT_NACK 0 = true ∧ t.part.get F.PMC_STAT_NACKAT 0 = b) ∧
      (e = .done d pec → d.length = fieldOf s.part.pmc.cmd F.PMC_CMD_RLEN → d.length ≤ 32 →
        (fieldOf s.part.pmc.cmd F.PMC_CMD_PEC = 1 → d ≠ [] → crc8 (s.part.pmc.sent ++ d) ≠ pec → t.part.is F.PMC_STAT_PECERR 0 = true) ∧
        ∀ k, k < d.length →
          bitsOf (t.part.word (R.PMC_BUF.base + 4 * (k / 4))) (8 * (k % 4)) 8 = (d.getD k 0).toNat))) ∧
    Completes .pmcSclTimeout s (fun t => t.part.is F.PMC_STAT_TOUT 0 = true ∧ t.part.is F.PMC_STAT_DONE 0 = true ∧
      t.part.is F.PMC_STAT_BUSY 0 = false ∧ t.part.is F.PMC_CMD_GO 0 = false ∧ SameWords s t [R.PMC_STAT.base, R.PMC_CMD.base] ∧
      SameMemory s t)) ∧
  (fieldOf v F.PMC_CFG_SPEED = 3 →
    Completes (.pmcBusClear i v freed) s (fun t => Refuses s t F.PMC_STAT_REFUSED i R.PMC_CFG.base (v ||| 1))) ∧
  (fieldOf v F.PMC_CFG_SPEED ≠ 3 → Completes (.pmcBusClear i v freed) s (fun t => t.part.is F.PMC_CFG_EN 0 = true ∧
    t.part.pmc.stuck = !freed ∧ (freed = false → t.part.is F.PMC_STAT_BUS_STUCK 0 = true) ∧ SameMemory s t ∧
    SameWords s t (R.PMC_CFG.base :: R.PMC_STAT.base :: lossRegs))) ∧
  (s.part.pmc.stuck = false → Completes (.busClearRetry freed) s (fun t => t = s)) ∧
  (s.part.pmc.stuck = true → Completes (.busClearRetry freed) s (fun t => t.part.pmc.stuck = !freed ∧ SameMemory s t ∧
    SameWords s t (R.PMC_STAT.base :: lossRegs))) ∧
  (s.part.is F.PMC_CFG_EN 0 = true → s.part.is F.PMC_CFG_ARAEN 0 = true → s.part.is F.PMC_STAT_BUSY 0 = false → s.part.pmc.stuck = false →
    s.part.pmc.alist.length + addrs.length ≤ 8 → Completes (.pmcAlertService addrs) s (fun t =>
      (∀ c, c ∈ t.part.pmc.alist ↔ c ∈ s.part.pmc.alist ∨ ∃ e ∈ addrs, e.toNat = c) ∧ t.part.pmc.alist.length ≤ 8 ∧
      SameWords s t [] ∧ SameMemory s t)) ∧
  ((s.part.is F.PMC_CFG_EN 0 = false ∨ s.part.is F.PMC_CFG_ARAEN 0 = false) → Completes (.pmcAlertService addrs) s (fun t => t = s)) ∧
  (s.part.pmc.alist = [] → Completes (.alistRead i) s (fun t => t.part.bus.data = 0 ∧ t.part.pmc.alist = [] ∧ SameWords s t [] ∧
    SameMemory s t)) ∧
  (s.part.pmc.alist = a :: rest → a < 128 → rest.length < 16 → Completes (.alistRead i) s (fun t =>
    t.part.bus.data.toNat = 2 ^ 31 + rest.length * 2 ^ 16 + a ∧ t.part.pmc.alist = rest ∧ SameWords s t [] ∧ SameMemory s t))

/-- R373 to R376: whatever the command, a disabled port ignores it; a port answers code 6 for a rail it may not name, 8 for an argument
out of order, 9 where a rail in FAULTED or DISCHARGE or a DEVICE response bars the change, and 10 where a higher request of R28 does;
the response that waited goes out, and nothing else changes but the port's status and, for code 6, its violation count.
R376 to R382: a command that passes its checks acts and is answered with ACK and its data. SET_FLOOR, SET_CEIL, SET_MARGIN, SET_GAIN,
MUTE and HOLD write the fields they name, on every rail for RAIL 63; HOLD and RELEASE put the rails under the port's force and take
them out; the reads change nothing; ACK_ALERT clears the latches named. A burst out of order is answered with its violation; 1 ms of
silence discards the response; a disabled port forgets its response and its latches. -/
def Obligations.LcpChecksAndCommands : Prop :=
  (∀ (f : LcpFrame) (c : Instr) (op : Nat) (s : State), LcpRow f c op →
  (s.part.is F.LCP_CFG_EN f.port = false → Completes c s (fun t => t = s)) ∧
  (s.part.is F.LCP_CFG_EN f.port = true →
    (s.part.railPermitted f.port f.rail op = false → Completes c s (fun t => LcpAnswers s t f op 6 0 ∧
      t.part.is F.LCP_STAT_VIOL f.port = true ∧
      t.part.get F.LCP_VCNT3_RAILRANGE f.port = min 0xFFFF (s.part.get F.LCP_VCNT3_RAILRANGE f.port + 1) ∧
      SameWords s t (R.LCP_STAT.addr f.port :: R.LCP_VCNT3.addr f.port :: lossRegs) ∧ SameMemory s t)) ∧
    (s.part.railPermitted f.port f.rail op = true →
      (s.part.argOk f.rail op f.arg.toNat = false → Completes c s (fun t => LcpAnswers s t f op 8 0 ∧
        SameWords s t [R.LCP_STAT.addr f.port] ∧ SameMemory s t)) ∧
      (s.part.argOk f.rail op f.arg.toNat = true →
        (s.part.stateBars f.rail op = true → Completes c s (fun t => LcpAnswers s t f op 9 0 ∧
          SameWords s t [R.LCP_STAT.addr f.port] ∧ SameMemory s t)) ∧
        (s.part.stateBars f.rail op = false → s.part.lcpRefused f.rail op = true → Completes c s (fun t => LcpAnswers s t f op 10 0 ∧
          SameWords s t [R.LCP_STAT.addr f.port] ∧ SameMemory s t)))))) ∧
  (∀ (f : LcpFrame) (r : Fin 63) (n : Fin 4) (i : Initiator) (v : Word) (edges : Nat) (bits : BitVec 48)
    (s : State),
  (LcpPasses s f 0x00 → Completes (.lcpNop f) s (fun t => LcpAnswers s t f 0x00 0 0 ∧ SameWords s t [R.LCP_STAT.addr f.port] ∧
    SameMemory s t)) ∧
  (LcpPasses s f 0x01 → Completes (.lcpSetFloor f) s (fun t => LcpAnswers s t f 0x01 0 0 ∧
    (∀ q ∈ lcpRails f.rail, t.part.get F.RAIL_FLOOR_VALUE q = f.arg.toNat) ∧
    SameWords s t (R.LCP_STAT.addr f.port :: (lcpRails f.rail).map (fun q => R.RAIL_FLOOR.addr q)) ∧ SameMemory s t)) ∧
  (LcpPasses s f 0x02 → Completes (.lcpSetCeil f) s (fun t => LcpAnswers s t f 0x02 0 0 ∧
    (∀ q ∈ lcpRails f.rail, t.part.get F.RAIL_CEIL_VALUE q = f.arg.toNat) ∧
    SameWords s t (R.LCP_STAT.addr f.port :: (lcpRails f.rail).map (fun q => R.RAIL_CEIL.addr q)) ∧ SameMemory s t)) ∧
  (LcpPasses s f 0x03 → f.rail.val = r → Completes (.lcpSetMargin f) s (fun t => LcpAnswers s t f 0x03 0 0 ∧
    t.part.get F.SAF_MARGIN_VALUE r = f.arg.toNat ∧ SameMemory s t)) ∧
  (LcpPasses s f 0x04 → Completes (.lcpSetGain f) s (fun t => LcpAnswers s t f 0x04 0 0 ∧
    t.part.get F.SAF_LGAIN_LGAIN (argChannel f.arg.toNat) = f.arg.toNat % 2 ^ 16 ∧ SameMemory s t)) ∧
  (LcpPasses s f 0x05 → Completes (.lcpMute f) s (fun t => LcpAnswers s t f 0x05 0 0 ∧
    t.part.get F.SAF_CHMAP_MUTE (argChannel f.arg.toNat) = f.arg.toNat % 2 ∧
    t.part.get F.SAF_CHMAP_RAIL (argChannel f.arg.toNat) = f.rail ∧ SameMemory s t)) ∧
  (LcpPasses s f 0x06 → f.rail.val = r → Completes (.lcpHold f) s (fun t => LcpAnswers s t f 0x06 0 0 ∧
    t.part.get F.RAIL_VSET_VALUE r = f.arg.toNat ∧ t.part.holdForced r = true ∧ SameMemory s t ∧
    (s.part.railState r = railTrack ∨ s.part.railState r = railFollow → t.part.railState r = railHold))) ∧
  (LcpPasses s f 0x07 → f.rail.val = r → Completes (.lcpRelease f) s (fun t => LcpAnswers s t f 0x07 0 0 ∧ t.part.holdForced r = false ∧
    SameMemory s t ∧ (s.part.holdForced r = false → SameWords s t [R.LCP_STAT.addr f.port]))) ∧
  (LcpPasses s f 0x10 → Completes (.lcpReadRail f) s (fun t => LcpAnswers s t f 0x10 0 (s.part.readRail s.mem f.rail f.arg.toNat) ∧
    SameWords s t [R.LCP_STAT.addr f.port] ∧ SameMemory s t)) ∧
  (LcpPasses s f 0x11 → Completes (.lcpReadStatus f) s (fun t => LcpAnswers s t f 0x11 0 (s.part.readStatus f.port f.rail) ∧
    SameWords s t [R.LCP_STAT.addr f.port] ∧ SameMemory s t)) ∧
  (LcpPasses s f 0x18 → Completes (.lcpAckAlert f) s (fun t => LcpAnswers s t f 0x18 0 (s.part.get F.LCP_STAT_ALAT f.port) ∧
    t.part.get F.LCP_STAT_ALAT f.port = s.part.get F.LCP_STAT_ALAT f.port - (s.part.get F.LCP_STAT_ALAT f.port &&& f.arg.toNat) ∧
    SameWords s t [R.LCP_STAT.addr f.port] ∧ SameMemory s t)) ∧
  (s.part.is F.LCP_CFG_EN n = true →
    (edges < 48 → Completes (.lcpViolation n edges bits) s (fun t =>
      (t.part.lcpPort n).answer = some (5, bits.toNat / 2 ^ 38 % 64, 0) ∧ t.part.is F.LCP_STAT_VIOL n = true ∧
      SameWords s t (R.LCP_STAT.addr n :: R.LCP_VCNT2.addr n :: lossRegs) ∧ SameMemory s t)) ∧
    (48 < edges → Completes (.lcpViolation n edges bits) s (fun t =>
      (t.part.lcpPort n).answer = some (7, bits.toNat / 2 ^ 38 % 64, 0) ∧ t.part.is F.LCP_STAT_VIOL n = true ∧
      SameWords s t (R.LCP_STAT.addr n :: R.LCP_VCNT3.addr n :: lossRegs) ∧ SameMemory s t)) ∧
    (frameCrc (bits.toNat / 256) ≠ bits.toNat % 256 → Completes (.lcpViolation n 48 bits) s (fun t =>
      (t.part.lcpPort n).answer = some (2, bits.toNat / 2 ^ 38 % 64, 0) ∧ t.part.is F.LCP_STAT_VIOL n = true ∧
      SameWords s t (R.LCP_STAT.addr n :: R.LCP_VCNT1.addr n :: lossRegs) ∧ SameMemory s t)) ∧
    (frameCrc (bits.toNat / 256) = bits.toNat % 256 → bits.toNat / 2 ^ 44 ≠ 10 → Completes (.lcpViolation n 48 bits) s (fun t =>
      (t.part.lcpPort n).answer = some (3, bits.toNat / 2 ^ 38 % 64, 0) ∧ SameMemory s t)) ∧
    (frameCrc (bits.toNat / 256) = bits.toNat % 256 → bits.toNat / 2 ^ 44 = 10 → opKnown (bits.toNat / 2 ^ 32 % 64) = false →
      Completes (.lcpViolation n 48 bits) s (fun t => (t.part.lcpPort n).answer = some (4, bits.toNat / 2 ^ 38 % 64, 0) ∧
        t.part.is F.LCP_STAT_VIOL n = true ∧ SameWords s t (R.LCP_STAT.addr n :: R.LCP_VCNT2.addr n :: lossRegs) ∧ SameMemory s t)) ∧
    Completes (.lcpTimeout n) s (fun t => (t.part.lcpPort n).answer = none ∧ t.part.is F.LCP_STAT_TOUT n = true ∧
      t.part.get F.LCP_VCNT3_TOUT n = min 0xFF (s.part.get F.LCP_VCNT3_TOUT n + 1) ∧
      SameWords s t [R.LCP_STAT.addr n, R.LCP_VCNT3.addr n] ∧ SameMemory s t)) ∧
  Completes (.lcpPortDisable i n v) s (fun t => t.part.is F.LCP_CFG_EN n = false ∧ t.part.get F.LCP_CFG_AMASK n = fieldOf v F.LCP_CFG_AMASK ∧
    (t.part.lcpPort n).answer = none ∧ t.part.get F.LCP_STAT_ALAT n = 0 ∧ SameWords s t [R.LCP_CFG.addr n, R.LCP_STAT.addr n] ∧
    SameMemory s t))

/-! ## Supervisory cores: the S-profile (R121 to R140) -/

/-- R121, R124, R125, R144: the words of both instruction sets. A word that is an instruction is the word that the formats give that
instruction, and no other word is; every other word is illegal. Words that the spec writes out are the instructions it writes beside
them. -/
def Obligations.InstructionWords : Prop := ∀ (c : Fin 4) (l : Fin 16),
  (∀ i u w, encodeWord i = some (u, w) → decodeWord u w = some i) ∧
  (∀ i u w, decodeWord u w = some i → encodeWord i = some (u, w)) ∧
  (∀ w, (decodeS c w).isSome = sLegal w ∧ (decodeL l w).isSome = lLegal w) ∧
  decodeS c 0x047EFFF0 = some (.addi c 3 30 (-16)) ∧ decodeS c 0x20801304 = some (.movh c 4 0x1304) ∧
  decodeS c 0x01084005 = some (.xor c 8 8 8) ∧ decodeS c 0x00C04001 = some (.add c 6 0 8) ∧
  decodeS c 0x40E10000 = some (.ldw c 7 1 0) ∧ decodeS c 0x60E50000 = some (.stw c 7 5 0) ∧
  decodeS c 0x8408FFFB = some (.bne c 0 8 (-5)) ∧ decodeS c 0xFC000002 = some (.fence c false) ∧
  decodeS c 0xA41F0000 = some (.jr c 0 31 false) ∧
  decodeL l 0x443B1000 = some (.ffs l 0 29 17) ∧ decodeL l 0x2C835000 = some (.lSub l 2 1 21) ∧
  decodeL l 0x38C44000 = some (.sos l 3 2 1 0) ∧ decodeL l 0x494BF020 = some (.clmp l 5 5 31 0 false true) ∧
  decodeL l 0x240C0002 = some (.movStore l 6 0 2) ∧ decodeL l 0xF8000000 = some (.yield_ l)

/-- R125, R126: the three-register instructions other than divisions write their result to rd, wrap modulo 2^32, set no flag,
and change no other register.
R125: the immediate instructions; the logic ones extend the immediate with zeros, ADDI with its sign.
R126: DIV and REM truncate toward zero; −2^31 by −1 saturates with remainder 0; a divisor of 0 raises code 7 and leaves rd
unchanged. -/
def Obligations.CoreArithmetic : Prop :=
  (∀ (c : Fin 4) (rd ra rb : Fin 32) (s : State), AtInstruction s c →
  let a := (s.part.core c).reg ra
  let b := (s.part.core c).reg rb
  Completes (.add c rd ra rb) s (fun t => Wrote s t c rd (a + b)) ∧
  Completes (.sub c rd ra rb) s (fun t => Wrote s t c rd (a - b)) ∧
  Completes (.and_ c rd ra rb) s (fun t => Wrote s t c rd (a &&& b)) ∧
  Completes (.or_ c rd ra rb) s (fun t => Wrote s t c rd (a ||| b)) ∧
  Completes (.xor c rd ra rb) s (fun t => Wrote s t c rd (a ^^^ b)) ∧
  Completes (.shl c rd ra rb) s (fun t => Wrote s t c rd (a <<< (b.toNat % 32))) ∧
  Completes (.shr c rd ra rb) s (fun t => Wrote s t c rd (a >>> (b.toNat % 32))) ∧
  Completes (.sar c rd ra rb) s (fun t => Wrote s t c rd (BitVec.ofInt 32 (a.toInt / 2 ^ (b.toNat % 32)))) ∧
  Completes (.slt c rd ra rb) s (fun t => Wrote s t c rd (if a.toInt < b.toInt then 1 else 0)) ∧
  Completes (.sltu c rd ra rb) s (fun t => Wrote s t c rd (if a.toNat < b.toNat then 1 else 0)) ∧
  Completes (.mul c rd ra rb) s (fun t => Wrote s t c rd (BitVec.ofNat 32 (a.toNat * b.toNat))) ∧
  Completes (.mulh c rd ra rb) s (fun t => Wrote s t c rd (BitVec.ofInt 32 (a.toInt * b.toInt / 2 ^ 32))) ∧
  Completes (.mulhu c rd ra rb) s (fun t => Wrote s t c rd (BitVec.ofNat 32 (a.toNat * b.toNat / 2 ^ 32)))) ∧
  (∀ (c : Fin 4) (rd ra sh : Fin 32) (imm : BitVec 16) (s : State), AtInstruction s c →
  let a := (s.part.core c).reg ra
  Completes (.addi c rd ra imm) s (fun t => Wrote s t c rd (a + BitVec.ofInt 32 imm.toInt)) ∧
  Completes (.andi c rd ra imm) s (fun t => Wrote s t c rd (a &&& BitVec.ofNat 32 imm.toNat)) ∧
  Completes (.ori c rd ra imm) s (fun t => Wrote s t c rd (a ||| BitVec.ofNat 32 imm.toNat)) ∧
  Completes (.xori c rd ra imm) s (fun t => Wrote s t c rd (a ^^^ BitVec.ofNat 32 imm.toNat)) ∧
  Completes (.shli c rd ra sh) s (fun t => Wrote s t c rd (a <<< sh.val)) ∧
  Completes (.shri c rd ra sh) s (fun t => Wrote s t c rd (a >>> sh.val)) ∧
  Completes (.sari c rd ra sh) s (fun t => Wrote s t c rd (BitVec.ofInt 32 (a.toInt / 2 ^ sh.val))) ∧
  Completes (.movh c rd imm) s (fun t => Wrote s t c rd (BitVec.ofNat 32 (imm.toNat * 2 ^ 16)))) ∧
  (∀ (c : Fin 4) (rd ra rb : Fin 32) (s : State), AtInstruction s c →
  let a := (s.part.core c).reg ra
  let b := (s.part.core c).reg rb
  (b ≠ 0 →
    Completes (.div c rd ra rb) s (fun t => Wrote s t c rd
      (if a.toInt = -(2 ^ 31) ∧ b.toInt = -1 then 0x7FFFFFFF else BitVec.ofInt 32 (Int.tdiv a.toInt b.toInt))) ∧
    Completes (.divu c rd ra rb) s (fun t => Wrote s t c rd (BitVec.ofNat 32 (a.toNat / b.toNat))) ∧
    Completes (.rem c rd ra rb) s (fun t => Wrote s t c rd (BitVec.ofInt 32 (Int.tmod a.toInt b.toInt))) ∧
    Completes (.remu c rd ra rb) s (fun t => Wrote s t c rd (BitVec.ofNat 32 (a.toNat % b.toNat)))) ∧
  (b = 0 → (s.part.core c).ex = false →
    Completes (.div c rd ra rb) s (fun t => Trapped s t c 7 (s.part.core c).pc 0) ∧
    Completes (.divu c rd ra rb) s (fun t => Trapped s t c 7 (s.part.core c).pc 0) ∧
    Completes (.rem c rd ra rb) s (fun t => Trapped s t c 7 (s.part.core c).pc 0) ∧
    Completes (.remu c rd ra rb) s (fun t => Trapped s t c 7 (s.part.core c).pc 0)))

/-- R23, R125, R128, R139: loads from memory give rd the little-endian bytes at ra + sext(off), extended as the mnemonic says; a
misaligned address raises code 4, an address that the map of R22 does not allow to be read raises code 5, and rd is unchanged. A load
from peripheral space or the NVM window is performed only once every earlier store has been, whose errors have then returned.
R23, R125, R128, R131: stores to memory put the low bytes of rs at ra + sext(off) and change no other byte and no register;
a misaligned address raises code 4; a store that the map forbids outside peripheral space and the NVM window retires, its error
still to return. -/
def Obligations.LoadsAndStores : Prop :=
  (∀ (c : Fin 4) (rd ra : Fin 32) (off : BitVec 16) (s : State), AtInstruction s c →
  let a := dataAddress s c ra off
  (PlainRead s a.toNat →
    (a.toNat % 4 = 0 →
      Completes (.ldw c rd ra off) s (fun t => Wrote s t c rd (BitVec.ofNat 32 (Mem.read s.mem a.toNat 4)))) ∧
    (a.toNat % 2 = 0 →
      Completes (.ldh c rd ra off) s (fun t => Wrote s t c rd (BitVec.ofInt 32 (toSigned 16 (Mem.read s.mem a.toNat 2)))) ∧
      Completes (.ldhu c rd ra off) s (fun t => Wrote s t c rd (BitVec.ofNat 32 (Mem.read s.mem a.toNat 2)))) ∧
    Completes (.ldb c rd ra off) s (fun t => Wrote s t c rd (BitVec.ofInt 32 (toSigned 8 (Mem.read s.mem a.toNat 1)))) ∧
    Completes (.ldbu c rd ra off) s (fun t => Wrote s t c rd (BitVec.ofNat 32 (Mem.read s.mem a.toNat 1)))) ∧
  (unposted a.toNat = true → a.toNat % 4 = 0 → Completes (.ldw c rd ra off) s (fun t =>
    (t.part.core c).flight = [] ∧ (t.part.core c).held = (s.part.core c).held ++ (s.part.core c).flight)) ∧
  ((s.part.core c).ex = false →
    (a.toNat % 4 ≠ 0 → Completes (.ldw c rd ra off) s (fun t => Trapped s t c 4 (s.part.core c).pc a)) ∧
    (a.toNat % 2 ≠ 0 →
      Completes (.ldh c rd ra off) s (fun t => Trapped s t c 4 (s.part.core c).pc a) ∧
      Completes (.ldhu c rd ra off) s (fun t => Trapped s t c 4 (s.part.core c).pc a)) ∧
    (regionOf a.toNat = .nowhere →
      (a.toNat % 4 = 0 → Completes (.ldw c rd ra off) s (fun t => Trapped s t c 5 (s.part.core c).pc a)) ∧
      Completes (.ldb c rd ra off) s (fun t => Trapped s t c 5 (s.part.core c).pc a)))) ∧
  (∀ (c : Fin 4) (rs ra : Fin 32) (off : BitVec 16) (s : State), AtInstruction s c →
  let a := dataAddress s c ra off
  let v := ((s.part.core c).reg rs).toNat
  let kept := fun t : State => Retired s t c ((s.part.core c).pc + 4) ∧ CoreKeeps (s.part.core c) (t.part.core c) ∧
    ∀ q : Fin 32, (t.part.core c).reg q = (s.part.core c).reg q
  (a.toNat % 4 = 0 → PlainWrite s a.toNat 4 → Completes (.stw c rs ra off) s (fun t => Stored s t a.toNat 4 v ∧ kept t)) ∧
  (a.toNat % 2 = 0 → PlainWrite s a.toNat 2 → Completes (.sth c rs ra off) s (fun t => Stored s t a.toNat 2 v ∧ kept t)) ∧
  (PlainWrite s a.toNat 1 → Completes (.stb c rs ra off) s (fun t => Stored s t a.toNat 1 v ∧ kept t)) ∧
  ((s.part.core c).ex = false →
    (a.toNat % 4 ≠ 0 → Completes (.stw c rs ra off) s (fun t => Trapped s t c 4 (s.part.core c).pc a)) ∧
    (a.toNat % 2 ≠ 0 → Completes (.sth c rs ra off) s (fun t => Trapped s t c 4 (s.part.core c).pc a))) ∧
  (a.toNat % 4 = 0 → regionOf a.toNat = .rom ∨ regionOf a.toNat = .nowhere →
    Completes (.stw c rs ra off) s (fun t => (t.part.core c).flight = (s.part.core c).flight ++ [a] ∧ SameMemory s t ∧
      Retired s t c ((s.part.core c).pc + 4))))

/-- R125, R127: a branch goes to its own address + 4 × sext(off16) when its comparison holds and to the next instruction
otherwise, and changes no general register.
R125, R127: JAL links and jumps; JR jumps to the value ra held before, and with LK links; a target that is no multiple of 4
raises code 2 with neither PC nor rd changed. -/
def Obligations.BranchesAndJumps : Prop :=
  (∀ (c : Fin 4) (ra rb : Fin 32) (off : BitVec 16) (s : State), AtInstruction s c →
  let x := s.part.core c
  let a := x.reg ra
  let b := x.reg rb
  let went := fun (taken : Prop) (t : State) =>
    (taken → Retired s t c (x.pc + 4 * off.signExtend 32)) ∧ (¬taken → Retired s t c (x.pc + 4)) ∧ CoreKeeps x (t.part.core c) ∧
    (∀ q : Fin 32, (t.part.core c).reg q = x.reg q) ∧ SameMemory s t
  Completes (.beq c ra rb off) s (went (a = b)) ∧ Completes (.bne c ra rb off) s (went (a ≠ b)) ∧
  Completes (.blt c ra rb off) s (went (a.toInt < b.toInt)) ∧ Completes (.bge c ra rb off) s (went (b.toInt ≤ a.toInt)) ∧
  Completes (.bltu c ra rb off) s (went (a.toNat < b.toNat)) ∧ Completes (.bgeu c ra rb off) s (went (b.toNat ≤ a.toNat))) ∧
  (∀ (c : Fin 4) (rd ra : Fin 32) (off : BitVec 21) (lk : Bool) (s : State), AtInstruction s c →
  let x := s.part.core c
  let others := fun t : State => (∀ q : Fin 32, q ≠ rd → (t.part.core c).reg q = x.reg q) ∧ CoreKeeps x (t.part.core c) ∧ SameMemory s t
  Completes (.jal c rd off) s (fun t => (t.part.core c).reg rd = x.pc + 4 ∧ Retired s t c (x.pc + 4 * off.signExtend 32) ∧ others t) ∧
  ((x.reg ra).toNat % 4 = 0 → Completes (.jr c rd ra lk) s (fun t =>
    (t.part.core c).reg rd = (if lk then x.pc + 4 else x.reg rd) ∧ Retired s t c (x.reg ra) ∧ others t)) ∧
  ((x.reg ra).toNat % 4 ≠ 0 → x.ex = false → Completes (.jr c rd ra lk) s (fun t => Trapped s t c 2 x.pc (x.reg ra))))

/-- R125, R136 to R138: CRD reads PS or any of the control registers 0 to 11, and takes or releases the held high half of a counter;
CWR writes PS or any of the control registers 1 to 7; an undefined or read-only register raises code 1 with the instruction word in
EADDR. That IRETLO does not count the CRD that reads it is the model's choice (log entry 118). -/
def Obligations.ControlRegisters : Prop := ∀ (c : Fin 4) (r : Fin 32) (n : Fin 64) (s : State), AtInstruction s c →
  let x := s.part.core c
  Completes (.crd c r true 0) s (fun t => Wrote s t c r x.ps) ∧
  Completes (.crd c r false 0) s (fun t => Wrote s t c r (BitVec.ofNat 32 c.val)) ∧
  Completes (.crd c r false 1) s (fun t => Wrote s t c r x.epc) ∧ Completes (.crd c r false 2) s (fun t => Wrote s t c r x.eps) ∧
  Completes (.crd c r false 3) s (fun t => Wrote s t c r x.ecause) ∧ Completes (.crd c r false 4) s (fun t => Wrote s t c r x.eaddr) ∧
  Completes (.crd c r false 5) s (fun t => Wrote s t c r x.evbase) ∧ Completes (.crd c r false 6) s (fun t => Wrote s t c r x.scr0) ∧
  Completes (.crd c r false 7) s (fun t => Wrote s t c r x.scr1) ∧
  Completes (.crd c r false 8) s (fun t => Wrote s t c r (BitVec.ofNat 32 x.iret)) ∧
  Completes (.crd c r false 10) s (fun t => Wrote s t c r (BitVec.ofNat 32 s.part.timestamp)) ∧
  Completes (.crd c r false 9) s (fun t => Wrote s t c r (x.iretHi.getD (BitVec.ofNat 32 (x.iret / 2 ^ 32)))) ∧
  Completes (.crd c r false 11) s (fun t => Wrote s t c r (x.timeHi.getD (BitVec.ofNat 32 (s.part.timestamp / 2 ^ 32)))) ∧
  (n.val ≤ 11 → Completes (.crd c r false n) s (fun t => Wrote s t c r (s.part.crValue c x n) ∧
    (t.part.core c).iretHi = (if n.val = 8 then some (BitVec.ofNat 32 (x.iret / 2 ^ 32)) else if n.val = 9 then none else x.iretHi) ∧
    (t.part.core c).timeHi =
      (if n.val = 10 then some (BitVec.ofNat 32 (s.part.timestamp / 2 ^ 32)) else if n.val = 11 then none else x.timeHi))) ∧
  (x.ex = false → n.val ≠ 0 →
    Completes (.crd c r true n) s (fun t => Trapped s t c 1 x.pc (BitVec.ofNat 32 (0x30 * 2 ^ 26 + r * 2 ^ 21 + 64 + n))) ∧
    Completes (.cwr c r true n) s (fun t => Trapped s t c 1 x.pc (BitVec.ofNat 32 (0x31 * 2 ^ 26 + r * 2 ^ 21 + 64 + n)))) ∧
  (x.ex = false → 11 < n.val → Completes (.crd c r false n) s (fun t =>
    Trapped s t c 1 x.pc (BitVec.ofNat 32 (0x30 * 2 ^ 26 + r * 2 ^ 21 + n)))) ∧
  Completes (.cwr c r true 0) s (fun t => (t.part.core c).ps = x.reg r &&& 3 ∧ (t.part.core c).g = x.g ∧
    Retired s t c (x.pc + 4) ∧ SameMemory s t) ∧
  Completes (.cwr c r false 1) s (fun t => (t.part.core c).epc = x.reg r ∧ (t.part.core c).ps = x.ps ∧ (t.part.core c).g = x.g ∧
    Retired s t c (x.pc + 4) ∧ SameMemory s t) ∧
  Completes (.cwr c r false 2) s (fun t => (t.part.core c).eps = x.reg r) ∧
  Completes (.cwr c r false 3) s (fun t => (t.part.core c).ecause = x.reg r &&& 0xC00000FF) ∧
  Completes (.cwr c r false 4) s (fun t => (t.part.core c).eaddr = x.reg r) ∧
  Completes (.cwr c r false 6) s (fun t => (t.part.core c).scr0 = x.reg r) ∧
  Completes (.cwr c r false 7) s (fun t => (t.part.core c).scr1 = x.reg r) ∧
  (1 ≤ n.val → n.val ≤ 7 → Completes (.cwr c r false n) s (fun t => Retired s t c (x.pc + 4) ∧ (t.part.core c).g = x.g ∧
    (t.part.core c).ps = x.ps ∧ (t.part.core c).flight = x.flight ∧ (t.part.core c).held = x.held ∧ SameMemory s t)) ∧
  Completes (.cwr c r false 5) s (fun t => (t.part.core c).evbase = x.reg r &&& 0xFFFFFE00 ∧ (t.part.core c).ps = x.ps ∧
    (t.part.core c).g = x.g ∧ Retired s t c (x.pc + 4) ∧ SameMemory s t) ∧
  (x.ex = false → n.val = 0 ∨ 7 < n.val → Completes (.cwr c r false n) s (fun t =>
    Trapped s t c 1 x.pc (BitVec.ofNat 32 (0x31 * 2 ^ 26 + r * 2 ^ 21 + n))))

/-- R125, R131, R133, R139: WAIT retires and leaves the core in RUN no longer than its sources say; FENCE with no store error
outstanding only retires, and with one takes it with EPC at the FENCE, or holds it while EX is 1; TRAPI enters with EPC at the next instruction and its
number in EADDR; RETI restores PC and PS. -/
def Obligations.SystemInstructions : Prop := ∀ (c : Fin 4) (scope : Bool) (n : BitVec 8) (s : State), AtInstruction s c →
  let x := s.part.core c
  Completes (.wait_ c) s (fun t => (t.part.core c).pc = x.pc + 4 ∧ (t.part.core c).iret = x.iret + 1 ∧ (t.part.core c).g = x.g ∧
    (t.part.core c).ps = x.ps ∧ SameMemory s t ∧
    ((t.part.core c).st = .run → ∃ src, src < 384 ∧ t.part.pending src = true ∧ t.part.enabled src = true)) ∧
  (x.flight = [] → x.held = [] → Completes (.fence c scope) s (fun t => Retired s t c (x.pc + 4) ∧
    CoreKeeps x (t.part.core c) ∧ (t.part.core c).g = x.g ∧ SameMemory s t)) ∧
  (∀ a l, x.held ++ x.flight = a :: l → x.ex = false → Completes (.fence c scope) s (fun t =>
    (t.part.core c).epc = x.pc ∧ (t.part.core c).ecause = 0x40000006 ∧ (t.part.core c).eaddr = a ∧ (t.part.core c).eps = x.ps ∧
    (t.part.core c).ps = x.ps ||| 3 ∧ (t.part.core c).pc = x.evbase ∧ (t.part.core c).held = l ∧ SameMemory s t)) ∧
  (x.ex = true → Completes (.fence c scope) s (fun t => Retired s t c (x.pc + 4) ∧ (t.part.core c).held = x.held ++ x.flight ∧
    (t.part.core c).flight = [] ∧ (t.part.core c).g = x.g ∧ (t.part.core c).ps = x.ps ∧ SameMemory s t)) ∧
  (x.ex = false → Completes (.trapi c n) s (fun t => Trapped s t c 8 (x.pc + 4) (BitVec.ofNat 32 n.toNat))) ∧
  (x.ex = true → s.part.inHandler c = false → Completes (.trapi c n) s (fun t => (t.part.core c).st = .lockup ∧
    (t.part.core c).pc = x.pc ∧ (t.part.core c).epc = x.epc ∧ SameMemory s t)) ∧
  Completes (.reti c) s (fun t => Retired s t c (x.epc &&& 0xFFFFFFFC) ∧ (t.part.core c).ps = x.eps &&& 3 ∧
    (t.part.core c).g = x.g ∧ (t.part.core c).epc = x.epc ∧ SameMemory s t)

/-- R121, R129, R131, R132, R153, R388: an illegal word raises code 1 with the word in EADDR, and on a lane ends the program as a
failure; a failed fetch raises code 3 with the address;
a posted store's error that returns while EX is 1 is held, and otherwise taken as imprecise with EPC at the next instruction;
an interrupt entry saves PC and PS, sets IM, goes to EVBASE + 0x100 and pushes its priority. -/
def Obligations.ExceptionEntries : Prop := ∀ (c : Fin 4) (l : Fin 16) (w : Word) (y : Run) (s : State),
  let x := s.part.core c
  ((s.part.lane l).run = some y → lLegal w = false → Completes (.illegalInstruction (.lane l) w) s (fun t => LaneFailed s t l)) ∧
  (AtInstruction s c → x.ex = false →
    (sLegal w = false → Completes (.illegalInstruction (.core c) w) s (fun t => Trapped s t c 1 x.pc w)) ∧
    Completes (.fetchBusError c) s (fun t => Trapped s t c 3 x.pc x.pc)) ∧
  (∀ a l, x.flight = a :: l →
    (x.ex = true → Completes (.impreciseStoreError c) s (fun t => (t.part.core c).held = x.held ++ [a] ∧
      (t.part.core c).flight = l ∧ (t.part.core c).pc = x.pc ∧ SameMemory s t)) ∧
    (x.ex = false → x.held = [] → x.st = .run → s.part.entriesOpen c = true → Completes (.impreciseStoreError c) s (fun t =>
      (t.part.core c).epc = x.pc ∧ (t.part.core c).ecause = 0x40000006 ∧ (t.part.core c).eaddr = a ∧
      (t.part.core c).ps = x.ps ||| 3 ∧ (t.part.core c).pc = x.evbase ∧ SameMemory s t))) ∧
  (∀ p, x.st = .run → s.part.storeErrorDue c = false → s.part.interruptDue c = some p →
    Completes (.interruptEntry c) s (fun t => (t.part.core c).epc = x.pc ∧ (t.part.core c).eps = x.ps ∧
      (t.part.core c).ps = x.ps ||| 1 ∧ (t.part.core c).ecause = 0x80000000 ∧ (t.part.core c).pc = x.evbase + 0x100 ∧
      t.part.bit F.IC_STK_HELD c p = true ∧ (∀ q : Fin 32, (t.part.core c).reg q = x.reg q) ∧ SameMemory s t))

/-! ## Interrupts, semaphores, timers and watchdogs (R384 to R404) -/

/-- R385, R389, R390: an asserted level makes its source pending; a write of IC_EOI by a core pops the running priority and
re-samples every source whose effective target it is; with the stack empty it sets EOIEMPTY; from another initiator it is
refused. A write of IC_PEND sets the bits written 1 and re-samples the others of the word.
R393: only a core sets the global disable, with a time limit above 0; when the limit is reached the ICU clears DIS and sets
GDISTO. -/
def Obligations.PendingBitsAndGlobalDisable : Prop :=
  (∀ (i : Initiator) (c : Fin 4) (src : Fin 384) (k : Fin 12) (v : Word) (s : State),
  (s.part.sourceLevel src = true → Completes (.sourceLevelChange src) s (fun t => t.part.pending src = true ∧ SameMemory s t)) ∧
  (s.part.sourceLevel src = false → Completes (.sourceLevelChange src) s (fun t => t = s)) ∧
  (∀ p, s.part.running c = some p → Completes (.icEoi (.core c)) s (fun t =>
    t.part.get F.IC_STK_HELD c = s.part.get F.IC_STK_HELD c - 2 ^ p ∧ SameMemory s t ∧
    (s.part.effTarget src = c → t.part.pending src = s.part.sourceLevel src) ∧
    (s.part.effTarget src ≠ c → t.part.pending src = s.part.pending src))) ∧
  (s.part.running c = none → Completes (.icEoi (.core c)) s (fun t => t.part.is F.IC_STAT_EOIEMPTY 0 = true ∧
    t.part.get F.IC_STK_HELD c = s.part.get F.IC_STK_HELD c ∧ SameMemory s t)) ∧
  ((∀ d, i ≠ .core d) → Completes (.icEoi i) s (fun t => Refuses s t F.IC_STAT_REFUSED i R.IC_EOI.base 0)) ∧
  Completes (.icPendWrite i k v) s (fun t => SameMemory s t ∧
    (src.val / 32 = k → t.part.pending src = (v.getLsbD (src.val % 32) || s.part.sourceLevel src)) ∧
    (src.val / 32 ≠ k → t.part.pending src = s.part.pending src))) ∧
  (∀ (i : Initiator) (v : Word) (s : State),
  (((∀ d, i ≠ .core d) ∨ fieldOf v F.IC_GDIS_MAXT = 0) →
    Completes (.icGdisWrite i v) s (fun t => Refuses s t F.IC_STAT_REFUSED i R.IC_GDIS.base v)) ∧
  (∀ d, i = .core d → fieldOf v F.IC_GDIS_MAXT ≠ 0 → Completes (.icGdisWrite i v) s (fun t =>
    t.part.get F.IC_GDIS_DIS 0 = fieldOf v F.IC_GDIS_DIS ∧ t.part.get F.IC_GDIS_MAXT 0 = fieldOf v F.IC_GDIS_MAXT ∧ SameMemory s t)) ∧
  (s.part.is F.IC_GDIS_DIS 0 = false → Completes .gdisTimeout s (fun t => t = s)) ∧
  (s.part.is F.IC_GDIS_DIS 0 = true → Completes .gdisTimeout s (fun t => t.part.is F.IC_GDIS_DIS 0 = false ∧
    t.part.is F.IC_STAT_GDISTO 0 = true ∧ SameMemory s t)))

/-- R403: a read of a free semaphore by an initiator other than the debug port takes it; a read of one that another owns
changes no owner, so that of two reads one acquires; the debug port's read changes nothing. The owner's write of 0 frees it, any other write is refused, and, by R404,
IC_SEMFREE written by a core or the debug port frees it whoever owns it. -/
def Obligations.Semaphores : Prop := ∀ (i : Initiator) (n : Fin 32) (v : Word) (s : State),
  (i ≠ .ydp → s.part.is F.IC_SEM_BUSY n = false → Completes (.semaphoreRead i n) s (fun t => t.part.is F.IC_SEM_BUSY n = true ∧
    t.part.get F.IC_SEM_OWNER n = initIndex i ∧ t.part.bus.data.getLsbD 31 = true ∧ SameWords s t [R.IC_SEM.addr n] ∧ SameMemory s t ∧
    ∀ j : Initiator, j ≠ .ydp → initIndex j ≠ initIndex i → Completes (.semaphoreRead j n) t (fun u =>
      u.part.bus.data.getLsbD 31 = false ∧ u.part.get F.IC_SEM_OWNER n = initIndex i))) ∧
  (i ≠ .ydp → s.part.is F.IC_SEM_BUSY n = true → Completes (.semaphoreRead i n) s (fun t => SameWords s t [] ∧ SameMemory s t ∧
    t.part.bus.data.getLsbD 31 = decide (s.part.get F.IC_SEM_OWNER n = initIndex i) ∧
    (s.part.get F.IC_SEM_OWNER n ≠ initIndex i → t.part.icu.semWait.getLsbD n = true ∧
      t.part.bus.data.toNat % 8 = s.part.get F.IC_SEM_OWNER n))) ∧
  Completes (.semaphoreRead .ydp n) s (fun t => t.part.bus.data.toNat % 8 = s.part.get F.IC_SEM_OWNER n ∧
    t.part.bus.data.getLsbD 8 = s.part.is F.IC_SEM_BUSY n ∧ SameWords s t [] ∧ t.part.icu = s.part.icu ∧ SameMemory s t) ∧
  (s.part.is F.IC_SEM_BUSY n = true → s.part.get F.IC_SEM_OWNER n = initIndex i →
    Completes (.semaphoreRelease i n 0) s (fun t => t.part.is F.IC_SEM_BUSY n = false ∧ t.part.icu.semWait.getLsbD n = false ∧
      t.part.bit F.IC_SEMREL_REL 0 n = (s.part.bit F.IC_SEMREL_REL 0 n || s.part.icu.semWait.getLsbD n) ∧
      SameWords s t [R.IC_SEM.addr n, R.IC_SEMREL.base] ∧ SameMemory s t)) ∧
  ((v ≠ 0 ∨ s.part.is F.IC_SEM_BUSY n = false ∨ s.part.get F.IC_SEM_OWNER n ≠ initIndex i) →
    Completes (.semaphoreRelease i n v) s (fun t => Refuses s t F.IC_STAT_REFUSED i (R.IC_SEM.addr n) v)) ∧
  (v.getLsbD n = true → s.part.is F.IC_SEM_BUSY n = true → (i = .ydp ∨ ∃ d, i = .core d) → Completes (.semaphoreForceFree i v) s (fun t =>
    t.part.is F.IC_SEM_BUSY n = false ∧ t.part.bit F.IC_SEMREL_REL 0 n = true ∧ SameMemory s t)) ∧
  (i ≠ .ydp → (∀ d, i ≠ .core d) → Completes (.semaphoreForceFree i v) s (fun t => Refuses s t F.IC_STAT_REFUSED i R.IC_SEMFREE.base v))

/-- R398: a write of EN = 1 loads the count from LOAD, and is refused while LOAD is 0 or where it would change PRE of a running
timer; when the count reaches 0 FLAG is set, and a timer that is not periodic stops.
R400, R401: a kick is 0xA5 and then 0x5A by the core itself and restarts the watchdog from TIMEOUT; any other write is refused.
The warning sets WDWARN; the expiry sets WDEXP, and with RST resets the core, whose registers are then those of R123. -/
def Obligations.TimersAndWatchdogs : Prop :=
  (∀ (i : Initiator) (n : Fin 16) (v : Word) (s : State),
  (s.part.get F.TMR_LOAD_LOAD n = 0 →
    Completes (.timerStart i n v) s (fun t => Refuses s t F.TMR_STAT_REFUSED i (R.TMR_CTL.addr n) (v ||| 0x80000000))) ∧
  (s.part.is F.TMR_CTL_EN n = true → fieldOf v F.TMR_CTL_PRE ≠ s.part.get F.TMR_CTL_PRE n →
    Completes (.timerStart i n v) s (fun t => Refuses s t F.TMR_STAT_REFUSED i (R.TMR_CTL.addr n) (v ||| 0x80000000))) ∧
  (s.part.get F.TMR_LOAD_LOAD n ≠ 0 → (s.part.is F.TMR_CTL_EN n = false ∨ fieldOf v F.TMR_CTL_PRE = s.part.get F.TMR_CTL_PRE n) →
    Completes (.timerStart i n v) s (fun t => t.part.is F.TMR_CTL_EN n = true ∧
      t.part.timerCount n = s.part.get F.TMR_LOAD_LOAD n ∧ SameWords s t [R.TMR_CTL.addr n, R.TMR_CNT.addr n] ∧ SameMemory s t)) ∧
  (s.part.is F.TMR_CTL_EN n = false → Completes (.timerExpiry n) s (fun t => t = s)) ∧
  (s.part.is F.TMR_CTL_EN n = true → Completes (.timerExpiry n) s (fun t => t.part.is F.TMR_CTL_FLAG n = true ∧
    t.part.timerCount n = 0 ∧ t.part.is F.TMR_CTL_EN n = s.part.is F.TMR_CTL_PER n ∧
    SameWords s t (R.TMR_CTL.addr n :: R.TMR_CNT.addr n :: (List.range 32).map (fun d => R.DMA_CSTAT.addr d)) ∧ SameMemory s t))) ∧
  (∀ (i : Initiator) (c : Fin 4) (v : Word) (s : State),
  Completes (.watchdogKick (.core c) c 0xA5) s (fun t => (t.part.core c).wdKey = true ∧ SameWords s t [] ∧ SameMemory s t) ∧
  ((s.part.core c).wdKey = true → Completes (.watchdogKick (.core c) c 0x5A) s (fun t =>
    t.part.wdLeft c = 100 * s.part.get F.TMR_WDCFG_TIMEOUT c ∧ (t.part.core c).wdKey = false ∧
    SameWords s t [R.TMR_STAT.base] ∧ SameMemory s t)) ∧
  ((i ≠ .core c ∨ (v ≠ 0xA5 ∧ v ≠ 0x5A)) → Completes (.watchdogKick i c v) s (fun t =>
    Refuses s t F.TMR_STAT_REFUSED i (R.TMR_WDKICK.addr c) v ∧ (t.part.core c).wdKey = false)) ∧
  (s.part.wdRuns c = true → s.part.get F.TMR_WDCFG_WARN c ≠ 0 → Completes (.watchdogWarning c) s (fun t =>
    t.part.bit F.TMR_STAT_WDWARN 0 c = true ∧ SameWords s t [R.TMR_STAT.base] ∧ SameMemory s t)) ∧
  (s.part.wdRuns c = true → Completes (.watchdogExpiry c) s (fun t => t.part.bit F.TMR_STAT_WDEXP 0 c = true ∧ SameMemory s t ∧
    (s.part.is F.TMR_WDCFG_RST c = true → (t.part.core c).g = [] ∧ (t.part.core c).ps = 1 ∧ t.part.get F.IC_STK_HELD c = 0) ∧
    (s.part.is F.TMR_WDCFG_RST c = false → t.part.wdLeft c = 0))) ∧
  (s.part.wdRuns c = false → Completes (.watchdogExpiry c) s (fun t => t = s)))

/-! ## The DMA engine (R405 to R426) -/

/-- R409 to R411, R413, R417, R419, R420, R423: GO starts a channel that is IDLE or HALTED while the engine is on, and else is refused;
ABORT halts an active channel with CODE 6; a software trigger releases a channel in WAITTRG and is otherwise latched, or lost where one
is latched already. A beat is issued by the channel that arbitration grants only. A beat of the fill operation stores its pattern and
counts the bytes; the write of STATUS ends the chain. A channel waiting 256 beats is promoted; a drain that is not quiescent in time
halts the channels in its way with CODE 5. -/
def Obligations.DmaChannels : Prop := ∀ (i : Initiator) (n : Fin 32) (v : Word) (a k : Nat) (d : List Byte) (p : Fin 16) (c : Fin 32)
    (s : State),
  ((fieldOf v F.DMA_CCMD_ABORT = 1 ∨ s.part.dmaActive n = true ∨ s.part.is F.DMA_CTRL_EN 0 = false) →
    Completes (.dmaStart i n v) s (fun t => Refuses s t F.DMA_STAT_REFUSED i (R.DMA_CCMD.addr n) (v ||| 1))) ∧
  (fieldOf v F.DMA_CCMD_ABORT = 0 → s.part.dmaActive n = false → s.part.is F.DMA_CTRL_EN 0 = true →
    Completes (.dmaStart i n v) s (fun t => t.part.dmaState n = dmaFetch ∧
      t.part.get F.DMA_CDESC_DESC n = 32 * fieldOf v F.DMA_CCMD_ADDR ∧ t.part.get F.DMA_CSTAT_CODE n = 0 ∧ t.part.get F.DMA_CREM_REM n = 0 ∧
      SameWords s t [R.DMA_CSTAT.addr n, R.DMA_CMISA.addr n, R.DMA_CMISC.addr n, R.DMA_CDESC.addr n, R.DMA_CREM.addr n] ∧
      SameMemory s t)) ∧
  (fieldOf v F.DMA_CCMD_GO = 0 → fieldOf v F.DMA_CCMD_SWTRG = 0 →
    (s.part.dmaActive n = false → Completes (.dmaAbort i n v) s (fun t => t = s)) ∧
    (s.part.dmaActive n = true → Completes (.dmaAbort i n v) s (fun t => t.part.dmaState n = dmaHalted ∧
      t.part.is F.DMA_CSTAT_HALT n = true ∧ t.part.get F.DMA_CSTAT_CODE n = 6 ∧
      ((s.part.dmaChan n).fetched = false → SameWords s t [R.DMA_CSTAT.addr n] ∧ SameMemory s t)))) ∧
  (fieldOf v F.DMA_CCMD_GO = 0 → fieldOf v F.DMA_CCMD_ABORT = 0 → Completes (.dmaSwtrg i n v) s (fun t =>
    SameWords s t [R.DMA_CSTAT.addr n] ∧ SameMemory s t ∧
    (s.part.dmaState n = dmaWait → t.part.dmaState n = dmaRun) ∧
    (s.part.dmaState n ≠ dmaWait → t.part.dmaState n = s.part.dmaState n ∧ t.part.is F.DMA_CSTAT_TRGPEND n = true ∧
      (s.part.is F.DMA_CSTAT_TRGPEND n = true → t.part.is F.DMA_CSTAT_TRGOVR n = true)))) ∧
  (s.part.dmaNext ≠ some n.val → Completes (.dmaBeat n) s (fun t => t = s)) ∧
  (BeatIs s n .fetch (.read a 8) → (s.part.dmaChan n).words.length < 3 → PlainRead s a → a % 8 = 0 →
    Completes (.dmaBeat n) s (fun t => (t.part.dmaChan n).words = (s.part.dmaChan n).words ++ [Mem.read s.mem a 8] ∧ SameMemory s t)) ∧
  (BeatIs s n .data (.write a k d) → PlainWrite s a k → alignedAccess a k = true → Completes (.dmaBeat n) s (fun t =>
    Stored s t a k (fromBytes d) ∧ (t.part.dmaChan n).dstDone = (s.part.dmaChan n).dstDone + k ∧
    t.part.get F.DMA_CREM_REM n = ((s.part.dmaChan n).desc.len - ((s.part.dmaChan n).dstDone + k)) % 2 ^ 24)) ∧
  (BeatIs s n .status (.write a 4 d) → PlainWrite s a 4 → a % 4 = 0 → (s.part.dmaChan n).draining = false →
    (s.part.dmaChan n).desc.next = 0 → Completes (.dmaBeat n) s (fun t => Stored s t a 4 (fromBytes d) ∧ t.part.dmaState n = dmaIdle ∧
      t.part.is F.DMA_CSTAT_END n = true)) ∧
  (s.part.dmaReady n = true → s.part.dmaHigh n = false → 256 ≤ (s.part.dmaChan n).watched → Completes (.dmaPromotion n) s (fun t =>
    (t.part.dmaChan n).promoted = true ∧ t.part.dmaHigh n = true ∧ SameWords s t [] ∧ SameMemory s t)) ∧
  ((s.part.dmaReady n = false ∨ s.part.dmaHigh n = true ∨ (s.part.dmaChan n).watched < 256) →
    Completes (.dmaPromotion n) s (fun t => t = s)) ∧
  Completes (.dmaSpacingEnd n) s (fun t => (t.part.dmaChan n).spacedTill = none ∧ SameWords s t [] ∧ SameMemory s t) ∧
  (p.val ∉ s.part.sys.drains → Completes (.drainTimeout p) s (fun t => t = s)) ∧
  (p.val ∈ s.part.sys.drains → s.part.touching p c = true → s.part.dmaState c ≠ dmaParked → Completes (.drainTimeout p) s (fun t =>
    t.part.dmaState c = dmaHalted ∧ t.part.get F.DMA_CSTAT_CODE c = 5 ∧ p.val ∈ t.part.sys.forced))

/-! ## The non-volatile memory (R427 to R449) -/

/-- R429, R430, R432, R440 to R442: a byte sent through NVM_SDATA goes to the address of NVM_SADDR, which counts on within its page;
a protected place, and the last page but for the key, end in a bus error. BP is refused under LOCK and else stored with its word in
the array. The scrub starts at 0, is aborted and completes at 100 %, but not while Clove defers it (R39, R40, R255). During recall every write is refused.
R433 to R439, R443, R448: a record write is refused while one runs; it reports 1 where the group is not usable or the payload too
long, 2 where the payload lies elsewhere or in a bank that is off, and writes the first record of an empty group to slot 0 with SEQ 0: its payload, then its
header. Its end gives RESULT. Recall takes BP from the array, finds the groups and the Garnet log, and its end chooses the boot source.
A commit waits, flagged HELD, while the counter area is protected. -/
def Obligations.NonVolatileMemory : Prop :=
  (∀ (i : Initiator) (v : Word) (s : State),
  (s.part.recalling = true →
    Completes (.nvmSdataWrite i v) s (fun t => Refuses s t F.NVM_STAT_REFUSED i R.NVM_SDATA.base v) ∧
    Completes (.bpWrite i v) s (fun t => Refuses s t F.NVM_STAT_REFUSED i R.NVM_PROT.base v) ∧
    Completes (.nvmScrub i) s (fun t => Refuses s t F.NVM_STAT_REFUSED i R.NVM_CTRL.base 2) ∧
    Completes (.nvmCommit i) s (fun t => Refuses s t F.NVM_STAT_REFUSED i R.NVM_CTRL.base 8)) ∧
  (s.part.recalling = false →
    (let a := 0x20000000 + s.part.get F.NVM_SADDR_ADDR 0
     (s.part.nvmProtected a = true → Completes (.nvmSdataWrite i v) s (fun t => t.part.bus.error = true ∧
       t.part.is F.NVM_STAT_PROTW 0 = true ∧ SameMemory s t)) ∧
     (s.part.nvmProtected a = false → isLastPage a = true → isKey a = false →
       Completes (.nvmSdataWrite i v) s (fun t => t.part.bus.error = true ∧ SameMemory s t)) ∧
     (s.part.nvmProtected a = false → (isLastPage a = false ∨ isKey a = true) → s.part.nvmErr (nvmGroup a) = 0 →
       Completes (.nvmSdataWrite i v) s (fun t => t.part.bus.error = false ∧ Stored s t a 1 (v.toNat % 256) ∧
         0x20000000 + t.part.get F.NVM_SADDR_ADDR 0 = a / 256 * 256 + (a + 1) % 256 ∧
         (a % 256 = 255 → t.part.is F.NVM_STAT_WRAP 0 = true) ∧ SameWords s t [R.NVM_SADDR.base, R.NVM_STAT.base]))) ∧
    (s.part.is F.NVM_PROT_LOCK 0 = true → Completes (.bpWrite i v) s (fun t => RefusalRecorded s t i R.NVM_PROT.base v ∧
      t.part.get F.NVM_PROT_BP 0 = s.part.get F.NVM_PROT_BP 0 ∧ SameMemory s t)) ∧
    (s.part.is F.NVM_PROT_LOCK 0 = false → s.part.is F.NVM_STAT_HELD 0 = false → Completes (.bpWrite i v) s (fun t =>
      t.part.get F.NVM_PROT_BP 0 = fieldOf v F.NVM_PROT_BP ∧ t.part.get F.NVM_PROT_LOCK 0 = fieldOf v F.NVM_PROT_LOCK ∧
      Stored s t 0x2003FF20 8 (fieldOf v F.NVM_PROT_BP) ∧ SameWords s t [R.NVM_PROT.base])) ∧
    (s.part.is F.NVM_CTRL_SCRUB 0 = false → Completes (.nvmScrub i) s (fun t => t.part.is F.NVM_CTRL_SCRUB 0 = true ∧
      t.part.nvm.scrubbed = 0 ∧ t.part.get F.NVM_PROG_ITEM 0 = 0 ∧ t.part.get F.NVM_PROG_PCT 0 = 0 ∧
      SameWords s t [R.NVM_CTRL.base, R.NVM_PROG.base] ∧ SameMemory s t)) ∧
    (s.part.is F.NVM_CTRL_SCRUB 0 = true → Completes (.nvmScrub i) s (fun t => SameWords s t [] ∧ SameMemory s t)) ∧
    Completes (.nvmScrubAbort i) s (fun t => t.part.is F.NVM_CTRL_SCRUB 0 = false ∧ SameWords s t [R.NVM_CTRL.base] ∧ SameMemory s t)) ∧
  (s.part.is F.NVM_CTRL_SCRUB 0 = false ∨ s.part.stepInForce 1 = true → Completes .nvmScrubDone s (fun t => t = s)) ∧
  (s.part.is F.NVM_CTRL_SCRUB 0 = true → s.part.stepInForce 1 = false → Completes .nvmScrubDone s (fun t =>
    t.part.is F.NVM_CTRL_SCRUB 0 = false ∧ t.part.is F.NVM_STAT_SDONE 0 = true ∧ t.part.get F.NVM_PROG_ITEM 0 = 32767 ∧
    t.part.get F.NVM_PROG_PCT 0 = 10000 ∧ SameMemory s t ∧
    (s.part.nvm.errs = [] → SameWords s t [R.NVM_CTRL.base, R.NVM_STAT.base, R.NVM_PROG.base])))) ∧
  (∀ (i : Initiator) (v : Word) (x : RecordResult) (k : Fin 32) (s : State),
  ((s.part.is F.NVM_RWR_GO 0 = true ∨ s.part.recalling = true) →
    Completes (.recordWrite i v) s (fun t => Refuses s t F.NVM_STAT_REFUSED i R.NVM_RWR.base (withBits v 31 1 1))) ∧
  (s.part.is F.NVM_RWR_GO 0 = false → s.part.recalling = false →
    let grp := fieldOf v F.NVM_RWR_GRP
    let len := fieldOf v F.NVM_RWR_LEN
    let src := s.part.get F.NVM_RWSRC_SRC 0
    let g := dirGroup (s.part.dirEntry grp)
    ((s.part.get F.NVM_RGS_STATE grp = 0 ∨ s.part.get F.NVM_RGS_STATE grp = 3 ∨ g.size < len + 16) →
      Completes (.recordWrite i v) s (fun t => t.part.nvm.rwr = some { result := 1, grp := grp, slot := 0, seq := 0 } ∧
        t.part.is F.NVM_RWR_GO 0 = true ∧ SameWords s t [R.NVM_RWR.base] ∧ SameMemory s t)) ∧
    (s.part.get F.NVM_RGS_STATE grp = 1 → len + 16 ≤ g.size → payloadPlace src len = false ∨ s.part.sourceOff src len = true →
      Completes (.recordWrite i v) s (fun t => t.part.nvm.rwr = some { result := 2, grp := grp, slot := 0, seq := 0 } ∧
        SameWords s t [R.NVM_RWR.base] ∧ SameMemory s t)) ∧
    (s.part.get F.NVM_RGS_STATE grp = 1 → len + 16 ≤ g.size → payloadPlace src len = true → s.part.sourceOff src len = false →
      s.part.nvmProtected g.base = false → len % 8 = 0 → Completes (.recordWrite i v) s (fun t =>
        (∃ res, t.part.nvm.rwr = some { result := res, grp := grp, slot := 0, seq := 0 }) ∧
        Mem.word t.mem g.base = BitVec.ofNat 32 (0x5E1A + g.type * 65536) ∧ Mem.word t.mem (g.base + 4) = BitVec.ofNat 32 len ∧
        Mem.word t.mem (g.base + 8) = 0 ∧ (∀ j, j < len → Mem.byte t.mem (g.base + 16 + j) = Mem.byte s.mem (src + j)) ∧
        SameOutside s t g.base (16 + len)))) ∧
  (s.part.nvm.rwr = none → Completes .recordWriteDone s (fun t => t = s)) ∧
  (s.part.nvm.rwr = some x → x.grp < 32 → x.slot < 256 → Completes .recordWriteDone s (fun t => t.part.nvm.rwr = none ∧
    t.part.is F.NVM_RWR_GO 0 = false ∧ t.part.get F.NVM_RWR_RESULT 0 = x.result % 8 ∧ SameMemory s t ∧
    (x.result = 0 → t.part.get F.NVM_RGS_STATE x.grp = 2 ∧ t.part.get F.NVM_RGS_SLOT x.grp = x.slot ∧
      t.part.word (R.NVM_RGQ.addr x.grp) = BitVec.ofNat 32 x.seq) ∧
    (x.result ≠ 0 → SameWords s t [R.NVM_RWR.base]))) ∧
  (s.part.recalling = false → Completes .nvmRecall s (fun t => t = s) ∧ Completes .nvmRecallEnd s (fun t => t = s)) ∧
  (s.part.recalling = true →
    Completes .nvmRecall s (fun t => t.part.recalling = true ∧
      t.part.get F.NVM_PROT_BP 0 = (if s.part.nvmBad 0x2003FF20 8 = true then 0 else Mem.read s.mem 0x2003FF20 1 % 4) ∧
      t.part.get F.GRN_TAIL_SEQ 0 = (t.part.get F.GRN_HEAD_SEQ 0 + 1) % 2 ^ 32) ∧
    Completes .nvmRecallEnd s (fun t => t.part.recalling = false ∧ t.part.is F.NVM_STAT_READY 0 = true ∧ SameMemory s t ∧
      (s.part.get F.SYS_BOOT_STATE 0 = 0 →
        (s.part.get F.SYS_BOOT_STRAP 0 = 1 → t.part.get F.SYS_BOOT_STATE 0 = 5 ∧ t.part.is F.PMB_CTRL_EN 0 = true) ∧
        (s.part.get F.SYS_BOOT_STRAP 0 ≠ 1 → t.part.get F.SYS_BOOT_STATE 0 = 1 ∧ t.part.get F.SYS_BOOT_SRC 0 = 0)))) ∧
  (s.part.recalling = true → Completes (.nvmRescan i) s (fun t => Refuses s t F.NVM_STAT_REFUSED i R.NVM_CTRL.base 16)) ∧
  (s.part.recalling = false → Completes (.nvmRescan i) s (fun t => SameMemory s t ∧
    (s.part.nvmBad (0x20000000 + 8 * k) 8 = false → dirEnabled (Mem.read s.mem (0x20000000 + 8 * k) 4, Mem.read s.mem (0x20000000 + 8 * k + 4) 4) = false →
      t.part.get F.NVM_RGS_STATE k = 0))) ∧
  (s.part.recalling = false → s.part.nvmProtected 0x20000100 = true →
    Completes (.nvmCommit i) s (fun t => t.part.is F.NVM_STAT_HELD 0 = true ∧ SameWords s t [R.NVM_STAT.base] ∧ SameMemory s t) ∧
    (s.part.is F.NVM_CCFG_CEN 0 = true → Completes .commitInterval s (fun t => t.part.is F.NVM_STAT_HELD 0 = true ∧
      SameWords s t [R.NVM_STAT.base] ∧ SameMemory s t))) ∧
  (s.part.recalling = false → s.part.nvmProtected 0x20000100 = false →
    Completes (.nvmCommit i) s (fun t => t.part.is F.NVM_STAT_HELD 0 = false) ∧
    (s.part.is F.NVM_CCFG_CEN 0 = true → Completes .commitInterval s (fun t => t.part.is F.NVM_STAT_HELD 0 = false))) ∧
  (s.part.is F.NVM_CCFG_CEN 0 = false → Completes .commitInterval s (fun t => t = s)))

/-! ## Resets, supplies, power domains, standby (R450 to R458) -/

/-- R10, R123, R326, R332, R450, R451, R458, R460, R484, R485, R488: a power-on reset follows a supply below its reset level, and pins whose
bank's supply is down are not driven. A cold reset leaves every register at its reset value but SYS_RSTCAUSE, which holds its one cause, and
of the memories keeps the NVM array only. It is held while a supply is below its reset level, or, where it was down, less than 20 mV above it; its release samples the straps, and after a
power-on reset VIOP's class, which every other reset keeps. A write of SYS_RST without its key is refused;
with it a warm reset ends a freeze as R326 says, keeps what R10 and R458 name and loads the rest, and a core reset leaves that core as R123 says. -/
def Obligations.Resets : Prop := ∀ (i : Initiator) (v : Word) (strap : Fin 4) (pins : ReleasePins) (c : Fin 4)
    (p : Fin 128) (n : Fin 16) (s : State),
  let below := fun k => pins.volts.getD k 0 < resetLevel (s.part.sys.viop33 && !s.part.sys.por) k + s.part.riseOf k
  let cold := fun (cause : Nat) (t : State) => t.part.get F.SYS_RSTCAUSE_CAUSE 0 = cause ∧
    t.part.sys.inReset = true ∧ (∀ a, a ≠ R.SYS_RSTCAUSE.base → t.part.word a = resetWord a) ∧
    (∀ a, 0x20000000 ≤ a → a < 0x20040000 → Mem.byte t.mem a = Mem.byte s.mem a) ∧
    (∀ a, a < 0x20000000 ∨ 0x20040000 ≤ a → Mem.byte t.mem a = memDefault a) ∧ t.part.sys.viop33 = s.part.sys.viop33
  Completes .powerOnReset s (fun t => cold 1 t ∧ t.part.sys.por = true ∧ (∃ k, k < 7 ∧ t.part.bankLow k = true) ∧
    (t.part.bankLow 4 = true → t.part.pwmPin p = .off ∧ t.part.safePin n = .off) ∧ (t.part.bankLow 4 = false → t.part.safePin n = .low) ∧
    (t.part.bankLow 6 = true → t.part.gpioPin n = .off ∧ t.part.pgoodPin = .off)) ∧
  Completes .resetPin s (fun t => cold 2 t ∧ (s.part.bankLow 4 = false → t.part.safePin n = .low ∧
    (s.part.tap.ir = 2 → t.part.pwmPin p = .low)) ∧ t.part.flintIdle n = true ∧
    (s.part.bankLow 6 = false → s.part.tap.ir = 2 → t.part.lcpDoPin (n % 4) = some .low ∧ t.part.pmbBusPins = some .off)) ∧
  (s.part.sys.inReset = false → Completes (.resetRelease strap pins) s (fun t => t = s)) ∧
  (s.part.sys.inReset = true → (∃ k, k < 7 ∧ below k) → Completes (.resetRelease strap pins) s (fun t => t.part.sys.inReset = true ∧
    (∀ k, t.part.bankLow k = true ↔ k < 7 ∧ below k) ∧ SameWords s t [] ∧ SameMemory s t)) ∧
  (s.part.sys.inReset = true → (∀ k, k < 7 → ¬below k) → Completes (.resetRelease strap pins) s (fun t =>
    let class33 := if s.part.sys.por then decide (2500 < pins.volts.getD 4 0) else s.part.sys.viop33
    t.part.sys.viop33 = class33 ∧ t.part.bankLow 4 = false ∧ t.part.sys.inReset = false ∧
    (∀ k, k < 7 → (t.part.bit F.SYS_SUPST_OK 0 k = true ↔ warnLevel class33 k + s.part.riseOf k ≤ pins.volts.getD k 0)) ∧
    t.part.get F.SYS_BOOT_STRAP 0 = strap ∧ t.part.sys.straps = pins.pmb ∧ t.part.pmb.address = 8 * s.part.get F.PMB_CFG_BASE 0 + pins.pmb ∧
    SameWords s t [R.SYS_BOOT.base, R.SYS_SUPST.base] ∧ SameMemory s t)) ∧
  (fieldOf v F.SYS_RST_KEY ≠ 0xC1A5 →
    Completes (.warmReset i v) s (fun t => Refuses s t F.SYS_STAT_REFUSED i R.SYS_RST.base (withBits v 0 1 1)) ∧
    Completes (.coreReset i v) s (fun t => Refuses s t F.SYS_STAT_REFUSED i R.SYS_RST.base (withBits v 0 1 0))) ∧
  (fieldOf v F.SYS_RST_KEY = 0xC1A5 → Completes (.warmReset i v) s (fun t => t.part.frozen = false ∧
    t.part.bit F.SYS_RSTCAUSE_CAUSE 0 2 = true ∧ (t.part.core 0).st = .run ∧ (t.part.core 0).pc = 0 ∧
    (s.part.frozen = true → t.part.grn.buffer = [] ∧
      t.part.get F.GRN_HEAD_SEQ 0 = (s.part.get F.GRN_HEAD_SEQ 0 + s.part.grn.buffer.length) % 2 ^ 32))) ∧
  (fieldOf v F.SYS_RST_KEY = 0xC1A5 → s.part.frozen = false → Completes (.warmReset i v) s (fun t =>
    t.part.bit F.SYS_RSTCAUSE_CAUSE 0 2 = true ∧ (t.part.core 0).st = .run ∧ (t.part.core 0).g = [] ∧ (t.part.core 0).pc = 0 ∧
    t.part.sys.viop33 = s.part.sys.viop33 ∧ SameMemory s t ∧
    (∀ a, s.part.warmKeeps a = true → a ≠ R.SYS_RSTCAUSE.base → t.part.word a = s.part.word a) ∧
    (∀ a, s.part.warmKeeps a = false → a ∉ [R.SYS_BOOT.base, R.YDP_CTRL.base, R.SYS_SUPST.base, R.NVM_STAT.base, R.PMB_CTRL.base, R.PMB_CFG.base] →
      t.part.word a = resetWord a))) ∧
  (fieldOf v F.SYS_RST_KEY = 0xC1A5 → fieldOf v F.SYS_RST_CORE / 2 ^ c.val % 2 = 1 → Completes (.coreReset i v) s (fun t =>
    t.part.bit F.SYS_RSTCAUSE_CAUSE 0 (8 + c) = true ∧ (t.part.core c).g = [] ∧ (t.part.core c).ps = 1 ∧
    (c.val = 0 → (t.part.core c).pc = 0) ∧ t.part.get F.IC_STK_HELD c = 0 ∧ SameMemory s t))

/-- R452, R454 to R457: power failing is declared with its flag and, where no earlier one is flagged, raises SUPPLY; its end clears the
condition. A power-down that the table of R454 refuses changes nothing; otherwise the domain drains and goes off once it is quiescent
or forced, and its bank loses its contents; a power-up makes it usable again. Standby is refused unless the device is idle; it
takes every domain down, and a wake sets WOKE. -/
def Obligations.PowerDomains : Prop := ∀ (i : Initiator) (d : Fin 16) (k : Fin 7) (s : State),
  Completes (.powerFailing (some k)) s (fun t => t.part.bit F.SYS_SUPST_OK 0 k = false ∧ t.part.is F.SYS_SUPST_WARN 0 = true ∧
    t.part.sys.failing = true ∧ (s.part.is F.SYS_SUPST_WARN 0 = false → s.part.is F.SYS_SUPST_PFIN 0 = false → 1 ≤ s.part.policy 0 →
      t.part.is F.FLT_STAT_NEW 0 = true)) ∧
  ((s.part.get F.GPIO_CFG_MODE 15 ≠ 3 ∨ s.part.bit F.GPIO_IN_IN 0 15 = true) → Completes (.powerFailing none) s (fun t => t = s)) ∧
  (s.part.get F.GPIO_CFG_MODE 15 = 3 → s.part.bit F.GPIO_IN_IN 0 15 = false → Completes (.powerFailing none) s (fun t =>
    t.part.is F.SYS_SUPST_PFIN 0 = true ∧ t.part.sys.failing = true)) ∧
  Completes .powerFailingEnd s (fun t => t.part.get F.SYS_SUPST_OK 0 = 0x7F ∧ t.part.sys.failing = false ∧
    SameWords s t [R.SYS_SUPST.base] ∧ SameMemory s t) ∧
  (s.part.bit F.SYS_PWRREQ_REQ 0 d = false → s.part.downRefused d = true → Completes (.domainPowerDown i d) s (fun t =>
    Refuses s t F.SYS_STAT_REFUSED i R.SYS_PWRREQ.base (s.part.pwrreqWith d true))) ∧
  (s.part.bit F.SYS_PWRREQ_REQ 0 d = false → s.part.downRefused d = false → Completes (.domainPowerDown i d) s (fun t =>
    t.part.bit F.SYS_PWRREQ_REQ 0 d = true ∧ d.val ∈ t.part.sys.drains ∧ SameMemory s t)) ∧
  (d.val ∉ s.part.sys.drains ∨ (s.part.quiescent d = false ∧ d.val ∉ s.part.sys.forced) → Completes (.domainOff d) s (fun t => t = s)) ∧
  (d.val ∈ s.part.sys.drains → (s.part.quiescent d = true ∨ d.val ∈ s.part.sys.forced) → Completes (.domainOff d) s (fun t =>
    t.part.domainOff d = true ∧ t.part.is F.SYS_PWRST_DONE 0 = true ∧ d.val ∉ t.part.sys.drains ∧
    (d.val ∈ s.part.sys.forced → t.part.is F.SYS_PWRST_FORCED 0 = true) ∧
    (d.val < 3 → (t.part.core (d.val + 1)).st = .off) ∧
    (3 ≤ d.val → d.val < 6 → SameOutside s t (domainBase d) 0x40000 ∧
      ∀ a, domainBase d ≤ a → a < domainBase d + 0x40000 → Mem.byte t.mem a = 0) ∧
    (8 ≤ d.val → ∀ e, e < 4 → ∀ j, j < 8 → bitsOf (t.part.word (resAddr (8 * (d.val - 8) + j) e)) 31 1 = 0) ∧
    (d.val < 3 ∨ 6 ≤ d.val → SameMemory s t))) ∧
  (s.part.bit F.SYS_PWRREQ_REQ 0 d = true → Completes (.domainPowerUp i d) s (fun t => t.part.bit F.SYS_PWRREQ_REQ 0 d = false ∧
    d.val ∈ t.part.sys.ups ∧ d.val ∉ t.part.sys.drains ∧ SameMemory s t)) ∧
  (d.val ∉ s.part.sys.ups → Completes (.domainUp d) s (fun t => t = s)) ∧
  (d.val ∈ s.part.sys.ups → Completes (.domainUp d) s (fun t => t.part.domainOff d = false ∧ t.part.is F.SYS_PWRST_DONE 0 = true ∧
    d.val ∉ t.part.sys.ups ∧ SameMemory s t)) ∧
  (s.part.is F.SYS_STBY_GO 0 = false → s.part.standbyAllowed = false →
    Completes (.standby i) s (fun t => Refuses s t F.SYS_STAT_REFUSED i R.SYS_STBY.base 1)) ∧
  (s.part.is F.SYS_STBY_GO 0 = false → s.part.standbyAllowed = true → Completes (.standby i) s (fun t => t.part.sys.standby = true ∧
    t.part.is F.SYS_STBY_GO 0 = true ∧ t.part.domainOff d = true)) ∧
  (s.part.is F.SYS_STBY_GO 0 = true → Completes (.standby i) s (fun t => SameWords s t [] ∧ SameMemory s t)) ∧
  (s.part.sys.standby = false → Completes .standbyWake s (fun t => t = s)) ∧
  (s.part.sys.standby = true → Completes .standbyWake s (fun t => t.part.sys.standby = false ∧ t.part.is F.SYS_STBY_WOKE 0 = true ∧
    t.part.is F.SYS_STBY_GO 0 = false ∧ t.part.is F.TB_STAT_PLLLOCK 0 = false ∧ t.part.tb.relocking = true ∧ SameMemory s t))

/-! ## Boot and the self-test (R461 to R467, R480) -/

/-- R463 to R467, R480: a header or a section that fails its checks rejects the image with its ERR; a CRC that does not hold gives
ERR 3, a tag or its absence that does not fit the key ERR 4, and an image with neither CSTART0 nor parameters ERR 6. A rejected image
raises HIRQ bit 0, and the ROM waits for a host image where the strap lets it. The one section of an image is copied to its place. An
accepted image gives STATE 4 and its VERSION. While STATE is 5 the image commands fill the shared buffer and begin the load. The
self-test is refused outside its conditions, and reports the steps that failed; PROG of one that fails keeps its value (R41). -/
def Obligations.BootAndSelfTest : Prop := ∀ (i : Initiator) (v : Word) (op : PmbOp) (n e g : Nat) (x : Section) (fails : List Nat) (t0 : Nat)
    (s : State),
  ((s.part.get F.SYS_BOOT_STATE 0 ≠ 1 ∨ s.part.sys.loading = true ∨ s.part.sys.stopped = true) →
    Completes .imageLoadStart s (fun t => t = s)) ∧
  (s.part.get F.SYS_BOOT_STATE 0 = 1 → s.part.sys.loading = false → s.part.sys.stopped = false →
    (s.part.get F.SYS_BOOT_SRC 0 = 0 ∨ lenLegal s.part.sys.imageLen = true) →
    (headerError s.mem (imageBase (s.part.get F.SYS_BOOT_SRC 0)) = some e → Completes .imageLoadStart s (fun t =>
      t.part.get F.SYS_BOOT_ERR 0 = e ∧ t.part.sys.loading = false ∧ t.part.bit F.SYS_HIRQ_HIRQ 0 0 = true ∧ SameMemory s t ∧
      (s.part.get F.SYS_BOOT_STRAP 0 < 2 → t.part.get F.SYS_BOOT_STATE 0 = 5) ∧
      (2 ≤ s.part.get F.SYS_BOOT_STRAP 0 → t.part.sys.stopped = true ∧ (t.part.core 0).st = .wait))) ∧
    (headerError s.mem (imageBase (s.part.get F.SYS_BOOT_SRC 0)) = none → Completes .imageLoadStart s (fun t =>
      t.part.sys.loading = true ∧ t.part.get F.SYS_BOOT_ERR 0 = 0 ∧ t.part.get F.SYS_BOOT_STATE 0 = 1 ∧ SameMemory s t))) ∧
  (s.part.sys.loading = false → Completes .imageLoadEnd s (fun t => t = s)) ∧
  (s.part.sys.loading = true →
    let src := s.part.get F.SYS_BOOT_SRC 0
    let base := imageBase src
    let bad := decide (src = 0) && s.part.nvmBad base (headWord s.mem base 8)
    ((bad = true ∨ imageCrcOk s.mem base = false) → Completes .imageLoadEnd s (fun t => t.part.get F.SYS_BOOT_ERR 0 = 3 ∧
      t.part.sys.loading = false)) ∧
    (bad = false → imageCrcOk s.mem base = true → imageAuthOk s.mem base = false → Completes .imageLoadEnd s (fun t =>
      t.part.get F.SYS_BOOT_ERR 0 = 4 ∧ t.part.sys.loading = false)) ∧
    (bad = false → imageCrcOk s.mem base = true → imageAuthOk s.mem base = true → sections s.mem base = [x] → x.stored = true →
      (s.part.get F.SYS_CSTART_ADDR 0 = 0 → Completes .imageLoadEnd s (fun t => t.part.get F.SYS_BOOT_ERR 0 = 6 ∧
        t.part.sys.loading = false)) ∧
      (s.part.get F.SYS_CSTART_ADDR 0 ≠ 0 → Completes .imageLoadEnd s (fun t => t.part.get F.SYS_BOOT_STATE 0 = 4 ∧
        t.part.get F.SYS_BOOTVER_VERSION 0 = headWord s.mem base 0x10 ∧ t.part.tb.boot = false ∧
        (∀ j, j < x.len → Mem.byte t.mem (x.dest + j) = Mem.byte s.mem (base + x.offset + j)) ∧ SameOutside s t x.dest x.len)))) ∧
  (s.part.get F.SYS_BOOT_STATE 0 ≠ 5 → Completes (.bootgo i v) s (fun t => Refuses s t F.SYS_STAT_REFUSED i R.SYS_BOOTGO.base v)) ∧
  (s.part.get F.SYS_BOOT_STATE 0 = 5 → Completes (.bootgo i v) s (fun t => t.part.get F.SYS_BOOT_STATE 0 = 1 ∧
    t.part.get F.SYS_BOOT_SRC 0 = 1 ∧ t.part.sys.imageLen = fieldOf v F.SYS_BOOTGO_LEN ∧ SameWords s t [R.SYS_BOOT.base] ∧ SameMemory s t)) ∧
  (s.part.get F.SYS_BOOT_STATE 0 = 5 →
    (PmbTakes s 0xEC 0 op 0 → Completes (.imageStart op) s (fun t => t.part.sys.offset = 0 ∧ SameWords s t [] ∧ SameMemory s t)) ∧
    (s.part.pmbUp = true → op.read = false → s.part.is F.PMB_CTRL_PECREQ 0 = false → s.part.protects 0xED = false →
      op.data.length = n + 1 → (op.data.headD 0).toNat = n → 1 ≤ n → n ≤ 32 → s.part.sys.offset + n ≤ 0xC0000 →
      Completes (.imageData op) s (fun t => t.part.sys.offset = s.part.sys.offset + n ∧
        (∀ j, j < n → Mem.byte t.mem (0x13040000 + s.part.sys.offset + j) = op.data.getD (j + 1) 0) ∧
        SameOutside s t (0x13040000 + s.part.sys.offset) n ∧ SameWords s t [])) ∧
    (PmbTakes s 0xEE 0 op 0 → Completes (.imageEnd op) s (fun t => t.part.get F.SYS_BOOT_STATE 0 = 1 ∧ t.part.get F.SYS_BOOT_SRC 0 = 2 ∧
      t.part.sys.imageLen = s.part.sys.offset ∧ SameWords s t [R.SYS_BOOT.base] ∧ SameMemory s t)) ∧
    (PmbAsks s 5 op → Completes (.imageStatus op) s (fun t => Answered s t 0xEF (4 :: lowBytes (s.part.word R.SYS_BOOT.base).toNat 4) ∧
      SameWords s t [] ∧ SameMemory s t))) ∧
  ((5 < fieldOf v F.SYS_TEST_REG ∨ fieldOf v F.SYS_TEST_TEST = 0 ∨ fieldOf v F.SYS_TEST_TEST = 3 ∨
      s.part.sys.testing = none ∧ s.part.testAllowed = false) →
    Completes (.selfTest i v) s (fun t => Refuses s t F.SYS_STAT_REFUSED i R.SYS_TEST.base (v ||| 0x80000000))) ∧
  (fieldOf v F.SYS_TEST_REG ≤ 5 → s.part.sys.testing = none → s.part.testAllowed = true →
    (fieldOf v F.SYS_TEST_TEST = 2 → Completes (.selfTest i v) s (fun t => t.part.sys.testing = some (2, fieldOf v F.SYS_TEST_REG) ∧
      t.part.is F.SYS_TEST_GO 0 = true ∧ SameWords s t [R.SYS_TEST.base, R.SYS_PROG_TEST.base] ∧ SameMemory s t)) ∧
    (fieldOf v F.SYS_TEST_TEST = 1 → Completes (.selfTest i v) s (fun t =>
      let y := testRegion (fieldOf v F.SYS_TEST_REG)
      t.part.sys.testing = some (1, fieldOf v F.SYS_TEST_REG) ∧ t.part.is F.SYS_TEST_GO 0 = true ∧
      (∀ j, j < y.2 → Mem.byte t.mem (y.1 + j) = Config.testedByte s.part.free j) ∧ SameOutside s t y.1 y.2))) ∧
  (s.part.sys.testing = none → Completes (.selfTestDone fails) s (fun t => t = s)) ∧
  (s.part.sys.testing = some (t0, g) →
    let bad := fails.filter (fun k => decide (k < s.part.testSteps t0 g))
    let y := testRegion g
    Completes (.selfTestDone fails) s (fun t => t.part.sys.testing = none ∧ t.part.is F.SYS_TEST_GO 0 = false ∧
      (bad = [] → t.part.get F.SYS_TEST_RESULT 0 = 1 ∧ t.part.get F.SYS_PROG_TEST_PCT 0 = 10000) ∧
      (bad ≠ [] → t.part.get F.SYS_TEST_RESULT 0 = 2 ∧ t.part.word R.SYS_PROG_TEST.base = s.part.word R.SYS_PROG_TEST.base ∧
        ∃ k ∈ bad, (∀ j ∈ bad, k ≤ j) ∧ t.part.get F.SYS_TEST_FSTEP 0 = k % 2 ^ 16) ∧
      (t0 ≠ 1 → SameMemory s t) ∧ (t0 = 1 → SameOutside s t y.1 y.2))) ∧
  (s.part.sys.testing = some (2, g) → Completes (.selfTestDone []) s (fun t => t.part.sys.testing = none ∧ t.part.is F.SYS_TEST_GO 0 = false ∧
    t.part.get F.SYS_TEST_RESULT 0 = 1 ∧ SameMemory s t)) ∧
  (s.part.sys.testing = some (2, g) → e < s.part.lanesIn.length → Completes (.selfTestDone [e]) s (fun t => t.part.sys.testing = none ∧
    t.part.get F.SYS_TEST_RESULT 0 = 2 ∧ t.part.get F.SYS_TEST_FSTEP 0 = e % 2 ^ 16 ∧ SameMemory s t))

/-! ## Host SPI, the debug port, the TAP, GPIO (R468 to R479) -/

/-- R468, R469: a frame sends the status byte first; a STATUS frame clears the flags; a write frame stores its bytes from the address on, a read
frame sends those there, and 0xFF from the first that is not ready in time, an access that ends in a bus error sets ERR; during recall the part ignores every command. The quad
commands do the same. -/
def Obligations.HostSpiFrames : Prop := ∀ (a : Word) (data : List Byte) (n j : Nat) (late : Option Nat) (s : State), s.part.sys.standby = false →
  Completes .hspStatus s (fun t => t.part.hsp.status = s.part.hspStatus ∧ SameWords s t [] ∧ SameMemory s t ∧
    (s.part.recalling = false → t.part.hsp.err = false ∧ t.part.hsp.under = false)) ∧
  (s.part.recalling = true → ∀ c ∈ [Instr.hspWrite a data, .hspRead a n late, .hspQuadWrite a data, .hspQuadRead a n late],
    Completes c s (fun t => t.part.hsp.status = s.part.hspStatus ∧ SameWords s t [] ∧ SameMemory s t)) ∧
  (s.part.recalling = false →
    ((∀ k, k < data.length → PlainWrite s (a.toNat + k) 1 ∧ PlainWrite s (a.toNat + k) 4) →
      ∀ c ∈ [Instr.hspWrite a data, .hspQuadWrite a data], Completes c s (fun t => t.part.hsp.status = s.part.hspStatus ∧
        (∀ k, k < data.length → Mem.byte t.mem (a.toNat + k) = data.getD k 0) ∧ SameOutside s t a.toNat data.length ∧
        t.part.hsp.err = false ∧ SameWords s t [])) ∧
    ((∀ k, k < n → PlainRead s (a.toNat + k)) →
      (∀ c ∈ [Instr.hspRead a n none, .hspQuadRead a n none], Completes c s (fun t => t.part.hsp.status = s.part.hspStatus ∧
        t.part.hsp.sent = lowBytes (Mem.read s.mem a.toNat n) n ∧ t.part.hsp.err = false ∧ t.part.hsp.under = false ∧
        SameWords s t [] ∧ SameMemory s t)) ∧
      (a.toNat % 4 = 0 → 4 * j < n → ∀ c ∈ [Instr.hspRead a n (some j), .hspQuadRead a n (some j)], Completes c s (fun t =>
        t.part.hsp.status = s.part.hspStatus ∧ t.part.hsp.sent = lowBytes (Mem.read s.mem a.toNat (4 * j)) (4 * j) ++
          List.replicate (n - 4 * j) 0xFF ∧ t.part.hsp.under = true ∧ t.part.is F.HSP_STAT_UNDER 0 = true ∧
        SameWords s t [R.HSP_STAT.base] ∧ SameMemory s t)))) ∧
  (s.part.recalling = false → a.toNat % 4 = 0 →
    (data.length = 4 → PlainWrite s a.toNat 4 → ∀ c ∈ [Instr.hspWrite a data, .hspQuadWrite a data],
      Completes c s (fun t => t.part.hsp.status = s.part.hspStatus ∧ Stored s t a.toNat 4 (fromBytes data) ∧ t.part.hsp.err = false)) ∧
    (PlainRead s a.toNat → ∀ c ∈ [Instr.hspRead a 4 none, .hspQuadRead a 4 none],
      Completes c s (fun t => t.part.hsp.status = s.part.hspStatus ∧ t.part.hsp.sent = lowBytes (Mem.read s.mem a.toNat 4) 4 ∧
        t.part.hsp.err = false ∧ SameWords s t [] ∧ SameMemory s t)) ∧
    (regionOf a.toNat = .nowhere → data.length = 4 →
      ∀ c ∈ [Instr.hspWrite a data, .hspRead a 4 none, .hspQuadWrite a data, .hspQuadRead a 4 none],
        Completes c s (fun t => t.part.hsp.err = true ∧ t.part.is F.HSP_STAT_ERR 0 = true ∧ SameWords s t [R.HSP_STAT.base] ∧ SameMemory s t)))

/-- R473 to R479: STATUS and the line reset answer OK whatever DIS is; every other request answers REFUSED while DIS is 1 and for the
targets that do not exist. A memory request that ends in a bus error answers FAULT and sets BERR; REGRD, REGWR and STEP need a core in
HALT; HALT takes a core or Basalt, RESUME lets it go on, RESET resets. A breakpoint halts the core that reaches it. The TAP holds the
instruction loaded last, IDCODE after its reset. -/
def Obligations.DebugRequests : Prop := ∀ (t' : Fin 8) (c : Fin 4) (a v w : Word) (s : State),
  Completes .lineReset s (fun t => DebugReplied s t 0 none) ∧
  Completes .ydpStatus s (fun t => DebugReplied s t 0 (some s.part.ydpStatWord)) ∧
  Completes .ydpCrcError s (fun t => DebugReplied s t 0xC none) ∧
  ((s.part.is F.YDP_CTRL_DIS 0 = true ∨ 4 < t'.val) →
    ∀ x ∈ [Instr.regrd t' a, .regwr t' a v, .ydpHalt t', .ydpResume t', .ydpStep t', .ydpReset t' a],
      Completes x s (fun t => DebugReplied s t 5 none)) ∧
  (s.part.is F.YDP_CTRL_DIS 0 = true → Completes (.memrd a) s (fun t => DebugReplied s t 5 none) ∧
    Completes (.memwr a v) s (fun t => DebugReplied s t 5 none)) ∧
  (s.part.is F.YDP_CTRL_DIS 0 = false →
    (PlainRead s a.toNat → a.toNat % 4 = 0 → Completes (.memrd a) s (fun t => DebugReplied s t 0 (some (Mem.word s.mem a.toNat)))) ∧
    (PlainWrite s a.toNat 4 → a.toNat % 4 = 0 → Completes (.memwr a v) s (fun t => t.part.ydp.status = 0 ∧
      Stored s t a.toNat 4 v.toNat ∧ SameWords s t [])) ∧
    ((regionOf a.toNat = .nowhere ∨ a.toNat % 4 ≠ 0) →
      Completes (.memrd a) s (fun t => t.part.ydp.status = 0xA ∧ t.part.is F.YDP_STAT_BERR 0 = true ∧ SameWords s t [R.YDP_STAT.base] ∧
        SameMemory s t) ∧
      Completes (.memwr a v) s (fun t => t.part.ydp.status = 0xA ∧ t.part.is F.YDP_STAT_BERR 0 = true ∧ SameWords s t [R.YDP_STAT.base] ∧
        SameMemory s t)) ∧
    (4 ≤ t'.val ∨ (s.part.core t').st ≠ .halt → ∀ x ∈ [Instr.regrd t' a, .regwr t' a v, .ydpStep t'],
      Completes x s (fun t => DebugReplied s t 5 none)) ∧
    (t'.val = c → (s.part.core c).st = .halt →
      (s.part.debugReg c a = some w → Completes (.regrd t' a) s (fun t => DebugReplied s t 0 (some w))) ∧
      (s.part.debugReg c a = none → Completes (.regrd t' a) s (fun t => DebugReplied s t 5 none)) ∧
      (∀ r : Fin 32, 1 ≤ r.val → a = BitVec.ofNat 32 r → Completes (.regwr t' a v) s (fun t => (t.part.core c).reg r = v ∧
        (∀ q : Fin 32, q ≠ r → (t.part.core c).reg q = (s.part.core c).reg q) ∧ DebugReplied s t 0 none)) ∧
      Completes (.ydpStep t') s (fun t => (t.part.core c).st = .run ∧ (t.part.core c).stepping = true ∧
        (t.part.core c).pc = (s.part.core c).pc ∧ DebugReplied s t 0 none) ∧
      Completes (.ydpResume t') s (fun t => (t.part.core c).st = .run ∧ (t.part.core c).pc = (s.part.core c).pc ∧ DebugReplied s t 0 none)) ∧
    (t'.val = c → (s.part.core c).st ≠ .halt → Completes (.ydpResume t') s (fun t => (t.part.core c) = (s.part.core c) ∧
      DebugReplied s t 0 none)) ∧
    (t'.val = c → (s.part.core c).st = .off → Completes (.ydpHalt t') s (fun t => DebugReplied s t 5 none)) ∧
    (t'.val = c → (s.part.core c).st ≠ .off → Completes (.ydpHalt t') s (fun t => (t.part.core c).st = .halt ∧
      (t.part.core c).pc = (s.part.core c).pc ∧ DebugReplied s t 0 none)) ∧
    (t'.val = 4 → Completes (.ydpHalt t') s (fun t => t.part.tb.dbgHalt = true ∧ t.part.ydp.status = 0 ∧ SameMemory s t) ∧
      Completes (.ydpResume t') s (fun t => t.part.tb.dbgHalt = false ∧ t.part.ydp.status = 0 ∧ SameMemory s t)) ∧
    (t'.val = c → a = 1 → Completes (.ydpReset t' a) s (fun t => t.part.bit F.SYS_RSTCAUSE_CAUSE 0 (12 + c) = true ∧
      (t.part.core c).g = [] ∧ (t.part.core c).ps = 1 ∧ t.part.ydp.status = 0 ∧ SameMemory s t)) ∧
    (t'.val = c → 1 < a.toNat → Completes (.ydpReset t' a) s (fun t => DebugReplied s t 5 none))) ∧
  ((s.part.core c).st ≠ .run → Completes (.ydpBreakpoint c) s (fun t => t = s)) ∧
  ((s.part.core c).st = .run → s.part.storeErrorDue c = false → s.part.interruptDue c = none → (s.part.core c).skipBp = false →
    s.part.breakpointAt c (s.part.core c).pc = true → Completes (.ydpBreakpoint c) s (fun t => (t.part.core c).st = .halt ∧
      t.part.bit F.YDP_STAT_BPHIT 0 c = true ∧ (t.part.core c).pc = (s.part.core c).pc ∧ SameWords s t [R.YDP_STAT.base] ∧ SameMemory s t)) ∧
  (∀ x ∈ [(Instr.tapExtest, 0), (.tapSamplePreload, 1), (.tapIdcode, 2), (.tapClamp, 3), (.tapHighz, 4), (.tapBypass, 15), (.tapReset, 2)],
    Completes x.1 s (fun t => t.part.tap.ir = x.2 ∧ (t.part.idcode = some 0x09063B47 ↔ x.2 = 2) ∧ SameWords s t [] ∧ SameMemory s t))

/-- R470, R471: a filtered level that changes is seen in GPIO_IN, and sets the pin's flag where EDGE selects that edge. A
pulse-density window gives each pin its share of high samples in units of 1/65,536, saturating, and VALID. -/
def Obligations.GpioPins : Prop := ∀ (n : Fin 16) (level : Bool) (samples : Nat) (high : List Nat) (s : State),
  (s.part.bit F.GPIO_IN_IN 0 n = level → Completes (.gpioEdge n level) s (fun t => t = s)) ∧
  (s.part.bit F.GPIO_IN_IN 0 n ≠ level →
    (edgeSelected (s.part.get F.GPIO_CFG_EDGE n) level = false → Completes (.gpioEdge n level) s (fun t =>
      t.part.bit F.GPIO_IN_IN 0 n = level ∧ SameWords s t [R.GPIO_IN.base] ∧ SameMemory s t)) ∧
    (edgeSelected (s.part.get F.GPIO_CFG_EDGE n) level = true → Completes (.gpioEdge n level) s (fun t =>
      t.part.bit F.GPIO_IN_IN 0 n = level ∧ t.part.bit F.GPIO_FLAG_FLAG 0 n = true ∧ SameMemory s t ∧
      (s.part.is F.GPIO_CFG_IE n = false → SameWords s t [R.GPIO_IN.base, R.GPIO_FLAG.base]) ∧
      (s.part.is F.GPIO_CFG_IE n = true → t.part.sys.standby = false)))) ∧
  (samples ≠ 0 → Completes (.pulseDensityWindow samples high) s (fun t =>
    t.part.get F.GPIO_PD_PD n = min 0xFFFF (65536 * high.getD n 0 / samples) ∧ t.part.is F.GPIO_PD_VALID n = true ∧
    SameWords s t ((List.range 16).map (fun k => R.GPIO_PD.addr k)) ∧ SameMemory s t))
end

