-- ==== Sys2Proof/Laws/Store.lean ====
section
/-! SUPPORT. Laws of sparse stores: reading after writing, and that every write keeps the canonical form. -/
namespace Sys2Proof.Machine

variable {α : Type}

theorem Store.find_insert_same (m : Store α) (k : Nat) (v : α) : (m.insert k v).find k = some v := by
  induction m with
  | nil => simp [Store.insert, Store.find]
  | cons p t ih =>
    obtain ⟨k', v'⟩ := p
    simp only [Store.insert]
    split
    · simp [Store.find]
    · split
      · simp [Store.find]
      · rename_i h _
        simp [Store.find, h, ih]

theorem Store.find_insert_other (m : Store α) {k j : Nat} (h : j ≠ k) (v : α) :
    (m.insert k v).find j = m.find j := by
  induction m with
  | nil => simp [Store.insert, Store.find, Ne.symm h]
  | cons p t ih =>
    obtain ⟨k', v'⟩ := p
    simp only [Store.insert]
    split
    · rename_i e
      subst e
      simp [Store.find, Ne.symm h]
    · split
      · simp [Store.find, Ne.symm h]
      · simp [Store.find, ih]

theorem Store.find_erase_same (m : Store α) (k : Nat) : (m.erase k).find k = none := by
  induction m with
  | nil => rfl
  | cons p t ih =>
    obtain ⟨k', v'⟩ := p
    simp only [Store.erase]
    split
    · exact ih
    · rename_i h
      simp [Store.find, h, ih]

theorem Store.find_erase_other (m : Store α) {k j : Nat} (h : j ≠ k) : (m.erase k).find j = m.find j := by
  induction m with
  | nil => rfl
  | cons p t ih =>
    obtain ⟨k', v'⟩ := p
    simp only [Store.erase]
    split
    · rename_i e
      subst e
      simp [Store.find, Ne.symm h, ih]
    · simp [Store.find, ih]

section
variable [DecidableEq α]

/-- Reading the key just written gives the value written. -/
@[simp] theorem Store.get_set_same (d : α) (m : Store α) (k : Nat) (v : α) : (m.set d k v).get d k = v := by
  unfold Store.set Store.get
  split
  · rename_i h
    simp [Store.find_erase_same, h]
  · simp [Store.find_insert_same]

/-- Reading another key gives what it gave before, whatever default the write used. -/
theorem Store.get_set_other (d e : α) (m : Store α) {k j : Nat} (h : j ≠ k) (v : α) :
    (m.set d k v).get e j = m.get e j := by
  unfold Store.set Store.get
  split
  · rw [Store.find_erase_other m h]
  · rw [Store.find_insert_other m h]

end

/-- Every key of a list is above `k`. -/
def Store.above (k : Nat) (m : Store α) : Prop := ∀ p ∈ m, k < p.1

theorem Store.sorted_cons (k : Nat) (v : α) (t : Store α) :
    Store.sorted ((k, v) :: t) = true ↔ Store.above k t ∧ Store.sorted t = true := by
  induction t generalizing k v with
  | nil => simp [Store.sorted, Store.above]
  | cons p t ih =>
    obtain ⟨k', v'⟩ := p
    simp only [Store.sorted, Bool.and_eq_true, decide_eq_true_eq]
    constructor
    · rintro ⟨h, hs⟩
      refine ⟨?_, hs⟩
      have ha := ((ih k' v').1 hs).1
      intro p hp
      rcases List.mem_cons.1 hp with rfl | hp
      · exact h
      · exact Nat.lt_trans h (ha p hp)
    · rintro ⟨h, hs⟩
      exact ⟨h _ (List.mem_cons_self ..), hs⟩

theorem Store.above_erase {k j : Nat} {m : Store α} (h : Store.above k m) : Store.above k (m.erase j) := by
  induction m with
  | nil => exact h
  | cons p t ih =>
    obtain ⟨k', v'⟩ := p
    have ht : Store.above k t := fun q hq => h q (List.mem_cons_of_mem _ hq)
    simp only [Store.erase]
    split
    · exact ih ht
    · intro q hq
      rcases List.mem_cons.1 hq with rfl | hq
      · exact h _ (List.mem_cons_self ..)
      · exact ih ht q hq

theorem Store.above_insert {k j : Nat} {m : Store α} (h : Store.above k m) (hj : k < j) (v : α) :
    Store.above k (m.insert j v) := by
  induction m with
  | nil =>
    intro q hq
    simp only [Store.insert, List.mem_singleton] at hq
    subst hq
    exact hj
  | cons p t ih =>
    obtain ⟨k', v'⟩ := p
    have ht : Store.above k t := fun q hq => h q (List.mem_cons_of_mem _ hq)
    have hk : k < k' := h _ (List.mem_cons_self ..)
    simp only [Store.insert]
    split
    · intro q hq
      rcases List.mem_cons.1 hq with rfl | hq
      · exact hj
      · exact ht q hq
    · split
      · intro q hq
        rcases List.mem_cons.1 hq with rfl | hq
        · exact hj
        · exact h q hq
      · intro q hq
        rcases List.mem_cons.1 hq with rfl | hq
        · exact hk
        · exact ih ht q hq

theorem Store.sorted_erase {m : Store α} (h : m.sorted = true) (k : Nat) : (m.erase k).sorted = true := by
  induction m with
  | nil => rfl
  | cons p t ih =>
    obtain ⟨k', v'⟩ := p
    obtain ⟨ha, hs⟩ := (Store.sorted_cons k' v' t).1 h
    simp only [Store.erase]
    split
    · exact ih hs
    · exact (Store.sorted_cons ..).2 ⟨Store.above_erase ha, ih hs⟩

theorem Store.sorted_insert {m : Store α} (h : m.sorted = true) (k : Nat) (v : α) : (m.insert k v).sorted = true := by
  induction m with
  | nil => rfl
  | cons p t ih =>
    obtain ⟨k', v'⟩ := p
    obtain ⟨ha, hs⟩ := (Store.sorted_cons k' v' t).1 h
    simp only [Store.insert]
    split
    · rename_i e
      subst e
      exact (Store.sorted_cons ..).2 ⟨ha, hs⟩
    · split
      · rename_i hlt
        refine (Store.sorted_cons ..).2 ⟨?_, h⟩
        intro q hq
        rcases List.mem_cons.1 hq with rfl | hq
        · exact hlt
        · exact Nat.lt_trans hlt (ha q hq)
      · rename_i hne hlt
        refine (Store.sorted_cons ..).2 ⟨Store.above_insert ha ?_ v, ih hs⟩
        omega

section
variable [DecidableEq α]

theorem Store.lean_erase {d : Nat → α} {m : Store α} (h : m.lean d = true) (k : Nat) : (m.erase k).lean d = true := by
  induction m with
  | nil => rfl
  | cons p t ih =>
    obtain ⟨k', v'⟩ := p
    simp only [Store.lean, Bool.and_eq_true] at h
    simp only [Store.erase]
    split
    · exact ih h.2
    · simp only [Store.lean, Bool.and_eq_true]
      exact ⟨h.1, ih h.2⟩

theorem Store.lean_insert {d : Nat → α} {m : Store α} (h : m.lean d = true) {k : Nat} {v : α} (hv : v ≠ d k) :
    (m.insert k v).lean d = true := by
  induction m with
  | nil => simp [Store.insert, Store.lean, hv]
  | cons p t ih =>
    obtain ⟨k', v'⟩ := p
    simp only [Store.lean, Bool.and_eq_true] at h
    simp only [Store.insert]
    split
    · simp only [Store.lean, Bool.and_eq_true]
      exact ⟨by simp [hv], h.2⟩
    · split
      · simp only [Store.lean, Bool.and_eq_true]
        exact ⟨by simp [hv], h.1, h.2⟩
      · simp only [Store.lean, Bool.and_eq_true]
        exact ⟨h.1, ih h.2⟩

/-- A write keeps the canonical form. -/
theorem Store.wf_set {d : Nat → α} {m : Store α} (h : m.wf d = true) (k : Nat) (v : α) :
    Store.wf d (m.set (d k) k v) = true := by
  simp only [Store.wf, Bool.and_eq_true] at *
  unfold Store.set
  split
  · exact ⟨Store.sorted_erase h.1 k, Store.lean_erase h.2 k⟩
  · rename_i hv
    exact ⟨Store.sorted_insert h.1 k v, Store.lean_insert h.2 hv⟩

end

end Sys2Proof.Machine
end

