-- ==== Sys2Proof/Laws/Bank.lean ====
section
/-! SUPPORT. Laws of the register bank: reading a register or a field after a write of the same one or of another. -/
namespace Sys2Proof.Machine

@[simp] theorem Part.word_setWord_same (m : Part) (a : Nat) (w : Word) : (m.setWord a w).word a = w := Store.get_set_same ..

theorem Part.word_setWord_other (m : Part) {a b : Nat} (h : b ≠ a) (w : Word) : (m.setWord a w).word b = m.word b :=
  Store.get_set_other _ _ _ h _

theorem Part.word_put_other (m : Part) (f : FieldAt) (i v : Nat) {a : Nat} (h : a ≠ f.reg.addr i) :
    (m.put f i v).word a = m.word a := Part.word_setWord_other _ h _

theorem bitsOf_lt (w : Word) (lo width : Nat) : bitsOf w lo width < 2 ^ width := Nat.mod_lt _ (Nat.two_pow_pos _)

/-- The value of a word with a field replaced, as a number. -/
theorem withBits_toNat (w : Word) {lo width : Nat} (v : Nat) (h : lo + width ≤ 32) :
    (withBits w lo width v).toNat = w.toNat - bitsOf w lo width * 2 ^ lo + v % 2 ^ width * 2 ^ lo := by
  have hw := w.isLt
  have hb : bitsOf w lo width * 2 ^ lo ≤ w.toNat := by
    have h1 : bitsOf w lo width ≤ w.toNat / 2 ^ lo := Nat.mod_le _ _
    exact Nat.le_trans (Nat.mul_le_mul_right _ h1) (Nat.div_mul_le_self _ _)
  unfold withBits
  rw [BitVec.toNat_ofNat, Nat.mod_eq_of_lt]
  have hq := Nat.div_add_mod w.toNat (2 ^ lo)
  have hq2 := Nat.div_add_mod (w.toNat / 2 ^ lo) (2 ^ width)
  have hm : w.toNat % 2 ^ lo < 2 ^ lo := Nat.mod_lt _ (Nat.two_pow_pos _)
  have hv : v % 2 ^ width < 2 ^ width := Nat.mod_lt _ (Nat.two_pow_pos _)
  have hhi : w.toNat / 2 ^ lo / 2 ^ width < 2 ^ (32 - lo - width) := by
    rw [Nat.div_div_eq_div_mul, ← Nat.pow_add]
    apply Nat.div_lt_of_lt_mul
    rw [← Nat.pow_add]
    have : lo + width + (32 - lo - width) = 32 := by omega
    rw [this]
    exact hw
  have h32 : (2 : Nat) ^ 32 = 2 ^ lo * (2 ^ width * 2 ^ (32 - lo - width)) := by
    rw [← Nat.pow_add, ← Nat.pow_add]; congr 1; omega
  generalize hP : (2 : Nat) ^ lo = P at *
  generalize hW : (2 : Nat) ^ width = W at *
  generalize hH : (2 : Nat) ^ (32 - lo - width) = H at *
  unfold bitsOf at *
  rw [hP, hW] at *
  set q := w.toNat / P
  set r := w.toNat % P
  set hi := q / W
  have e : w.toNat - q % W * P = P * (W * hi) + r := by
    have h1 : P * q = P * (W * hi) + q % W * P := by
      conv_lhs => rw [← hq2]
      rw [Nat.mul_add, Nat.mul_comm P (q % W)]
    omega
  rw [e, h32]
  have h1 : W * hi + v % W < W * H := by
    have : W * hi + v % W < W * (hi + 1) := by rw [Nat.mul_add, Nat.mul_one]; omega
    exact Nat.lt_of_lt_of_le this (Nat.mul_le_mul_left _ hhi)
  have h2 : P * (W * hi) + r + v % W * P < P * (W * hi + v % W + 1) := by
    rw [Nat.mul_add, Nat.mul_add, Nat.mul_one, Nat.mul_comm P (v % W)]; omega
  exact Nat.lt_of_lt_of_le h2 (Nat.mul_le_mul_left _ h1)

theorem bitsOf_testBit (w : Word) (lo width j : Nat) :
    (bitsOf w lo width).testBit j = (decide (j < width) && w.toNat.testBit (lo + j)) := by
  unfold bitsOf
  rw [Nat.testBit_mod_two_pow, Nat.testBit_div_two_pow, Nat.add_comm]

/-- The bits of a word with one field replaced. -/
theorem withBits_testBit (w : Word) {lo width : Nat} (v j : Nat) (h : lo + width ≤ 32) :
    (withBits w lo width v).toNat.testBit j =
      if lo ≤ j ∧ j < lo + width then v.testBit (j - lo) else w.toNat.testBit j := by
  rw [withBits_toNat w v h]
  have hq := Nat.div_add_mod w.toNat (2 ^ lo)
  have hq2 := Nat.div_add_mod (w.toNat / 2 ^ lo) (2 ^ width)
  have hm : w.toNat % 2 ^ lo < 2 ^ lo := Nat.mod_lt _ (Nat.two_pow_pos _)
  have hv : v % 2 ^ width < 2 ^ width := Nat.mod_lt _ (Nat.two_pow_pos _)
  have hy : w.toNat / 2 ^ lo % 2 ^ width < 2 ^ width := Nat.mod_lt _ (Nat.two_pow_pos _)
  have h1 : 2 ^ lo * (w.toNat / 2 ^ lo) = 2 ^ lo * (2 ^ width * (w.toNat / 2 ^ lo / 2 ^ width)) +
      w.toNat / 2 ^ lo % 2 ^ width * 2 ^ lo := by
    conv_lhs => rw [← hq2]
    rw [Nat.mul_add, Nat.mul_comm (2 ^ lo) (w.toNat / 2 ^ lo % 2 ^ width)]
  have e : w.toNat - bitsOf w lo width * 2 ^ lo + v % 2 ^ width * 2 ^ lo =
      2 ^ lo * (2 ^ width * (w.toNat / 2 ^ lo / 2 ^ width) + v % 2 ^ width) + w.toNat % 2 ^ lo := by
    unfold bitsOf
    rw [Nat.mul_add (2 ^ lo), Nat.mul_comm (2 ^ lo) (v % 2 ^ width)]; omega
  have e2 : w.toNat = 2 ^ lo * (2 ^ width * (w.toNat / 2 ^ lo / 2 ^ width) + w.toNat / 2 ^ lo % 2 ^ width) +
      w.toNat % 2 ^ lo := by
    rw [hq2, hq]
  rw [e, Nat.testBit_two_pow_mul_add _ hm, Nat.testBit_two_pow_mul_add _ hv]
  conv_rhs => rw [e2, Nat.testBit_two_pow_mul_add _ hm, Nat.testBit_two_pow_mul_add _ hy]
  rw [Nat.testBit_mod_two_pow]
  by_cases c1 : j < lo
  · have : ¬(lo ≤ j ∧ j < lo + width) := by omega
    simp [c1, this]
  · by_cases c2 : j - lo < width
    · have : lo ≤ j ∧ j < lo + width := by omega
      simp [c1, c2, this]
    · have : ¬(lo ≤ j ∧ j < lo + width) := by omega
      simp [c1, c2, this]

/-- The field replaced holds the new value. -/
theorem bitsOf_withBits_same (w : Word) {lo width : Nat} (v : Nat) (h : lo + width ≤ 32) :
    bitsOf (withBits w lo width v) lo width = v % 2 ^ width := by
  apply Nat.eq_of_testBit_eq
  intro j
  rw [bitsOf_testBit, withBits_testBit w v _ h, Nat.testBit_mod_two_pow]
  by_cases c : j < width
  · simp [c]
  · simp [c]

/-- A field that shares no bit with the one replaced keeps its value. -/
theorem bitsOf_withBits_other (w : Word) {lo width lo' width' : Nat} (v : Nat) (h : lo + width ≤ 32)
    (d : lo + width ≤ lo' ∨ lo' + width' ≤ lo) : bitsOf (withBits w lo width v) lo' width' = bitsOf w lo' width' := by
  apply Nat.eq_of_testBit_eq
  intro j
  rw [bitsOf_testBit, withBits_testBit w v _ h, bitsOf_testBit]
  by_cases c : j < width'
  · have : ¬(lo ≤ lo' + j ∧ lo' + j < lo + width) := by omega
    simp [this]
  · simp [c]

/-- A field just written reads as the value written, modulo its range. -/
theorem Part.get_put_same (m : Part) (f : FieldAt) (i v : Nat) (h : f.lo + f.width ≤ 32) :
    (m.put f i v).get f i = v % 2 ^ f.width := by
  unfold Part.put Part.get
  rw [Part.word_setWord_same, bitsOf_withBits_same _ _ h]

/-- A field of another register keeps its value. -/
theorem Part.get_put_other (m : Part) (f g : FieldAt) (i j v : Nat) (h : g.reg.addr j ≠ f.reg.addr i) :
    (m.put f i v).get g j = m.get g j := by
  unfold Part.get
  rw [Part.word_put_other _ _ _ _ h]

/-- Another field of the same register keeps its value. -/
theorem Part.get_put_disjoint (m : Part) (f g : FieldAt) (i j v : Nat) (h : f.lo + f.width ≤ 32)
    (d : f.lo + f.width ≤ g.lo ∨ g.lo + g.width ≤ f.lo) : (m.put f i v).get g j = m.get g j := by
  by_cases e : g.reg.addr j = f.reg.addr i
  · unfold Part.put Part.get
    rw [e, Part.word_setWord_same, bitsOf_withBits_other _ _ h d]
  · exact Part.get_put_other m f g i j v e

end Sys2Proof.Machine
end

