-- ==== Sys2Proof/Laws/State.lean ====
section
/-! SUPPORT. One lemma per field of the part for each update of Machine/Ops.lean, and reading a per-instance table after an
update of it. -/
namespace Sys2Proof.Machine

/-! ## A register written -/

@[simp] theorem Part.tb_setWord (m : Part) (a : Nat) (w : Word) : (m.setWord a w).tb = m.tb := rfl
@[simp] theorem Part.free_setWord (m : Part) (a : Nat) (w : Word) : (m.setWord a w).free = m.free := rfl
@[simp] theorem Part.bus_setWord (m : Part) (a : Nat) (w : Word) : (m.setWord a w).bus = m.bus := rfl
@[simp] theorem Part.holding_setWord (m : Part) (a : Nat) (w : Word) : (m.setWord a w).holding = m.holding := rfl
@[simp] theorem Part.grn_setWord (m : Part) (a : Nat) (w : Word) : (m.setWord a w).grn = m.grn := rfl
@[simp] theorem Part.flt_setWord (m : Part) (a : Nat) (w : Word) : (m.setWord a w).flt = m.flt := rfl
@[simp] theorem Part.pwm_setWord (m : Part) (a : Nat) (w : Word) : (m.setWord a w).pwm = m.pwm := rfl
@[simp] theorem Part.sync_setWord (m : Part) (a : Nat) (w : Word) : (m.setWord a w).sync = m.sync := rfl
@[simp] theorem Part.trips_setWord (m : Part) (a : Nat) (w : Word) : (m.setWord a w).trips = m.trips := rfl
@[simp] theorem Part.pool_setWord (m : Part) (a : Nat) (w : Word) : (m.setWord a w).pool = m.pool := rfl
@[simp] theorem Part.bsl_setWord (m : Part) (a : Nat) (w : Word) : (m.setWord a w).bsl = m.bsl := rfl
@[simp] theorem Part.saf_setWord (m : Part) (a : Nat) (w : Word) : (m.setWord a w).saf = m.saf := rfl
@[simp] theorem Part.flk_setWord (m : Part) (a : Nat) (w : Word) : (m.setWord a w).flk = m.flk := rfl
@[simp] theorem Part.mica_setWord (m : Part) (a : Nat) (w : Word) : (m.setWord a w).mica = m.mica := rfl
@[simp] theorem Part.life_setWord (m : Part) (a : Nat) (w : Word) : (m.setWord a w).life = m.life := rfl
@[simp] theorem Part.clv_setWord (m : Part) (a : Nat) (w : Word) : (m.setWord a w).clv = m.clv := rfl
@[simp] theorem Part.adc_setWord (m : Part) (a : Nat) (w : Word) : (m.setWord a w).adc = m.adc := rfl
@[simp] theorem Part.pmb_setWord (m : Part) (a : Nat) (w : Word) : (m.setWord a w).pmb = m.pmb := rfl
@[simp] theorem Part.pmc_setWord (m : Part) (a : Nat) (w : Word) : (m.setWord a w).pmc = m.pmc := rfl
@[simp] theorem Part.lcp_setWord (m : Part) (a : Nat) (w : Word) : (m.setWord a w).lcp = m.lcp := rfl
@[simp] theorem Part.cores_setWord (m : Part) (a : Nat) (w : Word) : (m.setWord a w).cores = m.cores := rfl
@[simp] theorem Part.icu_setWord (m : Part) (a : Nat) (w : Word) : (m.setWord a w).icu = m.icu := rfl
@[simp] theorem Part.timers_setWord (m : Part) (a : Nat) (w : Word) : (m.setWord a w).timers = m.timers := rfl
@[simp] theorem Part.dma_setWord (m : Part) (a : Nat) (w : Word) : (m.setWord a w).dma = m.dma := rfl
@[simp] theorem Part.nvm_setWord (m : Part) (a : Nat) (w : Word) : (m.setWord a w).nvm = m.nvm := rfl
@[simp] theorem Part.sys_setWord (m : Part) (a : Nat) (w : Word) : (m.setWord a w).sys = m.sys := rfl
@[simp] theorem Part.hsp_setWord (m : Part) (a : Nat) (w : Word) : (m.setWord a w).hsp = m.hsp := rfl
@[simp] theorem Part.ydp_setWord (m : Part) (a : Nat) (w : Word) : (m.setWord a w).ydp = m.ydp := rfl
@[simp] theorem Part.tap_setWord (m : Part) (a : Nat) (w : Word) : (m.setWord a w).tap = m.tap := rfl

/-! ## A field written -/

@[simp] theorem Part.tb_put (m : Part) (f : FieldAt) (i v : Nat) : (m.put f i v).tb = m.tb := rfl
@[simp] theorem Part.free_put (m : Part) (f : FieldAt) (i v : Nat) : (m.put f i v).free = m.free := rfl
@[simp] theorem Part.bus_put (m : Part) (f : FieldAt) (i v : Nat) : (m.put f i v).bus = m.bus := rfl
@[simp] theorem Part.holding_put (m : Part) (f : FieldAt) (i v : Nat) : (m.put f i v).holding = m.holding := rfl
@[simp] theorem Part.grn_put (m : Part) (f : FieldAt) (i v : Nat) : (m.put f i v).grn = m.grn := rfl
@[simp] theorem Part.flt_put (m : Part) (f : FieldAt) (i v : Nat) : (m.put f i v).flt = m.flt := rfl
@[simp] theorem Part.pwm_put (m : Part) (f : FieldAt) (i v : Nat) : (m.put f i v).pwm = m.pwm := rfl
@[simp] theorem Part.sync_put (m : Part) (f : FieldAt) (i v : Nat) : (m.put f i v).sync = m.sync := rfl
@[simp] theorem Part.trips_put (m : Part) (f : FieldAt) (i v : Nat) : (m.put f i v).trips = m.trips := rfl
@[simp] theorem Part.pool_put (m : Part) (f : FieldAt) (i v : Nat) : (m.put f i v).pool = m.pool := rfl
@[simp] theorem Part.bsl_put (m : Part) (f : FieldAt) (i v : Nat) : (m.put f i v).bsl = m.bsl := rfl
@[simp] theorem Part.saf_put (m : Part) (f : FieldAt) (i v : Nat) : (m.put f i v).saf = m.saf := rfl
@[simp] theorem Part.flk_put (m : Part) (f : FieldAt) (i v : Nat) : (m.put f i v).flk = m.flk := rfl
@[simp] theorem Part.mica_put (m : Part) (f : FieldAt) (i v : Nat) : (m.put f i v).mica = m.mica := rfl
@[simp] theorem Part.life_put (m : Part) (f : FieldAt) (i v : Nat) : (m.put f i v).life = m.life := rfl
@[simp] theorem Part.clv_put (m : Part) (f : FieldAt) (i v : Nat) : (m.put f i v).clv = m.clv := rfl
@[simp] theorem Part.adc_put (m : Part) (f : FieldAt) (i v : Nat) : (m.put f i v).adc = m.adc := rfl
@[simp] theorem Part.pmb_put (m : Part) (f : FieldAt) (i v : Nat) : (m.put f i v).pmb = m.pmb := rfl
@[simp] theorem Part.pmc_put (m : Part) (f : FieldAt) (i v : Nat) : (m.put f i v).pmc = m.pmc := rfl
@[simp] theorem Part.lcp_put (m : Part) (f : FieldAt) (i v : Nat) : (m.put f i v).lcp = m.lcp := rfl
@[simp] theorem Part.cores_put (m : Part) (f : FieldAt) (i v : Nat) : (m.put f i v).cores = m.cores := rfl
@[simp] theorem Part.icu_put (m : Part) (f : FieldAt) (i v : Nat) : (m.put f i v).icu = m.icu := rfl
@[simp] theorem Part.timers_put (m : Part) (f : FieldAt) (i v : Nat) : (m.put f i v).timers = m.timers := rfl
@[simp] theorem Part.dma_put (m : Part) (f : FieldAt) (i v : Nat) : (m.put f i v).dma = m.dma := rfl
@[simp] theorem Part.nvm_put (m : Part) (f : FieldAt) (i v : Nat) : (m.put f i v).nvm = m.nvm := rfl
@[simp] theorem Part.sys_put (m : Part) (f : FieldAt) (i v : Nat) : (m.put f i v).sys = m.sys := rfl
@[simp] theorem Part.hsp_put (m : Part) (f : FieldAt) (i v : Nat) : (m.put f i v).hsp = m.hsp := rfl
@[simp] theorem Part.ydp_put (m : Part) (f : FieldAt) (i v : Nat) : (m.put f i v).ydp = m.ydp := rfl
@[simp] theorem Part.tap_put (m : Part) (f : FieldAt) (i v : Nat) : (m.put f i v).tap = m.tap := rfl

/-! ## The machine, where an operation on its part is carried over -/

@[simp] theorem State.part_lift (s : State) (f : Part → Part) : (s.lift f).part = f s.part := rfl
@[simp] theorem State.mem_lift (s : State) (f : Part → Part) : (s.lift f).mem = s.mem := rfl
@[simp] theorem State.pending_lift (s : State) (f : Part → Part) : (s.lift f).pending = s.pending := rfl

/-! ## Per-instance tables -/

@[simp] theorem Part.pwmAt_setPwm_same (m : Part) (k : Nat) (x : PwmPhase) : (m.setPwm k x).pwmAt k = x := Store.get_set_same ..
theorem Part.pwmAt_setPwm_other (m : Part) {j k : Nat} (h : j ≠ k) (x : PwmPhase) : (m.setPwm k x).pwmAt j = m.pwmAt j :=
  Store.get_set_other _ _ _ h _
@[simp] theorem Part.regs_setPwm (m : Part) (k : Nat) (x : PwmPhase) : (m.setPwm k x).regs = m.regs := rfl
@[simp] theorem Part.tb_setPwm (m : Part) (k : Nat) (x : PwmPhase) : (m.setPwm k x).tb = m.tb := rfl
@[simp] theorem Part.free_setPwm (m : Part) (k : Nat) (x : PwmPhase) : (m.setPwm k x).free = m.free := rfl
@[simp] theorem Part.bus_setPwm (m : Part) (k : Nat) (x : PwmPhase) : (m.setPwm k x).bus = m.bus := rfl
@[simp] theorem Part.holding_setPwm (m : Part) (k : Nat) (x : PwmPhase) : (m.setPwm k x).holding = m.holding := rfl
@[simp] theorem Part.grn_setPwm (m : Part) (k : Nat) (x : PwmPhase) : (m.setPwm k x).grn = m.grn := rfl
@[simp] theorem Part.flt_setPwm (m : Part) (k : Nat) (x : PwmPhase) : (m.setPwm k x).flt = m.flt := rfl
@[simp] theorem Part.sync_setPwm (m : Part) (k : Nat) (x : PwmPhase) : (m.setPwm k x).sync = m.sync := rfl
@[simp] theorem Part.trips_setPwm (m : Part) (k : Nat) (x : PwmPhase) : (m.setPwm k x).trips = m.trips := rfl
@[simp] theorem Part.pool_setPwm (m : Part) (k : Nat) (x : PwmPhase) : (m.setPwm k x).pool = m.pool := rfl
@[simp] theorem Part.bsl_setPwm (m : Part) (k : Nat) (x : PwmPhase) : (m.setPwm k x).bsl = m.bsl := rfl
@[simp] theorem Part.saf_setPwm (m : Part) (k : Nat) (x : PwmPhase) : (m.setPwm k x).saf = m.saf := rfl
@[simp] theorem Part.flk_setPwm (m : Part) (k : Nat) (x : PwmPhase) : (m.setPwm k x).flk = m.flk := rfl
@[simp] theorem Part.mica_setPwm (m : Part) (k : Nat) (x : PwmPhase) : (m.setPwm k x).mica = m.mica := rfl
@[simp] theorem Part.life_setPwm (m : Part) (k : Nat) (x : PwmPhase) : (m.setPwm k x).life = m.life := rfl
@[simp] theorem Part.clv_setPwm (m : Part) (k : Nat) (x : PwmPhase) : (m.setPwm k x).clv = m.clv := rfl
@[simp] theorem Part.adc_setPwm (m : Part) (k : Nat) (x : PwmPhase) : (m.setPwm k x).adc = m.adc := rfl
@[simp] theorem Part.pmb_setPwm (m : Part) (k : Nat) (x : PwmPhase) : (m.setPwm k x).pmb = m.pmb := rfl
@[simp] theorem Part.pmc_setPwm (m : Part) (k : Nat) (x : PwmPhase) : (m.setPwm k x).pmc = m.pmc := rfl
@[simp] theorem Part.lcp_setPwm (m : Part) (k : Nat) (x : PwmPhase) : (m.setPwm k x).lcp = m.lcp := rfl
@[simp] theorem Part.cores_setPwm (m : Part) (k : Nat) (x : PwmPhase) : (m.setPwm k x).cores = m.cores := rfl
@[simp] theorem Part.icu_setPwm (m : Part) (k : Nat) (x : PwmPhase) : (m.setPwm k x).icu = m.icu := rfl
@[simp] theorem Part.timers_setPwm (m : Part) (k : Nat) (x : PwmPhase) : (m.setPwm k x).timers = m.timers := rfl
@[simp] theorem Part.dma_setPwm (m : Part) (k : Nat) (x : PwmPhase) : (m.setPwm k x).dma = m.dma := rfl
@[simp] theorem Part.nvm_setPwm (m : Part) (k : Nat) (x : PwmPhase) : (m.setPwm k x).nvm = m.nvm := rfl
@[simp] theorem Part.sys_setPwm (m : Part) (k : Nat) (x : PwmPhase) : (m.setPwm k x).sys = m.sys := rfl
@[simp] theorem Part.hsp_setPwm (m : Part) (k : Nat) (x : PwmPhase) : (m.setPwm k x).hsp = m.hsp := rfl
@[simp] theorem Part.ydp_setPwm (m : Part) (k : Nat) (x : PwmPhase) : (m.setPwm k x).ydp = m.ydp := rfl
@[simp] theorem Part.tap_setPwm (m : Part) (k : Nat) (x : PwmPhase) : (m.setPwm k x).tap = m.tap := rfl
@[simp] theorem Part.word_setPwm (m : Part) (a k : Nat) (x : PwmPhase) : (m.setPwm k x).word a = m.word a := rfl
@[simp] theorem Part.get_setPwm (m : Part) (f : FieldAt) (i k : Nat) (x : PwmPhase) : (m.setPwm k x).get f i = m.get f i := rfl

@[simp] theorem Part.poolAt_setPool_same (m : Part) (k : Nat) (x : PoolPhase) : (m.setPool k x).poolAt k = x := Store.get_set_same ..
theorem Part.poolAt_setPool_other (m : Part) {j k : Nat} (h : j ≠ k) (x : PoolPhase) : (m.setPool k x).poolAt j = m.poolAt j :=
  Store.get_set_other _ _ _ h _
@[simp] theorem Part.regs_setPool (m : Part) (k : Nat) (x : PoolPhase) : (m.setPool k x).regs = m.regs := rfl
@[simp] theorem Part.tb_setPool (m : Part) (k : Nat) (x : PoolPhase) : (m.setPool k x).tb = m.tb := rfl
@[simp] theorem Part.free_setPool (m : Part) (k : Nat) (x : PoolPhase) : (m.setPool k x).free = m.free := rfl
@[simp] theorem Part.bus_setPool (m : Part) (k : Nat) (x : PoolPhase) : (m.setPool k x).bus = m.bus := rfl
@[simp] theorem Part.holding_setPool (m : Part) (k : Nat) (x : PoolPhase) : (m.setPool k x).holding = m.holding := rfl
@[simp] theorem Part.grn_setPool (m : Part) (k : Nat) (x : PoolPhase) : (m.setPool k x).grn = m.grn := rfl
@[simp] theorem Part.flt_setPool (m : Part) (k : Nat) (x : PoolPhase) : (m.setPool k x).flt = m.flt := rfl
@[simp] theorem Part.pwm_setPool (m : Part) (k : Nat) (x : PoolPhase) : (m.setPool k x).pwm = m.pwm := rfl
@[simp] theorem Part.sync_setPool (m : Part) (k : Nat) (x : PoolPhase) : (m.setPool k x).sync = m.sync := rfl
@[simp] theorem Part.trips_setPool (m : Part) (k : Nat) (x : PoolPhase) : (m.setPool k x).trips = m.trips := rfl
@[simp] theorem Part.bsl_setPool (m : Part) (k : Nat) (x : PoolPhase) : (m.setPool k x).bsl = m.bsl := rfl
@[simp] theorem Part.saf_setPool (m : Part) (k : Nat) (x : PoolPhase) : (m.setPool k x).saf = m.saf := rfl
@[simp] theorem Part.flk_setPool (m : Part) (k : Nat) (x : PoolPhase) : (m.setPool k x).flk = m.flk := rfl
@[simp] theorem Part.mica_setPool (m : Part) (k : Nat) (x : PoolPhase) : (m.setPool k x).mica = m.mica := rfl
@[simp] theorem Part.life_setPool (m : Part) (k : Nat) (x : PoolPhase) : (m.setPool k x).life = m.life := rfl
@[simp] theorem Part.clv_setPool (m : Part) (k : Nat) (x : PoolPhase) : (m.setPool k x).clv = m.clv := rfl
@[simp] theorem Part.adc_setPool (m : Part) (k : Nat) (x : PoolPhase) : (m.setPool k x).adc = m.adc := rfl
@[simp] theorem Part.pmb_setPool (m : Part) (k : Nat) (x : PoolPhase) : (m.setPool k x).pmb = m.pmb := rfl
@[simp] theorem Part.pmc_setPool (m : Part) (k : Nat) (x : PoolPhase) : (m.setPool k x).pmc = m.pmc := rfl
@[simp] theorem Part.lcp_setPool (m : Part) (k : Nat) (x : PoolPhase) : (m.setPool k x).lcp = m.lcp := rfl
@[simp] theorem Part.cores_setPool (m : Part) (k : Nat) (x : PoolPhase) : (m.setPool k x).cores = m.cores := rfl
@[simp] theorem Part.icu_setPool (m : Part) (k : Nat) (x : PoolPhase) : (m.setPool k x).icu = m.icu := rfl
@[simp] theorem Part.timers_setPool (m : Part) (k : Nat) (x : PoolPhase) : (m.setPool k x).timers = m.timers := rfl
@[simp] theorem Part.dma_setPool (m : Part) (k : Nat) (x : PoolPhase) : (m.setPool k x).dma = m.dma := rfl
@[simp] theorem Part.nvm_setPool (m : Part) (k : Nat) (x : PoolPhase) : (m.setPool k x).nvm = m.nvm := rfl
@[simp] theorem Part.sys_setPool (m : Part) (k : Nat) (x : PoolPhase) : (m.setPool k x).sys = m.sys := rfl
@[simp] theorem Part.hsp_setPool (m : Part) (k : Nat) (x : PoolPhase) : (m.setPool k x).hsp = m.hsp := rfl
@[simp] theorem Part.ydp_setPool (m : Part) (k : Nat) (x : PoolPhase) : (m.setPool k x).ydp = m.ydp := rfl
@[simp] theorem Part.tap_setPool (m : Part) (k : Nat) (x : PoolPhase) : (m.setPool k x).tap = m.tap := rfl
@[simp] theorem Part.poolRail_setPool (m : Part) (j k : Nat) (x : PoolPhase) : (m.setPool k x).poolRail j = m.poolRail j := rfl
@[simp] theorem Part.word_setPool (m : Part) (a k : Nat) (x : PoolPhase) : (m.setPool k x).word a = m.word a := rfl
@[simp] theorem Part.get_setPool (m : Part) (f : FieldAt) (i k : Nat) (x : PoolPhase) : (m.setPool k x).get f i = m.get f i := rfl

@[simp] theorem Part.poolRail_setPoolRail_same (m : Part) (k : Nat) (x : PoolRail) : (m.setPoolRail k x).poolRail k = x := Store.get_set_same ..
theorem Part.poolRail_setPoolRail_other (m : Part) {j k : Nat} (h : j ≠ k) (x : PoolRail) : (m.setPoolRail k x).poolRail j = m.poolRail j :=
  Store.get_set_other _ _ _ h _
@[simp] theorem Part.regs_setPoolRail (m : Part) (k : Nat) (x : PoolRail) : (m.setPoolRail k x).regs = m.regs := rfl
@[simp] theorem Part.tb_setPoolRail (m : Part) (k : Nat) (x : PoolRail) : (m.setPoolRail k x).tb = m.tb := rfl
@[simp] theorem Part.free_setPoolRail (m : Part) (k : Nat) (x : PoolRail) : (m.setPoolRail k x).free = m.free := rfl
@[simp] theorem Part.bus_setPoolRail (m : Part) (k : Nat) (x : PoolRail) : (m.setPoolRail k x).bus = m.bus := rfl
@[simp] theorem Part.holding_setPoolRail (m : Part) (k : Nat) (x : PoolRail) : (m.setPoolRail k x).holding = m.holding := rfl
@[simp] theorem Part.grn_setPoolRail (m : Part) (k : Nat) (x : PoolRail) : (m.setPoolRail k x).grn = m.grn := rfl
@[simp] theorem Part.flt_setPoolRail (m : Part) (k : Nat) (x : PoolRail) : (m.setPoolRail k x).flt = m.flt := rfl
@[simp] theorem Part.pwm_setPoolRail (m : Part) (k : Nat) (x : PoolRail) : (m.setPoolRail k x).pwm = m.pwm := rfl
@[simp] theorem Part.sync_setPoolRail (m : Part) (k : Nat) (x : PoolRail) : (m.setPoolRail k x).sync = m.sync := rfl
@[simp] theorem Part.trips_setPoolRail (m : Part) (k : Nat) (x : PoolRail) : (m.setPoolRail k x).trips = m.trips := rfl
@[simp] theorem Part.bsl_setPoolRail (m : Part) (k : Nat) (x : PoolRail) : (m.setPoolRail k x).bsl = m.bsl := rfl
@[simp] theorem Part.saf_setPoolRail (m : Part) (k : Nat) (x : PoolRail) : (m.setPoolRail k x).saf = m.saf := rfl
@[simp] theorem Part.flk_setPoolRail (m : Part) (k : Nat) (x : PoolRail) : (m.setPoolRail k x).flk = m.flk := rfl
@[simp] theorem Part.mica_setPoolRail (m : Part) (k : Nat) (x : PoolRail) : (m.setPoolRail k x).mica = m.mica := rfl
@[simp] theorem Part.life_setPoolRail (m : Part) (k : Nat) (x : PoolRail) : (m.setPoolRail k x).life = m.life := rfl
@[simp] theorem Part.clv_setPoolRail (m : Part) (k : Nat) (x : PoolRail) : (m.setPoolRail k x).clv = m.clv := rfl
@[simp] theorem Part.adc_setPoolRail (m : Part) (k : Nat) (x : PoolRail) : (m.setPoolRail k x).adc = m.adc := rfl
@[simp] theorem Part.pmb_setPoolRail (m : Part) (k : Nat) (x : PoolRail) : (m.setPoolRail k x).pmb = m.pmb := rfl
@[simp] theorem Part.pmc_setPoolRail (m : Part) (k : Nat) (x : PoolRail) : (m.setPoolRail k x).pmc = m.pmc := rfl
@[simp] theorem Part.lcp_setPoolRail (m : Part) (k : Nat) (x : PoolRail) : (m.setPoolRail k x).lcp = m.lcp := rfl
@[simp] theorem Part.cores_setPoolRail (m : Part) (k : Nat) (x : PoolRail) : (m.setPoolRail k x).cores = m.cores := rfl
@[simp] theorem Part.icu_setPoolRail (m : Part) (k : Nat) (x : PoolRail) : (m.setPoolRail k x).icu = m.icu := rfl
@[simp] theorem Part.timers_setPoolRail (m : Part) (k : Nat) (x : PoolRail) : (m.setPoolRail k x).timers = m.timers := rfl
@[simp] theorem Part.dma_setPoolRail (m : Part) (k : Nat) (x : PoolRail) : (m.setPoolRail k x).dma = m.dma := rfl
@[simp] theorem Part.nvm_setPoolRail (m : Part) (k : Nat) (x : PoolRail) : (m.setPoolRail k x).nvm = m.nvm := rfl
@[simp] theorem Part.sys_setPoolRail (m : Part) (k : Nat) (x : PoolRail) : (m.setPoolRail k x).sys = m.sys := rfl
@[simp] theorem Part.hsp_setPoolRail (m : Part) (k : Nat) (x : PoolRail) : (m.setPoolRail k x).hsp = m.hsp := rfl
@[simp] theorem Part.ydp_setPoolRail (m : Part) (k : Nat) (x : PoolRail) : (m.setPoolRail k x).ydp = m.ydp := rfl
@[simp] theorem Part.tap_setPoolRail (m : Part) (k : Nat) (x : PoolRail) : (m.setPoolRail k x).tap = m.tap := rfl
@[simp] theorem Part.poolAt_setPoolRail (m : Part) (j k : Nat) (x : PoolRail) : (m.setPoolRail k x).poolAt j = m.poolAt j := rfl
@[simp] theorem Part.word_setPoolRail (m : Part) (a k : Nat) (x : PoolRail) : (m.setPoolRail k x).word a = m.word a := rfl
@[simp] theorem Part.get_setPoolRail (m : Part) (f : FieldAt) (i k : Nat) (x : PoolRail) : (m.setPoolRail k x).get f i = m.get f i := rfl

@[simp] theorem Part.bslRail_setBslRail_same (m : Part) (k : Nat) (x : BslRail) : (m.setBslRail k x).bslRail k = x := Store.get_set_same ..
theorem Part.bslRail_setBslRail_other (m : Part) {j k : Nat} (h : j ≠ k) (x : BslRail) : (m.setBslRail k x).bslRail j = m.bslRail j :=
  Store.get_set_other _ _ _ h _
@[simp] theorem Part.regs_setBslRail (m : Part) (k : Nat) (x : BslRail) : (m.setBslRail k x).regs = m.regs := rfl
@[simp] theorem Part.tb_setBslRail (m : Part) (k : Nat) (x : BslRail) : (m.setBslRail k x).tb = m.tb := rfl
@[simp] theorem Part.free_setBslRail (m : Part) (k : Nat) (x : BslRail) : (m.setBslRail k x).free = m.free := rfl
@[simp] theorem Part.bus_setBslRail (m : Part) (k : Nat) (x : BslRail) : (m.setBslRail k x).bus = m.bus := rfl
@[simp] theorem Part.holding_setBslRail (m : Part) (k : Nat) (x : BslRail) : (m.setBslRail k x).holding = m.holding := rfl
@[simp] theorem Part.grn_setBslRail (m : Part) (k : Nat) (x : BslRail) : (m.setBslRail k x).grn = m.grn := rfl
@[simp] theorem Part.flt_setBslRail (m : Part) (k : Nat) (x : BslRail) : (m.setBslRail k x).flt = m.flt := rfl
@[simp] theorem Part.pwm_setBslRail (m : Part) (k : Nat) (x : BslRail) : (m.setBslRail k x).pwm = m.pwm := rfl
@[simp] theorem Part.sync_setBslRail (m : Part) (k : Nat) (x : BslRail) : (m.setBslRail k x).sync = m.sync := rfl
@[simp] theorem Part.trips_setBslRail (m : Part) (k : Nat) (x : BslRail) : (m.setBslRail k x).trips = m.trips := rfl
@[simp] theorem Part.pool_setBslRail (m : Part) (k : Nat) (x : BslRail) : (m.setBslRail k x).pool = m.pool := rfl
@[simp] theorem Part.saf_setBslRail (m : Part) (k : Nat) (x : BslRail) : (m.setBslRail k x).saf = m.saf := rfl
@[simp] theorem Part.flk_setBslRail (m : Part) (k : Nat) (x : BslRail) : (m.setBslRail k x).flk = m.flk := rfl
@[simp] theorem Part.mica_setBslRail (m : Part) (k : Nat) (x : BslRail) : (m.setBslRail k x).mica = m.mica := rfl
@[simp] theorem Part.life_setBslRail (m : Part) (k : Nat) (x : BslRail) : (m.setBslRail k x).life = m.life := rfl
@[simp] theorem Part.clv_setBslRail (m : Part) (k : Nat) (x : BslRail) : (m.setBslRail k x).clv = m.clv := rfl
@[simp] theorem Part.adc_setBslRail (m : Part) (k : Nat) (x : BslRail) : (m.setBslRail k x).adc = m.adc := rfl
@[simp] theorem Part.pmb_setBslRail (m : Part) (k : Nat) (x : BslRail) : (m.setBslRail k x).pmb = m.pmb := rfl
@[simp] theorem Part.pmc_setBslRail (m : Part) (k : Nat) (x : BslRail) : (m.setBslRail k x).pmc = m.pmc := rfl
@[simp] theorem Part.lcp_setBslRail (m : Part) (k : Nat) (x : BslRail) : (m.setBslRail k x).lcp = m.lcp := rfl
@[simp] theorem Part.cores_setBslRail (m : Part) (k : Nat) (x : BslRail) : (m.setBslRail k x).cores = m.cores := rfl
@[simp] theorem Part.icu_setBslRail (m : Part) (k : Nat) (x : BslRail) : (m.setBslRail k x).icu = m.icu := rfl
@[simp] theorem Part.timers_setBslRail (m : Part) (k : Nat) (x : BslRail) : (m.setBslRail k x).timers = m.timers := rfl
@[simp] theorem Part.dma_setBslRail (m : Part) (k : Nat) (x : BslRail) : (m.setBslRail k x).dma = m.dma := rfl
@[simp] theorem Part.nvm_setBslRail (m : Part) (k : Nat) (x : BslRail) : (m.setBslRail k x).nvm = m.nvm := rfl
@[simp] theorem Part.sys_setBslRail (m : Part) (k : Nat) (x : BslRail) : (m.setBslRail k x).sys = m.sys := rfl
@[simp] theorem Part.hsp_setBslRail (m : Part) (k : Nat) (x : BslRail) : (m.setBslRail k x).hsp = m.hsp := rfl
@[simp] theorem Part.ydp_setBslRail (m : Part) (k : Nat) (x : BslRail) : (m.setBslRail k x).ydp = m.ydp := rfl
@[simp] theorem Part.tap_setBslRail (m : Part) (k : Nat) (x : BslRail) : (m.setBslRail k x).tap = m.tap := rfl
@[simp] theorem Part.bslPhase_setBslRail (m : Part) (j k : Nat) (x : BslRail) : (m.setBslRail k x).bslPhase j = m.bslPhase j := rfl
@[simp] theorem Part.lane_setBslRail (m : Part) (j k : Nat) (x : BslRail) : (m.setBslRail k x).lane j = m.lane j := rfl
@[simp] theorem Part.word_setBslRail (m : Part) (a k : Nat) (x : BslRail) : (m.setBslRail k x).word a = m.word a := rfl
@[simp] theorem Part.get_setBslRail (m : Part) (f : FieldAt) (i k : Nat) (x : BslRail) : (m.setBslRail k x).get f i = m.get f i := rfl

@[simp] theorem Part.bslPhase_setBslPhase_same (m : Part) (k : Nat) (x : BslPhase) : (m.setBslPhase k x).bslPhase k = x := Store.get_set_same ..
theorem Part.bslPhase_setBslPhase_other (m : Part) {j k : Nat} (h : j ≠ k) (x : BslPhase) : (m.setBslPhase k x).bslPhase j = m.bslPhase j :=
  Store.get_set_other _ _ _ h _
@[simp] theorem Part.regs_setBslPhase (m : Part) (k : Nat) (x : BslPhase) : (m.setBslPhase k x).regs = m.regs := rfl
@[simp] theorem Part.tb_setBslPhase (m : Part) (k : Nat) (x : BslPhase) : (m.setBslPhase k x).tb = m.tb := rfl
@[simp] theorem Part.free_setBslPhase (m : Part) (k : Nat) (x : BslPhase) : (m.setBslPhase k x).free = m.free := rfl
@[simp] theorem Part.bus_setBslPhase (m : Part) (k : Nat) (x : BslPhase) : (m.setBslPhase k x).bus = m.bus := rfl
@[simp] theorem Part.holding_setBslPhase (m : Part) (k : Nat) (x : BslPhase) : (m.setBslPhase k x).holding = m.holding := rfl
@[simp] theorem Part.grn_setBslPhase (m : Part) (k : Nat) (x : BslPhase) : (m.setBslPhase k x).grn = m.grn := rfl
@[simp] theorem Part.flt_setBslPhase (m : Part) (k : Nat) (x : BslPhase) : (m.setBslPhase k x).flt = m.flt := rfl
@[simp] theorem Part.pwm_setBslPhase (m : Part) (k : Nat) (x : BslPhase) : (m.setBslPhase k x).pwm = m.pwm := rfl
@[simp] theorem Part.sync_setBslPhase (m : Part) (k : Nat) (x : BslPhase) : (m.setBslPhase k x).sync = m.sync := rfl
@[simp] theorem Part.trips_setBslPhase (m : Part) (k : Nat) (x : BslPhase) : (m.setBslPhase k x).trips = m.trips := rfl
@[simp] theorem Part.pool_setBslPhase (m : Part) (k : Nat) (x : BslPhase) : (m.setBslPhase k x).pool = m.pool := rfl
@[simp] theorem Part.saf_setBslPhase (m : Part) (k : Nat) (x : BslPhase) : (m.setBslPhase k x).saf = m.saf := rfl
@[simp] theorem Part.flk_setBslPhase (m : Part) (k : Nat) (x : BslPhase) : (m.setBslPhase k x).flk = m.flk := rfl
@[simp] theorem Part.mica_setBslPhase (m : Part) (k : Nat) (x : BslPhase) : (m.setBslPhase k x).mica = m.mica := rfl
@[simp] theorem Part.life_setBslPhase (m : Part) (k : Nat) (x : BslPhase) : (m.setBslPhase k x).life = m.life := rfl
@[simp] theorem Part.clv_setBslPhase (m : Part) (k : Nat) (x : BslPhase) : (m.setBslPhase k x).clv = m.clv := rfl
@[simp] theorem Part.adc_setBslPhase (m : Part) (k : Nat) (x : BslPhase) : (m.setBslPhase k x).adc = m.adc := rfl
@[simp] theorem Part.pmb_setBslPhase (m : Part) (k : Nat) (x : BslPhase) : (m.setBslPhase k x).pmb = m.pmb := rfl
@[simp] theorem Part.pmc_setBslPhase (m : Part) (k : Nat) (x : BslPhase) : (m.setBslPhase k x).pmc = m.pmc := rfl
@[simp] theorem Part.lcp_setBslPhase (m : Part) (k : Nat) (x : BslPhase) : (m.setBslPhase k x).lcp = m.lcp := rfl
@[simp] theorem Part.cores_setBslPhase (m : Part) (k : Nat) (x : BslPhase) : (m.setBslPhase k x).cores = m.cores := rfl
@[simp] theorem Part.icu_setBslPhase (m : Part) (k : Nat) (x : BslPhase) : (m.setBslPhase k x).icu = m.icu := rfl
@[simp] theorem Part.timers_setBslPhase (m : Part) (k : Nat) (x : BslPhase) : (m.setBslPhase k x).timers = m.timers := rfl
@[simp] theorem Part.dma_setBslPhase (m : Part) (k : Nat) (x : BslPhase) : (m.setBslPhase k x).dma = m.dma := rfl
@[simp] theorem Part.nvm_setBslPhase (m : Part) (k : Nat) (x : BslPhase) : (m.setBslPhase k x).nvm = m.nvm := rfl
@[simp] theorem Part.sys_setBslPhase (m : Part) (k : Nat) (x : BslPhase) : (m.setBslPhase k x).sys = m.sys := rfl
@[simp] theorem Part.hsp_setBslPhase (m : Part) (k : Nat) (x : BslPhase) : (m.setBslPhase k x).hsp = m.hsp := rfl
@[simp] theorem Part.ydp_setBslPhase (m : Part) (k : Nat) (x : BslPhase) : (m.setBslPhase k x).ydp = m.ydp := rfl
@[simp] theorem Part.tap_setBslPhase (m : Part) (k : Nat) (x : BslPhase) : (m.setBslPhase k x).tap = m.tap := rfl
@[simp] theorem Part.bslRail_setBslPhase (m : Part) (j k : Nat) (x : BslPhase) : (m.setBslPhase k x).bslRail j = m.bslRail j := rfl
@[simp] theorem Part.lane_setBslPhase (m : Part) (j k : Nat) (x : BslPhase) : (m.setBslPhase k x).lane j = m.lane j := rfl
@[simp] theorem Part.word_setBslPhase (m : Part) (a k : Nat) (x : BslPhase) : (m.setBslPhase k x).word a = m.word a := rfl
@[simp] theorem Part.get_setBslPhase (m : Part) (f : FieldAt) (i k : Nat) (x : BslPhase) : (m.setBslPhase k x).get f i = m.get f i := rfl

@[simp] theorem Part.lane_setLane_same (m : Part) (k : Nat) (x : Lane) : (m.setLane k x).lane k = x := Store.get_set_same ..
theorem Part.lane_setLane_other (m : Part) {j k : Nat} (h : j ≠ k) (x : Lane) : (m.setLane k x).lane j = m.lane j :=
  Store.get_set_other _ _ _ h _
@[simp] theorem Part.regs_setLane (m : Part) (k : Nat) (x : Lane) : (m.setLane k x).regs = m.regs := rfl
@[simp] theorem Part.tb_setLane (m : Part) (k : Nat) (x : Lane) : (m.setLane k x).tb = m.tb := rfl
@[simp] theorem Part.free_setLane (m : Part) (k : Nat) (x : Lane) : (m.setLane k x).free = m.free := rfl
@[simp] theorem Part.bus_setLane (m : Part) (k : Nat) (x : Lane) : (m.setLane k x).bus = m.bus := rfl
@[simp] theorem Part.holding_setLane (m : Part) (k : Nat) (x : Lane) : (m.setLane k x).holding = m.holding := rfl
@[simp] theorem Part.grn_setLane (m : Part) (k : Nat) (x : Lane) : (m.setLane k x).grn = m.grn := rfl
@[simp] theorem Part.flt_setLane (m : Part) (k : Nat) (x : Lane) : (m.setLane k x).flt = m.flt := rfl
@[simp] theorem Part.pwm_setLane (m : Part) (k : Nat) (x : Lane) : (m.setLane k x).pwm = m.pwm := rfl
@[simp] theorem Part.sync_setLane (m : Part) (k : Nat) (x : Lane) : (m.setLane k x).sync = m.sync := rfl
@[simp] theorem Part.trips_setLane (m : Part) (k : Nat) (x : Lane) : (m.setLane k x).trips = m.trips := rfl
@[simp] theorem Part.pool_setLane (m : Part) (k : Nat) (x : Lane) : (m.setLane k x).pool = m.pool := rfl
@[simp] theorem Part.saf_setLane (m : Part) (k : Nat) (x : Lane) : (m.setLane k x).saf = m.saf := rfl
@[simp] theorem Part.flk_setLane (m : Part) (k : Nat) (x : Lane) : (m.setLane k x).flk = m.flk := rfl
@[simp] theorem Part.mica_setLane (m : Part) (k : Nat) (x : Lane) : (m.setLane k x).mica = m.mica := rfl
@[simp] theorem Part.life_setLane (m : Part) (k : Nat) (x : Lane) : (m.setLane k x).life = m.life := rfl
@[simp] theorem Part.clv_setLane (m : Part) (k : Nat) (x : Lane) : (m.setLane k x).clv = m.clv := rfl
@[simp] theorem Part.adc_setLane (m : Part) (k : Nat) (x : Lane) : (m.setLane k x).adc = m.adc := rfl
@[simp] theorem Part.pmb_setLane (m : Part) (k : Nat) (x : Lane) : (m.setLane k x).pmb = m.pmb := rfl
@[simp] theorem Part.pmc_setLane (m : Part) (k : Nat) (x : Lane) : (m.setLane k x).pmc = m.pmc := rfl
@[simp] theorem Part.lcp_setLane (m : Part) (k : Nat) (x : Lane) : (m.setLane k x).lcp = m.lcp := rfl
@[simp] theorem Part.cores_setLane (m : Part) (k : Nat) (x : Lane) : (m.setLane k x).cores = m.cores := rfl
@[simp] theorem Part.icu_setLane (m : Part) (k : Nat) (x : Lane) : (m.setLane k x).icu = m.icu := rfl
@[simp] theorem Part.timers_setLane (m : Part) (k : Nat) (x : Lane) : (m.setLane k x).timers = m.timers := rfl
@[simp] theorem Part.dma_setLane (m : Part) (k : Nat) (x : Lane) : (m.setLane k x).dma = m.dma := rfl
@[simp] theorem Part.nvm_setLane (m : Part) (k : Nat) (x : Lane) : (m.setLane k x).nvm = m.nvm := rfl
@[simp] theorem Part.sys_setLane (m : Part) (k : Nat) (x : Lane) : (m.setLane k x).sys = m.sys := rfl
@[simp] theorem Part.hsp_setLane (m : Part) (k : Nat) (x : Lane) : (m.setLane k x).hsp = m.hsp := rfl
@[simp] theorem Part.ydp_setLane (m : Part) (k : Nat) (x : Lane) : (m.setLane k x).ydp = m.ydp := rfl
@[simp] theorem Part.tap_setLane (m : Part) (k : Nat) (x : Lane) : (m.setLane k x).tap = m.tap := rfl
@[simp] theorem Part.bslRail_setLane (m : Part) (j k : Nat) (x : Lane) : (m.setLane k x).bslRail j = m.bslRail j := rfl
@[simp] theorem Part.bslPhase_setLane (m : Part) (j k : Nat) (x : Lane) : (m.setLane k x).bslPhase j = m.bslPhase j := rfl
@[simp] theorem Part.word_setLane (m : Part) (a k : Nat) (x : Lane) : (m.setLane k x).word a = m.word a := rfl
@[simp] theorem Part.get_setLane (m : Part) (f : FieldAt) (i k : Nat) (x : Lane) : (m.setLane k x).get f i = m.get f i := rfl

@[simp] theorem Part.plan_setPlan_same (m : Part) (k : Nat) (x : Plan) : (m.setPlan k x).plan k = x := Store.get_set_same ..
theorem Part.plan_setPlan_other (m : Part) {j k : Nat} (h : j ≠ k) (x : Plan) : (m.setPlan k x).plan j = m.plan j :=
  Store.get_set_other _ _ _ h _
@[simp] theorem Part.regs_setPlan (m : Part) (k : Nat) (x : Plan) : (m.setPlan k x).regs = m.regs := rfl
@[simp] theorem Part.tb_setPlan (m : Part) (k : Nat) (x : Plan) : (m.setPlan k x).tb = m.tb := rfl
@[simp] theorem Part.free_setPlan (m : Part) (k : Nat) (x : Plan) : (m.setPlan k x).free = m.free := rfl
@[simp] theorem Part.bus_setPlan (m : Part) (k : Nat) (x : Plan) : (m.setPlan k x).bus = m.bus := rfl
@[simp] theorem Part.holding_setPlan (m : Part) (k : Nat) (x : Plan) : (m.setPlan k x).holding = m.holding := rfl
@[simp] theorem Part.grn_setPlan (m : Part) (k : Nat) (x : Plan) : (m.setPlan k x).grn = m.grn := rfl
@[simp] theorem Part.flt_setPlan (m : Part) (k : Nat) (x : Plan) : (m.setPlan k x).flt = m.flt := rfl
@[simp] theorem Part.pwm_setPlan (m : Part) (k : Nat) (x : Plan) : (m.setPlan k x).pwm = m.pwm := rfl
@[simp] theorem Part.sync_setPlan (m : Part) (k : Nat) (x : Plan) : (m.setPlan k x).sync = m.sync := rfl
@[simp] theorem Part.trips_setPlan (m : Part) (k : Nat) (x : Plan) : (m.setPlan k x).trips = m.trips := rfl
@[simp] theorem Part.pool_setPlan (m : Part) (k : Nat) (x : Plan) : (m.setPlan k x).pool = m.pool := rfl
@[simp] theorem Part.bsl_setPlan (m : Part) (k : Nat) (x : Plan) : (m.setPlan k x).bsl = m.bsl := rfl
@[simp] theorem Part.flk_setPlan (m : Part) (k : Nat) (x : Plan) : (m.setPlan k x).flk = m.flk := rfl
@[simp] theorem Part.mica_setPlan (m : Part) (k : Nat) (x : Plan) : (m.setPlan k x).mica = m.mica := rfl
@[simp] theorem Part.life_setPlan (m : Part) (k : Nat) (x : Plan) : (m.setPlan k x).life = m.life := rfl
@[simp] theorem Part.clv_setPlan (m : Part) (k : Nat) (x : Plan) : (m.setPlan k x).clv = m.clv := rfl
@[simp] theorem Part.adc_setPlan (m : Part) (k : Nat) (x : Plan) : (m.setPlan k x).adc = m.adc := rfl
@[simp] theorem Part.pmb_setPlan (m : Part) (k : Nat) (x : Plan) : (m.setPlan k x).pmb = m.pmb := rfl
@[simp] theorem Part.pmc_setPlan (m : Part) (k : Nat) (x : Plan) : (m.setPlan k x).pmc = m.pmc := rfl
@[simp] theorem Part.lcp_setPlan (m : Part) (k : Nat) (x : Plan) : (m.setPlan k x).lcp = m.lcp := rfl
@[simp] theorem Part.cores_setPlan (m : Part) (k : Nat) (x : Plan) : (m.setPlan k x).cores = m.cores := rfl
@[simp] theorem Part.icu_setPlan (m : Part) (k : Nat) (x : Plan) : (m.setPlan k x).icu = m.icu := rfl
@[simp] theorem Part.timers_setPlan (m : Part) (k : Nat) (x : Plan) : (m.setPlan k x).timers = m.timers := rfl
@[simp] theorem Part.dma_setPlan (m : Part) (k : Nat) (x : Plan) : (m.setPlan k x).dma = m.dma := rfl
@[simp] theorem Part.nvm_setPlan (m : Part) (k : Nat) (x : Plan) : (m.setPlan k x).nvm = m.nvm := rfl
@[simp] theorem Part.sys_setPlan (m : Part) (k : Nat) (x : Plan) : (m.setPlan k x).sys = m.sys := rfl
@[simp] theorem Part.hsp_setPlan (m : Part) (k : Nat) (x : Plan) : (m.setPlan k x).hsp = m.hsp := rfl
@[simp] theorem Part.ydp_setPlan (m : Part) (k : Nat) (x : Plan) : (m.setPlan k x).ydp = m.ydp := rfl
@[simp] theorem Part.tap_setPlan (m : Part) (k : Nat) (x : Plan) : (m.setPlan k x).tap = m.tap := rfl
@[simp] theorem Part.group_setPlan (m : Part) (j k : Nat) (x : Plan) : (m.setPlan k x).group j = m.group j := rfl
@[simp] theorem Part.chan_setPlan (m : Part) (j k : Nat) (x : Plan) : (m.setPlan k x).chan j = m.chan j := rfl
@[simp] theorem Part.word_setPlan (m : Part) (a k : Nat) (x : Plan) : (m.setPlan k x).word a = m.word a := rfl
@[simp] theorem Part.get_setPlan (m : Part) (f : FieldAt) (i k : Nat) (x : Plan) : (m.setPlan k x).get f i = m.get f i := rfl

@[simp] theorem Part.group_setGroup_same (m : Part) (k : Nat) (x : Group) : (m.setGroup k x).group k = x := Store.get_set_same ..
theorem Part.group_setGroup_other (m : Part) {j k : Nat} (h : j ≠ k) (x : Group) : (m.setGroup k x).group j = m.group j :=
  Store.get_set_other _ _ _ h _
@[simp] theorem Part.regs_setGroup (m : Part) (k : Nat) (x : Group) : (m.setGroup k x).regs = m.regs := rfl
@[simp] theorem Part.tb_setGroup (m : Part) (k : Nat) (x : Group) : (m.setGroup k x).tb = m.tb := rfl
@[simp] theorem Part.free_setGroup (m : Part) (k : Nat) (x : Group) : (m.setGroup k x).free = m.free := rfl
@[simp] theorem Part.bus_setGroup (m : Part) (k : Nat) (x : Group) : (m.setGroup k x).bus = m.bus := rfl
@[simp] theorem Part.holding_setGroup (m : Part) (k : Nat) (x : Group) : (m.setGroup k x).holding = m.holding := rfl
@[simp] theorem Part.grn_setGroup (m : Part) (k : Nat) (x : Group) : (m.setGroup k x).grn = m.grn := rfl
@[simp] theorem Part.flt_setGroup (m : Part) (k : Nat) (x : Group) : (m.setGroup k x).flt = m.flt := rfl
@[simp] theorem Part.pwm_setGroup (m : Part) (k : Nat) (x : Group) : (m.setGroup k x).pwm = m.pwm := rfl
@[simp] theorem Part.sync_setGroup (m : Part) (k : Nat) (x : Group) : (m.setGroup k x).sync = m.sync := rfl
@[simp] theorem Part.trips_setGroup (m : Part) (k : Nat) (x : Group) : (m.setGroup k x).trips = m.trips := rfl
@[simp] theorem Part.pool_setGroup (m : Part) (k : Nat) (x : Group) : (m.setGroup k x).pool = m.pool := rfl
@[simp] theorem Part.bsl_setGroup (m : Part) (k : Nat) (x : Group) : (m.setGroup k x).bsl = m.bsl := rfl
@[simp] theorem Part.flk_setGroup (m : Part) (k : Nat) (x : Group) : (m.setGroup k x).flk = m.flk := rfl
@[simp] theorem Part.mica_setGroup (m : Part) (k : Nat) (x : Group) : (m.setGroup k x).mica = m.mica := rfl
@[simp] theorem Part.life_setGroup (m : Part) (k : Nat) (x : Group) : (m.setGroup k x).life = m.life := rfl
@[simp] theorem Part.clv_setGroup (m : Part) (k : Nat) (x : Group) : (m.setGroup k x).clv = m.clv := rfl
@[simp] theorem Part.adc_setGroup (m : Part) (k : Nat) (x : Group) : (m.setGroup k x).adc = m.adc := rfl
@[simp] theorem Part.pmb_setGroup (m : Part) (k : Nat) (x : Group) : (m.setGroup k x).pmb = m.pmb := rfl
@[simp] theorem Part.pmc_setGroup (m : Part) (k : Nat) (x : Group) : (m.setGroup k x).pmc = m.pmc := rfl
@[simp] theorem Part.lcp_setGroup (m : Part) (k : Nat) (x : Group) : (m.setGroup k x).lcp = m.lcp := rfl
@[simp] theorem Part.cores_setGroup (m : Part) (k : Nat) (x : Group) : (m.setGroup k x).cores = m.cores := rfl
@[simp] theorem Part.icu_setGroup (m : Part) (k : Nat) (x : Group) : (m.setGroup k x).icu = m.icu := rfl
@[simp] theorem Part.timers_setGroup (m : Part) (k : Nat) (x : Group) : (m.setGroup k x).timers = m.timers := rfl
@[simp] theorem Part.dma_setGroup (m : Part) (k : Nat) (x : Group) : (m.setGroup k x).dma = m.dma := rfl
@[simp] theorem Part.nvm_setGroup (m : Part) (k : Nat) (x : Group) : (m.setGroup k x).nvm = m.nvm := rfl
@[simp] theorem Part.sys_setGroup (m : Part) (k : Nat) (x : Group) : (m.setGroup k x).sys = m.sys := rfl
@[simp] theorem Part.hsp_setGroup (m : Part) (k : Nat) (x : Group) : (m.setGroup k x).hsp = m.hsp := rfl
@[simp] theorem Part.ydp_setGroup (m : Part) (k : Nat) (x : Group) : (m.setGroup k x).ydp = m.ydp := rfl
@[simp] theorem Part.tap_setGroup (m : Part) (k : Nat) (x : Group) : (m.setGroup k x).tap = m.tap := rfl
@[simp] theorem Part.plan_setGroup (m : Part) (j k : Nat) (x : Group) : (m.setGroup k x).plan j = m.plan j := rfl
@[simp] theorem Part.chan_setGroup (m : Part) (j k : Nat) (x : Group) : (m.setGroup k x).chan j = m.chan j := rfl
@[simp] theorem Part.word_setGroup (m : Part) (a k : Nat) (x : Group) : (m.setGroup k x).word a = m.word a := rfl
@[simp] theorem Part.get_setGroup (m : Part) (f : FieldAt) (i k : Nat) (x : Group) : (m.setGroup k x).get f i = m.get f i := rfl

@[simp] theorem Part.chan_setChan_same (m : Part) (k : Nat) (x : Chan) : (m.setChan k x).chan k = x := Store.get_set_same ..
theorem Part.chan_setChan_other (m : Part) {j k : Nat} (h : j ≠ k) (x : Chan) : (m.setChan k x).chan j = m.chan j :=
  Store.get_set_other _ _ _ h _
@[simp] theorem Part.regs_setChan (m : Part) (k : Nat) (x : Chan) : (m.setChan k x).regs = m.regs := rfl
@[simp] theorem Part.tb_setChan (m : Part) (k : Nat) (x : Chan) : (m.setChan k x).tb = m.tb := rfl
@[simp] theorem Part.free_setChan (m : Part) (k : Nat) (x : Chan) : (m.setChan k x).free = m.free := rfl
@[simp] theorem Part.bus_setChan (m : Part) (k : Nat) (x : Chan) : (m.setChan k x).bus = m.bus := rfl
@[simp] theorem Part.holding_setChan (m : Part) (k : Nat) (x : Chan) : (m.setChan k x).holding = m.holding := rfl
@[simp] theorem Part.grn_setChan (m : Part) (k : Nat) (x : Chan) : (m.setChan k x).grn = m.grn := rfl
@[simp] theorem Part.flt_setChan (m : Part) (k : Nat) (x : Chan) : (m.setChan k x).flt = m.flt := rfl
@[simp] theorem Part.pwm_setChan (m : Part) (k : Nat) (x : Chan) : (m.setChan k x).pwm = m.pwm := rfl
@[simp] theorem Part.sync_setChan (m : Part) (k : Nat) (x : Chan) : (m.setChan k x).sync = m.sync := rfl
@[simp] theorem Part.trips_setChan (m : Part) (k : Nat) (x : Chan) : (m.setChan k x).trips = m.trips := rfl
@[simp] theorem Part.pool_setChan (m : Part) (k : Nat) (x : Chan) : (m.setChan k x).pool = m.pool := rfl
@[simp] theorem Part.bsl_setChan (m : Part) (k : Nat) (x : Chan) : (m.setChan k x).bsl = m.bsl := rfl
@[simp] theorem Part.flk_setChan (m : Part) (k : Nat) (x : Chan) : (m.setChan k x).flk = m.flk := rfl
@[simp] theorem Part.mica_setChan (m : Part) (k : Nat) (x : Chan) : (m.setChan k x).mica = m.mica := rfl
@[simp] theorem Part.life_setChan (m : Part) (k : Nat) (x : Chan) : (m.setChan k x).life = m.life := rfl
@[simp] theorem Part.clv_setChan (m : Part) (k : Nat) (x : Chan) : (m.setChan k x).clv = m.clv := rfl
@[simp] theorem Part.adc_setChan (m : Part) (k : Nat) (x : Chan) : (m.setChan k x).adc = m.adc := rfl
@[simp] theorem Part.pmb_setChan (m : Part) (k : Nat) (x : Chan) : (m.setChan k x).pmb = m.pmb := rfl
@[simp] theorem Part.pmc_setChan (m : Part) (k : Nat) (x : Chan) : (m.setChan k x).pmc = m.pmc := rfl
@[simp] theorem Part.lcp_setChan (m : Part) (k : Nat) (x : Chan) : (m.setChan k x).lcp = m.lcp := rfl
@[simp] theorem Part.cores_setChan (m : Part) (k : Nat) (x : Chan) : (m.setChan k x).cores = m.cores := rfl
@[simp] theorem Part.icu_setChan (m : Part) (k : Nat) (x : Chan) : (m.setChan k x).icu = m.icu := rfl
@[simp] theorem Part.timers_setChan (m : Part) (k : Nat) (x : Chan) : (m.setChan k x).timers = m.timers := rfl
@[simp] theorem Part.dma_setChan (m : Part) (k : Nat) (x : Chan) : (m.setChan k x).dma = m.dma := rfl
@[simp] theorem Part.nvm_setChan (m : Part) (k : Nat) (x : Chan) : (m.setChan k x).nvm = m.nvm := rfl
@[simp] theorem Part.sys_setChan (m : Part) (k : Nat) (x : Chan) : (m.setChan k x).sys = m.sys := rfl
@[simp] theorem Part.hsp_setChan (m : Part) (k : Nat) (x : Chan) : (m.setChan k x).hsp = m.hsp := rfl
@[simp] theorem Part.ydp_setChan (m : Part) (k : Nat) (x : Chan) : (m.setChan k x).ydp = m.ydp := rfl
@[simp] theorem Part.tap_setChan (m : Part) (k : Nat) (x : Chan) : (m.setChan k x).tap = m.tap := rfl
@[simp] theorem Part.plan_setChan (m : Part) (j k : Nat) (x : Chan) : (m.setChan k x).plan j = m.plan j := rfl
@[simp] theorem Part.group_setChan (m : Part) (j k : Nat) (x : Chan) : (m.setChan k x).group j = m.group j := rfl
@[simp] theorem Part.word_setChan (m : Part) (a k : Nat) (x : Chan) : (m.setChan k x).word a = m.word a := rfl
@[simp] theorem Part.get_setChan (m : Part) (f : FieldAt) (i k : Nat) (x : Chan) : (m.setChan k x).get f i = m.get f i := rfl

@[simp] theorem Part.railFault_setRailFault_same (m : Part) (k : Nat) (x : RailFault) : (m.setRailFault k x).railFault k = x := Store.get_set_same ..
theorem Part.railFault_setRailFault_other (m : Part) {j k : Nat} (h : j ≠ k) (x : RailFault) : (m.setRailFault k x).railFault j = m.railFault j :=
  Store.get_set_other _ _ _ h _
@[simp] theorem Part.regs_setRailFault (m : Part) (k : Nat) (x : RailFault) : (m.setRailFault k x).regs = m.regs := rfl
@[simp] theorem Part.tb_setRailFault (m : Part) (k : Nat) (x : RailFault) : (m.setRailFault k x).tb = m.tb := rfl
@[simp] theorem Part.free_setRailFault (m : Part) (k : Nat) (x : RailFault) : (m.setRailFault k x).free = m.free := rfl
@[simp] theorem Part.bus_setRailFault (m : Part) (k : Nat) (x : RailFault) : (m.setRailFault k x).bus = m.bus := rfl
@[simp] theorem Part.holding_setRailFault (m : Part) (k : Nat) (x : RailFault) : (m.setRailFault k x).holding = m.holding := rfl
@[simp] theorem Part.grn_setRailFault (m : Part) (k : Nat) (x : RailFault) : (m.setRailFault k x).grn = m.grn := rfl
@[simp] theorem Part.pwm_setRailFault (m : Part) (k : Nat) (x : RailFault) : (m.setRailFault k x).pwm = m.pwm := rfl
@[simp] theorem Part.sync_setRailFault (m : Part) (k : Nat) (x : RailFault) : (m.setRailFault k x).sync = m.sync := rfl
@[simp] theorem Part.trips_setRailFault (m : Part) (k : Nat) (x : RailFault) : (m.setRailFault k x).trips = m.trips := rfl
@[simp] theorem Part.pool_setRailFault (m : Part) (k : Nat) (x : RailFault) : (m.setRailFault k x).pool = m.pool := rfl
@[simp] theorem Part.bsl_setRailFault (m : Part) (k : Nat) (x : RailFault) : (m.setRailFault k x).bsl = m.bsl := rfl
@[simp] theorem Part.saf_setRailFault (m : Part) (k : Nat) (x : RailFault) : (m.setRailFault k x).saf = m.saf := rfl
@[simp] theorem Part.flk_setRailFault (m : Part) (k : Nat) (x : RailFault) : (m.setRailFault k x).flk = m.flk := rfl
@[simp] theorem Part.mica_setRailFault (m : Part) (k : Nat) (x : RailFault) : (m.setRailFault k x).mica = m.mica := rfl
@[simp] theorem Part.life_setRailFault (m : Part) (k : Nat) (x : RailFault) : (m.setRailFault k x).life = m.life := rfl
@[simp] theorem Part.clv_setRailFault (m : Part) (k : Nat) (x : RailFault) : (m.setRailFault k x).clv = m.clv := rfl
@[simp] theorem Part.adc_setRailFault (m : Part) (k : Nat) (x : RailFault) : (m.setRailFault k x).adc = m.adc := rfl
@[simp] theorem Part.pmb_setRailFault (m : Part) (k : Nat) (x : RailFault) : (m.setRailFault k x).pmb = m.pmb := rfl
@[simp] theorem Part.pmc_setRailFault (m : Part) (k : Nat) (x : RailFault) : (m.setRailFault k x).pmc = m.pmc := rfl
@[simp] theorem Part.lcp_setRailFault (m : Part) (k : Nat) (x : RailFault) : (m.setRailFault k x).lcp = m.lcp := rfl
@[simp] theorem Part.cores_setRailFault (m : Part) (k : Nat) (x : RailFault) : (m.setRailFault k x).cores = m.cores := rfl
@[simp] theorem Part.icu_setRailFault (m : Part) (k : Nat) (x : RailFault) : (m.setRailFault k x).icu = m.icu := rfl
@[simp] theorem Part.timers_setRailFault (m : Part) (k : Nat) (x : RailFault) : (m.setRailFault k x).timers = m.timers := rfl
@[simp] theorem Part.dma_setRailFault (m : Part) (k : Nat) (x : RailFault) : (m.setRailFault k x).dma = m.dma := rfl
@[simp] theorem Part.nvm_setRailFault (m : Part) (k : Nat) (x : RailFault) : (m.setRailFault k x).nvm = m.nvm := rfl
@[simp] theorem Part.sys_setRailFault (m : Part) (k : Nat) (x : RailFault) : (m.setRailFault k x).sys = m.sys := rfl
@[simp] theorem Part.hsp_setRailFault (m : Part) (k : Nat) (x : RailFault) : (m.setRailFault k x).hsp = m.hsp := rfl
@[simp] theorem Part.ydp_setRailFault (m : Part) (k : Nat) (x : RailFault) : (m.setRailFault k x).ydp = m.ydp := rfl
@[simp] theorem Part.tap_setRailFault (m : Part) (k : Nat) (x : RailFault) : (m.setRailFault k x).tap = m.tap := rfl
@[simp] theorem Part.word_setRailFault (m : Part) (a k : Nat) (x : RailFault) : (m.setRailFault k x).word a = m.word a := rfl
@[simp] theorem Part.get_setRailFault (m : Part) (f : FieldAt) (i k : Nat) (x : RailFault) : (m.setRailFault k x).get f i = m.get f i := rfl

@[simp] theorem Part.syncAt_setSync_same (m : Part) (k : Nat) (x : RailSync) : (m.setSync k x).syncAt k = x := Store.get_set_same ..
theorem Part.syncAt_setSync_other (m : Part) {j k : Nat} (h : j ≠ k) (x : RailSync) : (m.setSync k x).syncAt j = m.syncAt j :=
  Store.get_set_other _ _ _ h _
@[simp] theorem Part.regs_setSync (m : Part) (k : Nat) (x : RailSync) : (m.setSync k x).regs = m.regs := rfl
@[simp] theorem Part.tb_setSync (m : Part) (k : Nat) (x : RailSync) : (m.setSync k x).tb = m.tb := rfl
@[simp] theorem Part.free_setSync (m : Part) (k : Nat) (x : RailSync) : (m.setSync k x).free = m.free := rfl
@[simp] theorem Part.bus_setSync (m : Part) (k : Nat) (x : RailSync) : (m.setSync k x).bus = m.bus := rfl
@[simp] theorem Part.holding_setSync (m : Part) (k : Nat) (x : RailSync) : (m.setSync k x).holding = m.holding := rfl
@[simp] theorem Part.grn_setSync (m : Part) (k : Nat) (x : RailSync) : (m.setSync k x).grn = m.grn := rfl
@[simp] theorem Part.flt_setSync (m : Part) (k : Nat) (x : RailSync) : (m.setSync k x).flt = m.flt := rfl
@[simp] theorem Part.pwm_setSync (m : Part) (k : Nat) (x : RailSync) : (m.setSync k x).pwm = m.pwm := rfl
@[simp] theorem Part.trips_setSync (m : Part) (k : Nat) (x : RailSync) : (m.setSync k x).trips = m.trips := rfl
@[simp] theorem Part.pool_setSync (m : Part) (k : Nat) (x : RailSync) : (m.setSync k x).pool = m.pool := rfl
@[simp] theorem Part.bsl_setSync (m : Part) (k : Nat) (x : RailSync) : (m.setSync k x).bsl = m.bsl := rfl
@[simp] theorem Part.saf_setSync (m : Part) (k : Nat) (x : RailSync) : (m.setSync k x).saf = m.saf := rfl
@[simp] theorem Part.flk_setSync (m : Part) (k : Nat) (x : RailSync) : (m.setSync k x).flk = m.flk := rfl
@[simp] theorem Part.mica_setSync (m : Part) (k : Nat) (x : RailSync) : (m.setSync k x).mica = m.mica := rfl
@[simp] theorem Part.life_setSync (m : Part) (k : Nat) (x : RailSync) : (m.setSync k x).life = m.life := rfl
@[simp] theorem Part.clv_setSync (m : Part) (k : Nat) (x : RailSync) : (m.setSync k x).clv = m.clv := rfl
@[simp] theorem Part.adc_setSync (m : Part) (k : Nat) (x : RailSync) : (m.setSync k x).adc = m.adc := rfl
@[simp] theorem Part.pmb_setSync (m : Part) (k : Nat) (x : RailSync) : (m.setSync k x).pmb = m.pmb := rfl
@[simp] theorem Part.pmc_setSync (m : Part) (k : Nat) (x : RailSync) : (m.setSync k x).pmc = m.pmc := rfl
@[simp] theorem Part.lcp_setSync (m : Part) (k : Nat) (x : RailSync) : (m.setSync k x).lcp = m.lcp := rfl
@[simp] theorem Part.cores_setSync (m : Part) (k : Nat) (x : RailSync) : (m.setSync k x).cores = m.cores := rfl
@[simp] theorem Part.icu_setSync (m : Part) (k : Nat) (x : RailSync) : (m.setSync k x).icu = m.icu := rfl
@[simp] theorem Part.timers_setSync (m : Part) (k : Nat) (x : RailSync) : (m.setSync k x).timers = m.timers := rfl
@[simp] theorem Part.dma_setSync (m : Part) (k : Nat) (x : RailSync) : (m.setSync k x).dma = m.dma := rfl
@[simp] theorem Part.nvm_setSync (m : Part) (k : Nat) (x : RailSync) : (m.setSync k x).nvm = m.nvm := rfl
@[simp] theorem Part.sys_setSync (m : Part) (k : Nat) (x : RailSync) : (m.setSync k x).sys = m.sys := rfl
@[simp] theorem Part.hsp_setSync (m : Part) (k : Nat) (x : RailSync) : (m.setSync k x).hsp = m.hsp := rfl
@[simp] theorem Part.ydp_setSync (m : Part) (k : Nat) (x : RailSync) : (m.setSync k x).ydp = m.ydp := rfl
@[simp] theorem Part.tap_setSync (m : Part) (k : Nat) (x : RailSync) : (m.setSync k x).tap = m.tap := rfl
@[simp] theorem Part.word_setSync (m : Part) (a k : Nat) (x : RailSync) : (m.setSync k x).word a = m.word a := rfl
@[simp] theorem Part.get_setSync (m : Part) (f : FieldAt) (i k : Nat) (x : RailSync) : (m.setSync k x).get f i = m.get f i := rfl

end Sys2Proof.Machine
end

