-- ==== Sys2Proof/Laws/Blocks.lean ====
section
/-! SUPPORT. One lemma per field of the part for each update of a block's own table or record, and reading such a table after an
update of it. -/
namespace Sys2Proof.Machine

@[simp] theorem Part.point_setPoint_same (m : Part) (k : Nat) (x : SensePoint) : (m.setPoint k x).point k = x := Store.get_set_same ..
theorem Part.point_setPoint_other (m : Part) {j k : Nat} (h : j ≠ k) (x : SensePoint) : (m.setPoint k x).point j = m.point j :=
  Store.get_set_other _ _ _ h _
@[simp] theorem Part.regs_setPoint (m : Part) (k : Nat) (x : SensePoint) : (m.setPoint k x).regs = m.regs := rfl
@[simp] theorem Part.tb_setPoint (m : Part) (k : Nat) (x : SensePoint) : (m.setPoint k x).tb = m.tb := rfl
@[simp] theorem Part.free_setPoint (m : Part) (k : Nat) (x : SensePoint) : (m.setPoint k x).free = m.free := rfl
@[simp] theorem Part.bus_setPoint (m : Part) (k : Nat) (x : SensePoint) : (m.setPoint k x).bus = m.bus := rfl
@[simp] theorem Part.holding_setPoint (m : Part) (k : Nat) (x : SensePoint) : (m.setPoint k x).holding = m.holding := rfl
@[simp] theorem Part.grn_setPoint (m : Part) (k : Nat) (x : SensePoint) : (m.setPoint k x).grn = m.grn := rfl
@[simp] theorem Part.flt_setPoint (m : Part) (k : Nat) (x : SensePoint) : (m.setPoint k x).flt = m.flt := rfl
@[simp] theorem Part.pwm_setPoint (m : Part) (k : Nat) (x : SensePoint) : (m.setPoint k x).pwm = m.pwm := rfl
@[simp] theorem Part.sync_setPoint (m : Part) (k : Nat) (x : SensePoint) : (m.setPoint k x).sync = m.sync := rfl
@[simp] theorem Part.trips_setPoint (m : Part) (k : Nat) (x : SensePoint) : (m.setPoint k x).trips = m.trips := rfl
@[simp] theorem Part.pool_setPoint (m : Part) (k : Nat) (x : SensePoint) : (m.setPoint k x).pool = m.pool := rfl
@[simp] theorem Part.bsl_setPoint (m : Part) (k : Nat) (x : SensePoint) : (m.setPoint k x).bsl = m.bsl := rfl
@[simp] theorem Part.saf_setPoint (m : Part) (k : Nat) (x : SensePoint) : (m.setPoint k x).saf = m.saf := rfl
@[simp] theorem Part.flk_setPoint (m : Part) (k : Nat) (x : SensePoint) : (m.setPoint k x).flk = m.flk := rfl
@[simp] theorem Part.mica_setPoint (m : Part) (k : Nat) (x : SensePoint) : (m.setPoint k x).mica = m.mica := rfl
@[simp] theorem Part.life_setPoint (m : Part) (k : Nat) (x : SensePoint) : (m.setPoint k x).life = m.life := rfl
@[simp] theorem Part.clv_setPoint (m : Part) (k : Nat) (x : SensePoint) : (m.setPoint k x).clv = m.clv := rfl
@[simp] theorem Part.pmb_setPoint (m : Part) (k : Nat) (x : SensePoint) : (m.setPoint k x).pmb = m.pmb := rfl
@[simp] theorem Part.pmc_setPoint (m : Part) (k : Nat) (x : SensePoint) : (m.setPoint k x).pmc = m.pmc := rfl
@[simp] theorem Part.lcp_setPoint (m : Part) (k : Nat) (x : SensePoint) : (m.setPoint k x).lcp = m.lcp := rfl
@[simp] theorem Part.cores_setPoint (m : Part) (k : Nat) (x : SensePoint) : (m.setPoint k x).cores = m.cores := rfl
@[simp] theorem Part.icu_setPoint (m : Part) (k : Nat) (x : SensePoint) : (m.setPoint k x).icu = m.icu := rfl
@[simp] theorem Part.timers_setPoint (m : Part) (k : Nat) (x : SensePoint) : (m.setPoint k x).timers = m.timers := rfl
@[simp] theorem Part.dma_setPoint (m : Part) (k : Nat) (x : SensePoint) : (m.setPoint k x).dma = m.dma := rfl
@[simp] theorem Part.nvm_setPoint (m : Part) (k : Nat) (x : SensePoint) : (m.setPoint k x).nvm = m.nvm := rfl
@[simp] theorem Part.sys_setPoint (m : Part) (k : Nat) (x : SensePoint) : (m.setPoint k x).sys = m.sys := rfl
@[simp] theorem Part.hsp_setPoint (m : Part) (k : Nat) (x : SensePoint) : (m.setPoint k x).hsp = m.hsp := rfl
@[simp] theorem Part.ydp_setPoint (m : Part) (k : Nat) (x : SensePoint) : (m.setPoint k x).ydp = m.ydp := rfl
@[simp] theorem Part.tap_setPoint (m : Part) (k : Nat) (x : SensePoint) : (m.setPoint k x).tap = m.tap := rfl
@[simp] theorem Part.word_setPoint (m : Part) (a k : Nat) (x : SensePoint) : (m.setPoint k x).word a = m.word a := rfl
@[simp] theorem Part.get_setPoint (m : Part) (f : FieldAt) (i k : Nat) (x : SensePoint) : (m.setPoint k x).get f i = m.get f i := rfl

@[simp] theorem Part.sliceGroup_setSliceGroup_same (m : Part) (k : Nat) (x : SliceGroup) : (m.setSliceGroup k x).sliceGroup k = x := Store.get_set_same ..
theorem Part.sliceGroup_setSliceGroup_other (m : Part) {j k : Nat} (h : j ≠ k) (x : SliceGroup) : (m.setSliceGroup k x).sliceGroup j = m.sliceGroup j :=
  Store.get_set_other _ _ _ h _
@[simp] theorem Part.regs_setSliceGroup (m : Part) (k : Nat) (x : SliceGroup) : (m.setSliceGroup k x).regs = m.regs := rfl
@[simp] theorem Part.tb_setSliceGroup (m : Part) (k : Nat) (x : SliceGroup) : (m.setSliceGroup k x).tb = m.tb := rfl
@[simp] theorem Part.free_setSliceGroup (m : Part) (k : Nat) (x : SliceGroup) : (m.setSliceGroup k x).free = m.free := rfl
@[simp] theorem Part.bus_setSliceGroup (m : Part) (k : Nat) (x : SliceGroup) : (m.setSliceGroup k x).bus = m.bus := rfl
@[simp] theorem Part.holding_setSliceGroup (m : Part) (k : Nat) (x : SliceGroup) : (m.setSliceGroup k x).holding = m.holding := rfl
@[simp] theorem Part.grn_setSliceGroup (m : Part) (k : Nat) (x : SliceGroup) : (m.setSliceGroup k x).grn = m.grn := rfl
@[simp] theorem Part.flt_setSliceGroup (m : Part) (k : Nat) (x : SliceGroup) : (m.setSliceGroup k x).flt = m.flt := rfl
@[simp] theorem Part.pwm_setSliceGroup (m : Part) (k : Nat) (x : SliceGroup) : (m.setSliceGroup k x).pwm = m.pwm := rfl
@[simp] theorem Part.sync_setSliceGroup (m : Part) (k : Nat) (x : SliceGroup) : (m.setSliceGroup k x).sync = m.sync := rfl
@[simp] theorem Part.trips_setSliceGroup (m : Part) (k : Nat) (x : SliceGroup) : (m.setSliceGroup k x).trips = m.trips := rfl
@[simp] theorem Part.pool_setSliceGroup (m : Part) (k : Nat) (x : SliceGroup) : (m.setSliceGroup k x).pool = m.pool := rfl
@[simp] theorem Part.bsl_setSliceGroup (m : Part) (k : Nat) (x : SliceGroup) : (m.setSliceGroup k x).bsl = m.bsl := rfl
@[simp] theorem Part.saf_setSliceGroup (m : Part) (k : Nat) (x : SliceGroup) : (m.setSliceGroup k x).saf = m.saf := rfl
@[simp] theorem Part.flk_setSliceGroup (m : Part) (k : Nat) (x : SliceGroup) : (m.setSliceGroup k x).flk = m.flk := rfl
@[simp] theorem Part.mica_setSliceGroup (m : Part) (k : Nat) (x : SliceGroup) : (m.setSliceGroup k x).mica = m.mica := rfl
@[simp] theorem Part.life_setSliceGroup (m : Part) (k : Nat) (x : SliceGroup) : (m.setSliceGroup k x).life = m.life := rfl
@[simp] theorem Part.clv_setSliceGroup (m : Part) (k : Nat) (x : SliceGroup) : (m.setSliceGroup k x).clv = m.clv := rfl
@[simp] theorem Part.pmb_setSliceGroup (m : Part) (k : Nat) (x : SliceGroup) : (m.setSliceGroup k x).pmb = m.pmb := rfl
@[simp] theorem Part.pmc_setSliceGroup (m : Part) (k : Nat) (x : SliceGroup) : (m.setSliceGroup k x).pmc = m.pmc := rfl
@[simp] theorem Part.lcp_setSliceGroup (m : Part) (k : Nat) (x : SliceGroup) : (m.setSliceGroup k x).lcp = m.lcp := rfl
@[simp] theorem Part.cores_setSliceGroup (m : Part) (k : Nat) (x : SliceGroup) : (m.setSliceGroup k x).cores = m.cores := rfl
@[simp] theorem Part.icu_setSliceGroup (m : Part) (k : Nat) (x : SliceGroup) : (m.setSliceGroup k x).icu = m.icu := rfl
@[simp] theorem Part.timers_setSliceGroup (m : Part) (k : Nat) (x : SliceGroup) : (m.setSliceGroup k x).timers = m.timers := rfl
@[simp] theorem Part.dma_setSliceGroup (m : Part) (k : Nat) (x : SliceGroup) : (m.setSliceGroup k x).dma = m.dma := rfl
@[simp] theorem Part.nvm_setSliceGroup (m : Part) (k : Nat) (x : SliceGroup) : (m.setSliceGroup k x).nvm = m.nvm := rfl
@[simp] theorem Part.sys_setSliceGroup (m : Part) (k : Nat) (x : SliceGroup) : (m.setSliceGroup k x).sys = m.sys := rfl
@[simp] theorem Part.hsp_setSliceGroup (m : Part) (k : Nat) (x : SliceGroup) : (m.setSliceGroup k x).hsp = m.hsp := rfl
@[simp] theorem Part.ydp_setSliceGroup (m : Part) (k : Nat) (x : SliceGroup) : (m.setSliceGroup k x).ydp = m.ydp := rfl
@[simp] theorem Part.tap_setSliceGroup (m : Part) (k : Nat) (x : SliceGroup) : (m.setSliceGroup k x).tap = m.tap := rfl
@[simp] theorem Part.word_setSliceGroup (m : Part) (a k : Nat) (x : SliceGroup) : (m.setSliceGroup k x).word a = m.word a := rfl
@[simp] theorem Part.get_setSliceGroup (m : Part) (f : FieldAt) (i k : Nat) (x : SliceGroup) : (m.setSliceGroup k x).get f i = m.get f i := rfl

@[simp] theorem Part.monitor_setMonitor_same (m : Part) (k : Nat) (x : Monitor) : (m.setMonitor k x).monitor k = x := Store.get_set_same ..
theorem Part.monitor_setMonitor_other (m : Part) {j k : Nat} (h : j ≠ k) (x : Monitor) : (m.setMonitor k x).monitor j = m.monitor j :=
  Store.get_set_other _ _ _ h _
@[simp] theorem Part.regs_setMonitor (m : Part) (k : Nat) (x : Monitor) : (m.setMonitor k x).regs = m.regs := rfl
@[simp] theorem Part.tb_setMonitor (m : Part) (k : Nat) (x : Monitor) : (m.setMonitor k x).tb = m.tb := rfl
@[simp] theorem Part.free_setMonitor (m : Part) (k : Nat) (x : Monitor) : (m.setMonitor k x).free = m.free := rfl
@[simp] theorem Part.bus_setMonitor (m : Part) (k : Nat) (x : Monitor) : (m.setMonitor k x).bus = m.bus := rfl
@[simp] theorem Part.holding_setMonitor (m : Part) (k : Nat) (x : Monitor) : (m.setMonitor k x).holding = m.holding := rfl
@[simp] theorem Part.grn_setMonitor (m : Part) (k : Nat) (x : Monitor) : (m.setMonitor k x).grn = m.grn := rfl
@[simp] theorem Part.flt_setMonitor (m : Part) (k : Nat) (x : Monitor) : (m.setMonitor k x).flt = m.flt := rfl
@[simp] theorem Part.pwm_setMonitor (m : Part) (k : Nat) (x : Monitor) : (m.setMonitor k x).pwm = m.pwm := rfl
@[simp] theorem Part.sync_setMonitor (m : Part) (k : Nat) (x : Monitor) : (m.setMonitor k x).sync = m.sync := rfl
@[simp] theorem Part.trips_setMonitor (m : Part) (k : Nat) (x : Monitor) : (m.setMonitor k x).trips = m.trips := rfl
@[simp] theorem Part.pool_setMonitor (m : Part) (k : Nat) (x : Monitor) : (m.setMonitor k x).pool = m.pool := rfl
@[simp] theorem Part.bsl_setMonitor (m : Part) (k : Nat) (x : Monitor) : (m.setMonitor k x).bsl = m.bsl := rfl
@[simp] theorem Part.saf_setMonitor (m : Part) (k : Nat) (x : Monitor) : (m.setMonitor k x).saf = m.saf := rfl
@[simp] theorem Part.flk_setMonitor (m : Part) (k : Nat) (x : Monitor) : (m.setMonitor k x).flk = m.flk := rfl
@[simp] theorem Part.mica_setMonitor (m : Part) (k : Nat) (x : Monitor) : (m.setMonitor k x).mica = m.mica := rfl
@[simp] theorem Part.life_setMonitor (m : Part) (k : Nat) (x : Monitor) : (m.setMonitor k x).life = m.life := rfl
@[simp] theorem Part.clv_setMonitor (m : Part) (k : Nat) (x : Monitor) : (m.setMonitor k x).clv = m.clv := rfl
@[simp] theorem Part.pmb_setMonitor (m : Part) (k : Nat) (x : Monitor) : (m.setMonitor k x).pmb = m.pmb := rfl
@[simp] theorem Part.pmc_setMonitor (m : Part) (k : Nat) (x : Monitor) : (m.setMonitor k x).pmc = m.pmc := rfl
@[simp] theorem Part.lcp_setMonitor (m : Part) (k : Nat) (x : Monitor) : (m.setMonitor k x).lcp = m.lcp := rfl
@[simp] theorem Part.cores_setMonitor (m : Part) (k : Nat) (x : Monitor) : (m.setMonitor k x).cores = m.cores := rfl
@[simp] theorem Part.icu_setMonitor (m : Part) (k : Nat) (x : Monitor) : (m.setMonitor k x).icu = m.icu := rfl
@[simp] theorem Part.timers_setMonitor (m : Part) (k : Nat) (x : Monitor) : (m.setMonitor k x).timers = m.timers := rfl
@[simp] theorem Part.dma_setMonitor (m : Part) (k : Nat) (x : Monitor) : (m.setMonitor k x).dma = m.dma := rfl
@[simp] theorem Part.nvm_setMonitor (m : Part) (k : Nat) (x : Monitor) : (m.setMonitor k x).nvm = m.nvm := rfl
@[simp] theorem Part.sys_setMonitor (m : Part) (k : Nat) (x : Monitor) : (m.setMonitor k x).sys = m.sys := rfl
@[simp] theorem Part.hsp_setMonitor (m : Part) (k : Nat) (x : Monitor) : (m.setMonitor k x).hsp = m.hsp := rfl
@[simp] theorem Part.ydp_setMonitor (m : Part) (k : Nat) (x : Monitor) : (m.setMonitor k x).ydp = m.ydp := rfl
@[simp] theorem Part.tap_setMonitor (m : Part) (k : Nat) (x : Monitor) : (m.setMonitor k x).tap = m.tap := rfl
@[simp] theorem Part.word_setMonitor (m : Part) (a k : Nat) (x : Monitor) : (m.setMonitor k x).word a = m.word a := rfl
@[simp] theorem Part.get_setMonitor (m : Part) (f : FieldAt) (i k : Nat) (x : Monitor) : (m.setMonitor k x).get f i = m.get f i := rfl

@[simp] theorem Part.clvRail_setClvRail_same (m : Part) (k : Nat) (x : CloveRail) : (m.setClvRail k x).clvRail k = x := Store.get_set_same ..
theorem Part.clvRail_setClvRail_other (m : Part) {j k : Nat} (h : j ≠ k) (x : CloveRail) : (m.setClvRail k x).clvRail j = m.clvRail j :=
  Store.get_set_other _ _ _ h _
@[simp] theorem Part.regs_setClvRail (m : Part) (k : Nat) (x : CloveRail) : (m.setClvRail k x).regs = m.regs := rfl
@[simp] theorem Part.tb_setClvRail (m : Part) (k : Nat) (x : CloveRail) : (m.setClvRail k x).tb = m.tb := rfl
@[simp] theorem Part.free_setClvRail (m : Part) (k : Nat) (x : CloveRail) : (m.setClvRail k x).free = m.free := rfl
@[simp] theorem Part.bus_setClvRail (m : Part) (k : Nat) (x : CloveRail) : (m.setClvRail k x).bus = m.bus := rfl
@[simp] theorem Part.holding_setClvRail (m : Part) (k : Nat) (x : CloveRail) : (m.setClvRail k x).holding = m.holding := rfl
@[simp] theorem Part.grn_setClvRail (m : Part) (k : Nat) (x : CloveRail) : (m.setClvRail k x).grn = m.grn := rfl
@[simp] theorem Part.flt_setClvRail (m : Part) (k : Nat) (x : CloveRail) : (m.setClvRail k x).flt = m.flt := rfl
@[simp] theorem Part.pwm_setClvRail (m : Part) (k : Nat) (x : CloveRail) : (m.setClvRail k x).pwm = m.pwm := rfl
@[simp] theorem Part.sync_setClvRail (m : Part) (k : Nat) (x : CloveRail) : (m.setClvRail k x).sync = m.sync := rfl
@[simp] theorem Part.trips_setClvRail (m : Part) (k : Nat) (x : CloveRail) : (m.setClvRail k x).trips = m.trips := rfl
@[simp] theorem Part.pool_setClvRail (m : Part) (k : Nat) (x : CloveRail) : (m.setClvRail k x).pool = m.pool := rfl
@[simp] theorem Part.bsl_setClvRail (m : Part) (k : Nat) (x : CloveRail) : (m.setClvRail k x).bsl = m.bsl := rfl
@[simp] theorem Part.saf_setClvRail (m : Part) (k : Nat) (x : CloveRail) : (m.setClvRail k x).saf = m.saf := rfl
@[simp] theorem Part.flk_setClvRail (m : Part) (k : Nat) (x : CloveRail) : (m.setClvRail k x).flk = m.flk := rfl
@[simp] theorem Part.mica_setClvRail (m : Part) (k : Nat) (x : CloveRail) : (m.setClvRail k x).mica = m.mica := rfl
@[simp] theorem Part.life_setClvRail (m : Part) (k : Nat) (x : CloveRail) : (m.setClvRail k x).life = m.life := rfl
@[simp] theorem Part.adc_setClvRail (m : Part) (k : Nat) (x : CloveRail) : (m.setClvRail k x).adc = m.adc := rfl
@[simp] theorem Part.pmb_setClvRail (m : Part) (k : Nat) (x : CloveRail) : (m.setClvRail k x).pmb = m.pmb := rfl
@[simp] theorem Part.pmc_setClvRail (m : Part) (k : Nat) (x : CloveRail) : (m.setClvRail k x).pmc = m.pmc := rfl
@[simp] theorem Part.lcp_setClvRail (m : Part) (k : Nat) (x : CloveRail) : (m.setClvRail k x).lcp = m.lcp := rfl
@[simp] theorem Part.cores_setClvRail (m : Part) (k : Nat) (x : CloveRail) : (m.setClvRail k x).cores = m.cores := rfl
@[simp] theorem Part.icu_setClvRail (m : Part) (k : Nat) (x : CloveRail) : (m.setClvRail k x).icu = m.icu := rfl
@[simp] theorem Part.timers_setClvRail (m : Part) (k : Nat) (x : CloveRail) : (m.setClvRail k x).timers = m.timers := rfl
@[simp] theorem Part.dma_setClvRail (m : Part) (k : Nat) (x : CloveRail) : (m.setClvRail k x).dma = m.dma := rfl
@[simp] theorem Part.nvm_setClvRail (m : Part) (k : Nat) (x : CloveRail) : (m.setClvRail k x).nvm = m.nvm := rfl
@[simp] theorem Part.sys_setClvRail (m : Part) (k : Nat) (x : CloveRail) : (m.setClvRail k x).sys = m.sys := rfl
@[simp] theorem Part.hsp_setClvRail (m : Part) (k : Nat) (x : CloveRail) : (m.setClvRail k x).hsp = m.hsp := rfl
@[simp] theorem Part.ydp_setClvRail (m : Part) (k : Nat) (x : CloveRail) : (m.setClvRail k x).ydp = m.ydp := rfl
@[simp] theorem Part.tap_setClvRail (m : Part) (k : Nat) (x : CloveRail) : (m.setClvRail k x).tap = m.tap := rfl
@[simp] theorem Part.word_setClvRail (m : Part) (a k : Nat) (x : CloveRail) : (m.setClvRail k x).word a = m.word a := rfl
@[simp] theorem Part.get_setClvRail (m : Part) (f : FieldAt) (i k : Nat) (x : CloveRail) : (m.setClvRail k x).get f i = m.get f i := rfl

@[simp] theorem Part.clvPhase_setClvPhase_same (m : Part) (k : Nat) (x : ClovePhase) : (m.setClvPhase k x).clvPhase k = x := Store.get_set_same ..
theorem Part.clvPhase_setClvPhase_other (m : Part) {j k : Nat} (h : j ≠ k) (x : ClovePhase) : (m.setClvPhase k x).clvPhase j = m.clvPhase j :=
  Store.get_set_other _ _ _ h _
@[simp] theorem Part.regs_setClvPhase (m : Part) (k : Nat) (x : ClovePhase) : (m.setClvPhase k x).regs = m.regs := rfl
@[simp] theorem Part.tb_setClvPhase (m : Part) (k : Nat) (x : ClovePhase) : (m.setClvPhase k x).tb = m.tb := rfl
@[simp] theorem Part.free_setClvPhase (m : Part) (k : Nat) (x : ClovePhase) : (m.setClvPhase k x).free = m.free := rfl
@[simp] theorem Part.bus_setClvPhase (m : Part) (k : Nat) (x : ClovePhase) : (m.setClvPhase k x).bus = m.bus := rfl
@[simp] theorem Part.holding_setClvPhase (m : Part) (k : Nat) (x : ClovePhase) : (m.setClvPhase k x).holding = m.holding := rfl
@[simp] theorem Part.grn_setClvPhase (m : Part) (k : Nat) (x : ClovePhase) : (m.setClvPhase k x).grn = m.grn := rfl
@[simp] theorem Part.flt_setClvPhase (m : Part) (k : Nat) (x : ClovePhase) : (m.setClvPhase k x).flt = m.flt := rfl
@[simp] theorem Part.pwm_setClvPhase (m : Part) (k : Nat) (x : ClovePhase) : (m.setClvPhase k x).pwm = m.pwm := rfl
@[simp] theorem Part.sync_setClvPhase (m : Part) (k : Nat) (x : ClovePhase) : (m.setClvPhase k x).sync = m.sync := rfl
@[simp] theorem Part.trips_setClvPhase (m : Part) (k : Nat) (x : ClovePhase) : (m.setClvPhase k x).trips = m.trips := rfl
@[simp] theorem Part.pool_setClvPhase (m : Part) (k : Nat) (x : ClovePhase) : (m.setClvPhase k x).pool = m.pool := rfl
@[simp] theorem Part.bsl_setClvPhase (m : Part) (k : Nat) (x : ClovePhase) : (m.setClvPhase k x).bsl = m.bsl := rfl
@[simp] theorem Part.saf_setClvPhase (m : Part) (k : Nat) (x : ClovePhase) : (m.setClvPhase k x).saf = m.saf := rfl
@[simp] theorem Part.flk_setClvPhase (m : Part) (k : Nat) (x : ClovePhase) : (m.setClvPhase k x).flk = m.flk := rfl
@[simp] theorem Part.mica_setClvPhase (m : Part) (k : Nat) (x : ClovePhase) : (m.setClvPhase k x).mica = m.mica := rfl
@[simp] theorem Part.life_setClvPhase (m : Part) (k : Nat) (x : ClovePhase) : (m.setClvPhase k x).life = m.life := rfl
@[simp] theorem Part.adc_setClvPhase (m : Part) (k : Nat) (x : ClovePhase) : (m.setClvPhase k x).adc = m.adc := rfl
@[simp] theorem Part.pmb_setClvPhase (m : Part) (k : Nat) (x : ClovePhase) : (m.setClvPhase k x).pmb = m.pmb := rfl
@[simp] theorem Part.pmc_setClvPhase (m : Part) (k : Nat) (x : ClovePhase) : (m.setClvPhase k x).pmc = m.pmc := rfl
@[simp] theorem Part.lcp_setClvPhase (m : Part) (k : Nat) (x : ClovePhase) : (m.setClvPhase k x).lcp = m.lcp := rfl
@[simp] theorem Part.cores_setClvPhase (m : Part) (k : Nat) (x : ClovePhase) : (m.setClvPhase k x).cores = m.cores := rfl
@[simp] theorem Part.icu_setClvPhase (m : Part) (k : Nat) (x : ClovePhase) : (m.setClvPhase k x).icu = m.icu := rfl
@[simp] theorem Part.timers_setClvPhase (m : Part) (k : Nat) (x : ClovePhase) : (m.setClvPhase k x).timers = m.timers := rfl
@[simp] theorem Part.dma_setClvPhase (m : Part) (k : Nat) (x : ClovePhase) : (m.setClvPhase k x).dma = m.dma := rfl
@[simp] theorem Part.nvm_setClvPhase (m : Part) (k : Nat) (x : ClovePhase) : (m.setClvPhase k x).nvm = m.nvm := rfl
@[simp] theorem Part.sys_setClvPhase (m : Part) (k : Nat) (x : ClovePhase) : (m.setClvPhase k x).sys = m.sys := rfl
@[simp] theorem Part.hsp_setClvPhase (m : Part) (k : Nat) (x : ClovePhase) : (m.setClvPhase k x).hsp = m.hsp := rfl
@[simp] theorem Part.ydp_setClvPhase (m : Part) (k : Nat) (x : ClovePhase) : (m.setClvPhase k x).ydp = m.ydp := rfl
@[simp] theorem Part.tap_setClvPhase (m : Part) (k : Nat) (x : ClovePhase) : (m.setClvPhase k x).tap = m.tap := rfl
@[simp] theorem Part.word_setClvPhase (m : Part) (a k : Nat) (x : ClovePhase) : (m.setClvPhase k x).word a = m.word a := rfl
@[simp] theorem Part.get_setClvPhase (m : Part) (f : FieldAt) (i k : Nat) (x : ClovePhase) : (m.setClvPhase k x).get f i = m.get f i := rfl

@[simp] theorem Part.dmaChan_setDma_same (m : Part) (k : Nat) (x : DmaChan) : (m.setDma k x).dmaChan k = x := Store.get_set_same ..
theorem Part.dmaChan_setDma_other (m : Part) {j k : Nat} (h : j ≠ k) (x : DmaChan) : (m.setDma k x).dmaChan j = m.dmaChan j :=
  Store.get_set_other _ _ _ h _
@[simp] theorem Part.regs_setDma (m : Part) (k : Nat) (x : DmaChan) : (m.setDma k x).regs = m.regs := rfl
@[simp] theorem Part.tb_setDma (m : Part) (k : Nat) (x : DmaChan) : (m.setDma k x).tb = m.tb := rfl
@[simp] theorem Part.free_setDma (m : Part) (k : Nat) (x : DmaChan) : (m.setDma k x).free = m.free := rfl
@[simp] theorem Part.bus_setDma (m : Part) (k : Nat) (x : DmaChan) : (m.setDma k x).bus = m.bus := rfl
@[simp] theorem Part.holding_setDma (m : Part) (k : Nat) (x : DmaChan) : (m.setDma k x).holding = m.holding := rfl
@[simp] theorem Part.grn_setDma (m : Part) (k : Nat) (x : DmaChan) : (m.setDma k x).grn = m.grn := rfl
@[simp] theorem Part.flt_setDma (m : Part) (k : Nat) (x : DmaChan) : (m.setDma k x).flt = m.flt := rfl
@[simp] theorem Part.pwm_setDma (m : Part) (k : Nat) (x : DmaChan) : (m.setDma k x).pwm = m.pwm := rfl
@[simp] theorem Part.sync_setDma (m : Part) (k : Nat) (x : DmaChan) : (m.setDma k x).sync = m.sync := rfl
@[simp] theorem Part.trips_setDma (m : Part) (k : Nat) (x : DmaChan) : (m.setDma k x).trips = m.trips := rfl
@[simp] theorem Part.pool_setDma (m : Part) (k : Nat) (x : DmaChan) : (m.setDma k x).pool = m.pool := rfl
@[simp] theorem Part.bsl_setDma (m : Part) (k : Nat) (x : DmaChan) : (m.setDma k x).bsl = m.bsl := rfl
@[simp] theorem Part.saf_setDma (m : Part) (k : Nat) (x : DmaChan) : (m.setDma k x).saf = m.saf := rfl
@[simp] theorem Part.flk_setDma (m : Part) (k : Nat) (x : DmaChan) : (m.setDma k x).flk = m.flk := rfl
@[simp] theorem Part.mica_setDma (m : Part) (k : Nat) (x : DmaChan) : (m.setDma k x).mica = m.mica := rfl
@[simp] theorem Part.life_setDma (m : Part) (k : Nat) (x : DmaChan) : (m.setDma k x).life = m.life := rfl
@[simp] theorem Part.clv_setDma (m : Part) (k : Nat) (x : DmaChan) : (m.setDma k x).clv = m.clv := rfl
@[simp] theorem Part.adc_setDma (m : Part) (k : Nat) (x : DmaChan) : (m.setDma k x).adc = m.adc := rfl
@[simp] theorem Part.pmb_setDma (m : Part) (k : Nat) (x : DmaChan) : (m.setDma k x).pmb = m.pmb := rfl
@[simp] theorem Part.pmc_setDma (m : Part) (k : Nat) (x : DmaChan) : (m.setDma k x).pmc = m.pmc := rfl
@[simp] theorem Part.lcp_setDma (m : Part) (k : Nat) (x : DmaChan) : (m.setDma k x).lcp = m.lcp := rfl
@[simp] theorem Part.cores_setDma (m : Part) (k : Nat) (x : DmaChan) : (m.setDma k x).cores = m.cores := rfl
@[simp] theorem Part.icu_setDma (m : Part) (k : Nat) (x : DmaChan) : (m.setDma k x).icu = m.icu := rfl
@[simp] theorem Part.timers_setDma (m : Part) (k : Nat) (x : DmaChan) : (m.setDma k x).timers = m.timers := rfl
@[simp] theorem Part.nvm_setDma (m : Part) (k : Nat) (x : DmaChan) : (m.setDma k x).nvm = m.nvm := rfl
@[simp] theorem Part.sys_setDma (m : Part) (k : Nat) (x : DmaChan) : (m.setDma k x).sys = m.sys := rfl
@[simp] theorem Part.hsp_setDma (m : Part) (k : Nat) (x : DmaChan) : (m.setDma k x).hsp = m.hsp := rfl
@[simp] theorem Part.ydp_setDma (m : Part) (k : Nat) (x : DmaChan) : (m.setDma k x).ydp = m.ydp := rfl
@[simp] theorem Part.tap_setDma (m : Part) (k : Nat) (x : DmaChan) : (m.setDma k x).tap = m.tap := rfl
@[simp] theorem Part.word_setDma (m : Part) (a k : Nat) (x : DmaChan) : (m.setDma k x).word a = m.word a := rfl
@[simp] theorem Part.get_setDma (m : Part) (f : FieldAt) (i k : Nat) (x : DmaChan) : (m.setDma k x).get f i = m.get f i := rfl

@[simp] theorem Part.flkLane_setFlkLane_same (m : Part) (k : Nat) (x : FlkLane) : (m.setFlkLane k x).flkLane k = x := Store.get_set_same ..
theorem Part.flkLane_setFlkLane_other (m : Part) {j k : Nat} (h : j ≠ k) (x : FlkLane) : (m.setFlkLane k x).flkLane j = m.flkLane j :=
  Store.get_set_other _ _ _ h _
@[simp] theorem Part.regs_setFlkLane (m : Part) (k : Nat) (x : FlkLane) : (m.setFlkLane k x).regs = m.regs := rfl
@[simp] theorem Part.tb_setFlkLane (m : Part) (k : Nat) (x : FlkLane) : (m.setFlkLane k x).tb = m.tb := rfl
@[simp] theorem Part.free_setFlkLane (m : Part) (k : Nat) (x : FlkLane) : (m.setFlkLane k x).free = m.free := rfl
@[simp] theorem Part.bus_setFlkLane (m : Part) (k : Nat) (x : FlkLane) : (m.setFlkLane k x).bus = m.bus := rfl
@[simp] theorem Part.holding_setFlkLane (m : Part) (k : Nat) (x : FlkLane) : (m.setFlkLane k x).holding = m.holding := rfl
@[simp] theorem Part.grn_setFlkLane (m : Part) (k : Nat) (x : FlkLane) : (m.setFlkLane k x).grn = m.grn := rfl
@[simp] theorem Part.flt_setFlkLane (m : Part) (k : Nat) (x : FlkLane) : (m.setFlkLane k x).flt = m.flt := rfl
@[simp] theorem Part.pwm_setFlkLane (m : Part) (k : Nat) (x : FlkLane) : (m.setFlkLane k x).pwm = m.pwm := rfl
@[simp] theorem Part.sync_setFlkLane (m : Part) (k : Nat) (x : FlkLane) : (m.setFlkLane k x).sync = m.sync := rfl
@[simp] theorem Part.trips_setFlkLane (m : Part) (k : Nat) (x : FlkLane) : (m.setFlkLane k x).trips = m.trips := rfl
@[simp] theorem Part.pool_setFlkLane (m : Part) (k : Nat) (x : FlkLane) : (m.setFlkLane k x).pool = m.pool := rfl
@[simp] theorem Part.bsl_setFlkLane (m : Part) (k : Nat) (x : FlkLane) : (m.setFlkLane k x).bsl = m.bsl := rfl
@[simp] theorem Part.saf_setFlkLane (m : Part) (k : Nat) (x : FlkLane) : (m.setFlkLane k x).saf = m.saf := rfl
@[simp] theorem Part.mica_setFlkLane (m : Part) (k : Nat) (x : FlkLane) : (m.setFlkLane k x).mica = m.mica := rfl
@[simp] theorem Part.life_setFlkLane (m : Part) (k : Nat) (x : FlkLane) : (m.setFlkLane k x).life = m.life := rfl
@[simp] theorem Part.clv_setFlkLane (m : Part) (k : Nat) (x : FlkLane) : (m.setFlkLane k x).clv = m.clv := rfl
@[simp] theorem Part.adc_setFlkLane (m : Part) (k : Nat) (x : FlkLane) : (m.setFlkLane k x).adc = m.adc := rfl
@[simp] theorem Part.pmb_setFlkLane (m : Part) (k : Nat) (x : FlkLane) : (m.setFlkLane k x).pmb = m.pmb := rfl
@[simp] theorem Part.pmc_setFlkLane (m : Part) (k : Nat) (x : FlkLane) : (m.setFlkLane k x).pmc = m.pmc := rfl
@[simp] theorem Part.lcp_setFlkLane (m : Part) (k : Nat) (x : FlkLane) : (m.setFlkLane k x).lcp = m.lcp := rfl
@[simp] theorem Part.cores_setFlkLane (m : Part) (k : Nat) (x : FlkLane) : (m.setFlkLane k x).cores = m.cores := rfl
@[simp] theorem Part.icu_setFlkLane (m : Part) (k : Nat) (x : FlkLane) : (m.setFlkLane k x).icu = m.icu := rfl
@[simp] theorem Part.timers_setFlkLane (m : Part) (k : Nat) (x : FlkLane) : (m.setFlkLane k x).timers = m.timers := rfl
@[simp] theorem Part.dma_setFlkLane (m : Part) (k : Nat) (x : FlkLane) : (m.setFlkLane k x).dma = m.dma := rfl
@[simp] theorem Part.nvm_setFlkLane (m : Part) (k : Nat) (x : FlkLane) : (m.setFlkLane k x).nvm = m.nvm := rfl
@[simp] theorem Part.sys_setFlkLane (m : Part) (k : Nat) (x : FlkLane) : (m.setFlkLane k x).sys = m.sys := rfl
@[simp] theorem Part.hsp_setFlkLane (m : Part) (k : Nat) (x : FlkLane) : (m.setFlkLane k x).hsp = m.hsp := rfl
@[simp] theorem Part.ydp_setFlkLane (m : Part) (k : Nat) (x : FlkLane) : (m.setFlkLane k x).ydp = m.ydp := rfl
@[simp] theorem Part.tap_setFlkLane (m : Part) (k : Nat) (x : FlkLane) : (m.setFlkLane k x).tap = m.tap := rfl
@[simp] theorem Part.word_setFlkLane (m : Part) (a k : Nat) (x : FlkLane) : (m.setFlkLane k x).word a = m.word a := rfl
@[simp] theorem Part.get_setFlkLane (m : Part) (f : FieldAt) (i k : Nat) (x : FlkLane) : (m.setFlkLane k x).get f i = m.get f i := rfl

@[simp] theorem Part.stageCfg_setStageCfg_same (m : Part) (k : Nat) (x : Option StageCfg) : (m.setStageCfg k x).stageCfg k = x := Store.get_set_same ..
theorem Part.stageCfg_setStageCfg_other (m : Part) {j k : Nat} (h : j ≠ k) (x : Option StageCfg) : (m.setStageCfg k x).stageCfg j = m.stageCfg j :=
  Store.get_set_other _ _ _ h _
@[simp] theorem Part.regs_setStageCfg (m : Part) (k : Nat) (x : Option StageCfg) : (m.setStageCfg k x).regs = m.regs := rfl
@[simp] theorem Part.tb_setStageCfg (m : Part) (k : Nat) (x : Option StageCfg) : (m.setStageCfg k x).tb = m.tb := rfl
@[simp] theorem Part.free_setStageCfg (m : Part) (k : Nat) (x : Option StageCfg) : (m.setStageCfg k x).free = m.free := rfl
@[simp] theorem Part.bus_setStageCfg (m : Part) (k : Nat) (x : Option StageCfg) : (m.setStageCfg k x).bus = m.bus := rfl
@[simp] theorem Part.holding_setStageCfg (m : Part) (k : Nat) (x : Option StageCfg) : (m.setStageCfg k x).holding = m.holding := rfl
@[simp] theorem Part.grn_setStageCfg (m : Part) (k : Nat) (x : Option StageCfg) : (m.setStageCfg k x).grn = m.grn := rfl
@[simp] theorem Part.flt_setStageCfg (m : Part) (k : Nat) (x : Option StageCfg) : (m.setStageCfg k x).flt = m.flt := rfl
@[simp] theorem Part.pwm_setStageCfg (m : Part) (k : Nat) (x : Option StageCfg) : (m.setStageCfg k x).pwm = m.pwm := rfl
@[simp] theorem Part.sync_setStageCfg (m : Part) (k : Nat) (x : Option StageCfg) : (m.setStageCfg k x).sync = m.sync := rfl
@[simp] theorem Part.trips_setStageCfg (m : Part) (k : Nat) (x : Option StageCfg) : (m.setStageCfg k x).trips = m.trips := rfl
@[simp] theorem Part.pool_setStageCfg (m : Part) (k : Nat) (x : Option StageCfg) : (m.setStageCfg k x).pool = m.pool := rfl
@[simp] theorem Part.bsl_setStageCfg (m : Part) (k : Nat) (x : Option StageCfg) : (m.setStageCfg k x).bsl = m.bsl := rfl
@[simp] theorem Part.saf_setStageCfg (m : Part) (k : Nat) (x : Option StageCfg) : (m.setStageCfg k x).saf = m.saf := rfl
@[simp] theorem Part.mica_setStageCfg (m : Part) (k : Nat) (x : Option StageCfg) : (m.setStageCfg k x).mica = m.mica := rfl
@[simp] theorem Part.life_setStageCfg (m : Part) (k : Nat) (x : Option StageCfg) : (m.setStageCfg k x).life = m.life := rfl
@[simp] theorem Part.clv_setStageCfg (m : Part) (k : Nat) (x : Option StageCfg) : (m.setStageCfg k x).clv = m.clv := rfl
@[simp] theorem Part.adc_setStageCfg (m : Part) (k : Nat) (x : Option StageCfg) : (m.setStageCfg k x).adc = m.adc := rfl
@[simp] theorem Part.pmb_setStageCfg (m : Part) (k : Nat) (x : Option StageCfg) : (m.setStageCfg k x).pmb = m.pmb := rfl
@[simp] theorem Part.pmc_setStageCfg (m : Part) (k : Nat) (x : Option StageCfg) : (m.setStageCfg k x).pmc = m.pmc := rfl
@[simp] theorem Part.lcp_setStageCfg (m : Part) (k : Nat) (x : Option StageCfg) : (m.setStageCfg k x).lcp = m.lcp := rfl
@[simp] theorem Part.cores_setStageCfg (m : Part) (k : Nat) (x : Option StageCfg) : (m.setStageCfg k x).cores = m.cores := rfl
@[simp] theorem Part.icu_setStageCfg (m : Part) (k : Nat) (x : Option StageCfg) : (m.setStageCfg k x).icu = m.icu := rfl
@[simp] theorem Part.timers_setStageCfg (m : Part) (k : Nat) (x : Option StageCfg) : (m.setStageCfg k x).timers = m.timers := rfl
@[simp] theorem Part.dma_setStageCfg (m : Part) (k : Nat) (x : Option StageCfg) : (m.setStageCfg k x).dma = m.dma := rfl
@[simp] theorem Part.nvm_setStageCfg (m : Part) (k : Nat) (x : Option StageCfg) : (m.setStageCfg k x).nvm = m.nvm := rfl
@[simp] theorem Part.sys_setStageCfg (m : Part) (k : Nat) (x : Option StageCfg) : (m.setStageCfg k x).sys = m.sys := rfl
@[simp] theorem Part.hsp_setStageCfg (m : Part) (k : Nat) (x : Option StageCfg) : (m.setStageCfg k x).hsp = m.hsp := rfl
@[simp] theorem Part.ydp_setStageCfg (m : Part) (k : Nat) (x : Option StageCfg) : (m.setStageCfg k x).ydp = m.ydp := rfl
@[simp] theorem Part.tap_setStageCfg (m : Part) (k : Nat) (x : Option StageCfg) : (m.setStageCfg k x).tap = m.tap := rfl
@[simp] theorem Part.word_setStageCfg (m : Part) (a k : Nat) (x : Option StageCfg) : (m.setStageCfg k x).word a = m.word a := rfl
@[simp] theorem Part.get_setStageCfg (m : Part) (f : FieldAt) (i k : Nat) (x : Option StageCfg) : (m.setStageCfg k x).get f i = m.get f i := rfl

@[simp] theorem Part.core_setCore_same (m : Part) (k : Nat) (x : Core) : (m.setCore k x).core k = x := Store.get_set_same ..
theorem Part.core_setCore_other (m : Part) {j k : Nat} (h : j ≠ k) (x : Core) : (m.setCore k x).core j = m.core j :=
  Store.get_set_other _ _ _ h _
@[simp] theorem Part.regs_setCore (m : Part) (k : Nat) (x : Core) : (m.setCore k x).regs = m.regs := rfl
@[simp] theorem Part.tb_setCore (m : Part) (k : Nat) (x : Core) : (m.setCore k x).tb = m.tb := rfl
@[simp] theorem Part.free_setCore (m : Part) (k : Nat) (x : Core) : (m.setCore k x).free = m.free := rfl
@[simp] theorem Part.bus_setCore (m : Part) (k : Nat) (x : Core) : (m.setCore k x).bus = m.bus := rfl
@[simp] theorem Part.holding_setCore (m : Part) (k : Nat) (x : Core) : (m.setCore k x).holding = m.holding := rfl
@[simp] theorem Part.grn_setCore (m : Part) (k : Nat) (x : Core) : (m.setCore k x).grn = m.grn := rfl
@[simp] theorem Part.flt_setCore (m : Part) (k : Nat) (x : Core) : (m.setCore k x).flt = m.flt := rfl
@[simp] theorem Part.pwm_setCore (m : Part) (k : Nat) (x : Core) : (m.setCore k x).pwm = m.pwm := rfl
@[simp] theorem Part.sync_setCore (m : Part) (k : Nat) (x : Core) : (m.setCore k x).sync = m.sync := rfl
@[simp] theorem Part.trips_setCore (m : Part) (k : Nat) (x : Core) : (m.setCore k x).trips = m.trips := rfl
@[simp] theorem Part.pool_setCore (m : Part) (k : Nat) (x : Core) : (m.setCore k x).pool = m.pool := rfl
@[simp] theorem Part.bsl_setCore (m : Part) (k : Nat) (x : Core) : (m.setCore k x).bsl = m.bsl := rfl
@[simp] theorem Part.saf_setCore (m : Part) (k : Nat) (x : Core) : (m.setCore k x).saf = m.saf := rfl
@[simp] theorem Part.flk_setCore (m : Part) (k : Nat) (x : Core) : (m.setCore k x).flk = m.flk := rfl
@[simp] theorem Part.mica_setCore (m : Part) (k : Nat) (x : Core) : (m.setCore k x).mica = m.mica := rfl
@[simp] theorem Part.life_setCore (m : Part) (k : Nat) (x : Core) : (m.setCore k x).life = m.life := rfl
@[simp] theorem Part.clv_setCore (m : Part) (k : Nat) (x : Core) : (m.setCore k x).clv = m.clv := rfl
@[simp] theorem Part.adc_setCore (m : Part) (k : Nat) (x : Core) : (m.setCore k x).adc = m.adc := rfl
@[simp] theorem Part.pmb_setCore (m : Part) (k : Nat) (x : Core) : (m.setCore k x).pmb = m.pmb := rfl
@[simp] theorem Part.pmc_setCore (m : Part) (k : Nat) (x : Core) : (m.setCore k x).pmc = m.pmc := rfl
@[simp] theorem Part.lcp_setCore (m : Part) (k : Nat) (x : Core) : (m.setCore k x).lcp = m.lcp := rfl
@[simp] theorem Part.icu_setCore (m : Part) (k : Nat) (x : Core) : (m.setCore k x).icu = m.icu := rfl
@[simp] theorem Part.timers_setCore (m : Part) (k : Nat) (x : Core) : (m.setCore k x).timers = m.timers := rfl
@[simp] theorem Part.dma_setCore (m : Part) (k : Nat) (x : Core) : (m.setCore k x).dma = m.dma := rfl
@[simp] theorem Part.nvm_setCore (m : Part) (k : Nat) (x : Core) : (m.setCore k x).nvm = m.nvm := rfl
@[simp] theorem Part.sys_setCore (m : Part) (k : Nat) (x : Core) : (m.setCore k x).sys = m.sys := rfl
@[simp] theorem Part.hsp_setCore (m : Part) (k : Nat) (x : Core) : (m.setCore k x).hsp = m.hsp := rfl
@[simp] theorem Part.ydp_setCore (m : Part) (k : Nat) (x : Core) : (m.setCore k x).ydp = m.ydp := rfl
@[simp] theorem Part.tap_setCore (m : Part) (k : Nat) (x : Core) : (m.setCore k x).tap = m.tap := rfl
@[simp] theorem Part.word_setCore (m : Part) (a k : Nat) (x : Core) : (m.setCore k x).word a = m.word a := rfl
@[simp] theorem Part.get_setCore (m : Part) (f : FieldAt) (i k : Nat) (x : Core) : (m.setCore k x).get f i = m.get f i := rfl

@[simp] theorem Part.lcpPort_setLcpPort_same (m : Part) (k : Nat) (x : LcpPort) : (m.setLcpPort k x).lcpPort k = x := Store.get_set_same ..
theorem Part.lcpPort_setLcpPort_other (m : Part) {j k : Nat} (h : j ≠ k) (x : LcpPort) : (m.setLcpPort k x).lcpPort j = m.lcpPort j :=
  Store.get_set_other _ _ _ h _
@[simp] theorem Part.regs_setLcpPort (m : Part) (k : Nat) (x : LcpPort) : (m.setLcpPort k x).regs = m.regs := rfl
@[simp] theorem Part.tb_setLcpPort (m : Part) (k : Nat) (x : LcpPort) : (m.setLcpPort k x).tb = m.tb := rfl
@[simp] theorem Part.free_setLcpPort (m : Part) (k : Nat) (x : LcpPort) : (m.setLcpPort k x).free = m.free := rfl
@[simp] theorem Part.bus_setLcpPort (m : Part) (k : Nat) (x : LcpPort) : (m.setLcpPort k x).bus = m.bus := rfl
@[simp] theorem Part.holding_setLcpPort (m : Part) (k : Nat) (x : LcpPort) : (m.setLcpPort k x).holding = m.holding := rfl
@[simp] theorem Part.grn_setLcpPort (m : Part) (k : Nat) (x : LcpPort) : (m.setLcpPort k x).grn = m.grn := rfl
@[simp] theorem Part.flt_setLcpPort (m : Part) (k : Nat) (x : LcpPort) : (m.setLcpPort k x).flt = m.flt := rfl
@[simp] theorem Part.pwm_setLcpPort (m : Part) (k : Nat) (x : LcpPort) : (m.setLcpPort k x).pwm = m.pwm := rfl
@[simp] theorem Part.sync_setLcpPort (m : Part) (k : Nat) (x : LcpPort) : (m.setLcpPort k x).sync = m.sync := rfl
@[simp] theorem Part.trips_setLcpPort (m : Part) (k : Nat) (x : LcpPort) : (m.setLcpPort k x).trips = m.trips := rfl
@[simp] theorem Part.pool_setLcpPort (m : Part) (k : Nat) (x : LcpPort) : (m.setLcpPort k x).pool = m.pool := rfl
@[simp] theorem Part.bsl_setLcpPort (m : Part) (k : Nat) (x : LcpPort) : (m.setLcpPort k x).bsl = m.bsl := rfl
@[simp] theorem Part.saf_setLcpPort (m : Part) (k : Nat) (x : LcpPort) : (m.setLcpPort k x).saf = m.saf := rfl
@[simp] theorem Part.flk_setLcpPort (m : Part) (k : Nat) (x : LcpPort) : (m.setLcpPort k x).flk = m.flk := rfl
@[simp] theorem Part.mica_setLcpPort (m : Part) (k : Nat) (x : LcpPort) : (m.setLcpPort k x).mica = m.mica := rfl
@[simp] theorem Part.life_setLcpPort (m : Part) (k : Nat) (x : LcpPort) : (m.setLcpPort k x).life = m.life := rfl
@[simp] theorem Part.clv_setLcpPort (m : Part) (k : Nat) (x : LcpPort) : (m.setLcpPort k x).clv = m.clv := rfl
@[simp] theorem Part.adc_setLcpPort (m : Part) (k : Nat) (x : LcpPort) : (m.setLcpPort k x).adc = m.adc := rfl
@[simp] theorem Part.pmb_setLcpPort (m : Part) (k : Nat) (x : LcpPort) : (m.setLcpPort k x).pmb = m.pmb := rfl
@[simp] theorem Part.pmc_setLcpPort (m : Part) (k : Nat) (x : LcpPort) : (m.setLcpPort k x).pmc = m.pmc := rfl
@[simp] theorem Part.cores_setLcpPort (m : Part) (k : Nat) (x : LcpPort) : (m.setLcpPort k x).cores = m.cores := rfl
@[simp] theorem Part.icu_setLcpPort (m : Part) (k : Nat) (x : LcpPort) : (m.setLcpPort k x).icu = m.icu := rfl
@[simp] theorem Part.timers_setLcpPort (m : Part) (k : Nat) (x : LcpPort) : (m.setLcpPort k x).timers = m.timers := rfl
@[simp] theorem Part.dma_setLcpPort (m : Part) (k : Nat) (x : LcpPort) : (m.setLcpPort k x).dma = m.dma := rfl
@[simp] theorem Part.nvm_setLcpPort (m : Part) (k : Nat) (x : LcpPort) : (m.setLcpPort k x).nvm = m.nvm := rfl
@[simp] theorem Part.sys_setLcpPort (m : Part) (k : Nat) (x : LcpPort) : (m.setLcpPort k x).sys = m.sys := rfl
@[simp] theorem Part.hsp_setLcpPort (m : Part) (k : Nat) (x : LcpPort) : (m.setLcpPort k x).hsp = m.hsp := rfl
@[simp] theorem Part.ydp_setLcpPort (m : Part) (k : Nat) (x : LcpPort) : (m.setLcpPort k x).ydp = m.ydp := rfl
@[simp] theorem Part.tap_setLcpPort (m : Part) (k : Nat) (x : LcpPort) : (m.setLcpPort k x).tap = m.tap := rfl
@[simp] theorem Part.word_setLcpPort (m : Part) (a k : Nat) (x : LcpPort) : (m.setLcpPort k x).word a = m.word a := rfl
@[simp] theorem Part.get_setLcpPort (m : Part) (f : FieldAt) (i k : Nat) (x : LcpPort) : (m.setLcpPort k x).get f i = m.get f i := rfl

@[simp] theorem Part.audPort_setAudPort_same (m : Part) (k : Nat) (x : AudPort) : (m.setAudPort k x).audPort k = x := Store.get_set_same ..
theorem Part.audPort_setAudPort_other (m : Part) {j k : Nat} (h : j ≠ k) (x : AudPort) : (m.setAudPort k x).audPort j = m.audPort j :=
  Store.get_set_other _ _ _ h _
@[simp] theorem Part.regs_setAudPort (m : Part) (k : Nat) (x : AudPort) : (m.setAudPort k x).regs = m.regs := rfl
@[simp] theorem Part.tb_setAudPort (m : Part) (k : Nat) (x : AudPort) : (m.setAudPort k x).tb = m.tb := rfl
@[simp] theorem Part.free_setAudPort (m : Part) (k : Nat) (x : AudPort) : (m.setAudPort k x).free = m.free := rfl
@[simp] theorem Part.bus_setAudPort (m : Part) (k : Nat) (x : AudPort) : (m.setAudPort k x).bus = m.bus := rfl
@[simp] theorem Part.holding_setAudPort (m : Part) (k : Nat) (x : AudPort) : (m.setAudPort k x).holding = m.holding := rfl
@[simp] theorem Part.grn_setAudPort (m : Part) (k : Nat) (x : AudPort) : (m.setAudPort k x).grn = m.grn := rfl
@[simp] theorem Part.flt_setAudPort (m : Part) (k : Nat) (x : AudPort) : (m.setAudPort k x).flt = m.flt := rfl
@[simp] theorem Part.pwm_setAudPort (m : Part) (k : Nat) (x : AudPort) : (m.setAudPort k x).pwm = m.pwm := rfl
@[simp] theorem Part.sync_setAudPort (m : Part) (k : Nat) (x : AudPort) : (m.setAudPort k x).sync = m.sync := rfl
@[simp] theorem Part.trips_setAudPort (m : Part) (k : Nat) (x : AudPort) : (m.setAudPort k x).trips = m.trips := rfl
@[simp] theorem Part.pool_setAudPort (m : Part) (k : Nat) (x : AudPort) : (m.setAudPort k x).pool = m.pool := rfl
@[simp] theorem Part.bsl_setAudPort (m : Part) (k : Nat) (x : AudPort) : (m.setAudPort k x).bsl = m.bsl := rfl
@[simp] theorem Part.flk_setAudPort (m : Part) (k : Nat) (x : AudPort) : (m.setAudPort k x).flk = m.flk := rfl
@[simp] theorem Part.mica_setAudPort (m : Part) (k : Nat) (x : AudPort) : (m.setAudPort k x).mica = m.mica := rfl
@[simp] theorem Part.life_setAudPort (m : Part) (k : Nat) (x : AudPort) : (m.setAudPort k x).life = m.life := rfl
@[simp] theorem Part.clv_setAudPort (m : Part) (k : Nat) (x : AudPort) : (m.setAudPort k x).clv = m.clv := rfl
@[simp] theorem Part.adc_setAudPort (m : Part) (k : Nat) (x : AudPort) : (m.setAudPort k x).adc = m.adc := rfl
@[simp] theorem Part.pmb_setAudPort (m : Part) (k : Nat) (x : AudPort) : (m.setAudPort k x).pmb = m.pmb := rfl
@[simp] theorem Part.pmc_setAudPort (m : Part) (k : Nat) (x : AudPort) : (m.setAudPort k x).pmc = m.pmc := rfl
@[simp] theorem Part.lcp_setAudPort (m : Part) (k : Nat) (x : AudPort) : (m.setAudPort k x).lcp = m.lcp := rfl
@[simp] theorem Part.cores_setAudPort (m : Part) (k : Nat) (x : AudPort) : (m.setAudPort k x).cores = m.cores := rfl
@[simp] theorem Part.icu_setAudPort (m : Part) (k : Nat) (x : AudPort) : (m.setAudPort k x).icu = m.icu := rfl
@[simp] theorem Part.timers_setAudPort (m : Part) (k : Nat) (x : AudPort) : (m.setAudPort k x).timers = m.timers := rfl
@[simp] theorem Part.dma_setAudPort (m : Part) (k : Nat) (x : AudPort) : (m.setAudPort k x).dma = m.dma := rfl
@[simp] theorem Part.nvm_setAudPort (m : Part) (k : Nat) (x : AudPort) : (m.setAudPort k x).nvm = m.nvm := rfl
@[simp] theorem Part.sys_setAudPort (m : Part) (k : Nat) (x : AudPort) : (m.setAudPort k x).sys = m.sys := rfl
@[simp] theorem Part.hsp_setAudPort (m : Part) (k : Nat) (x : AudPort) : (m.setAudPort k x).hsp = m.hsp := rfl
@[simp] theorem Part.ydp_setAudPort (m : Part) (k : Nat) (x : AudPort) : (m.setAudPort k x).ydp = m.ydp := rfl
@[simp] theorem Part.tap_setAudPort (m : Part) (k : Nat) (x : AudPort) : (m.setAudPort k x).tap = m.tap := rfl
@[simp] theorem Part.word_setAudPort (m : Part) (a k : Nat) (x : AudPort) : (m.setAudPort k x).word a = m.word a := rfl
@[simp] theorem Part.get_setAudPort (m : Part) (f : FieldAt) (i k : Nat) (x : AudPort) : (m.setAudPort k x).get f i = m.get f i := rfl

@[simp] theorem Part.regs_setPmb (m : Part) (x : Pmb) : (m.setPmb x).regs = m.regs := rfl
@[simp] theorem Part.tb_setPmb (m : Part) (x : Pmb) : (m.setPmb x).tb = m.tb := rfl
@[simp] theorem Part.free_setPmb (m : Part) (x : Pmb) : (m.setPmb x).free = m.free := rfl
@[simp] theorem Part.bus_setPmb (m : Part) (x : Pmb) : (m.setPmb x).bus = m.bus := rfl
@[simp] theorem Part.holding_setPmb (m : Part) (x : Pmb) : (m.setPmb x).holding = m.holding := rfl
@[simp] theorem Part.grn_setPmb (m : Part) (x : Pmb) : (m.setPmb x).grn = m.grn := rfl
@[simp] theorem Part.flt_setPmb (m : Part) (x : Pmb) : (m.setPmb x).flt = m.flt := rfl
@[simp] theorem Part.pwm_setPmb (m : Part) (x : Pmb) : (m.setPmb x).pwm = m.pwm := rfl
@[simp] theorem Part.sync_setPmb (m : Part) (x : Pmb) : (m.setPmb x).sync = m.sync := rfl
@[simp] theorem Part.trips_setPmb (m : Part) (x : Pmb) : (m.setPmb x).trips = m.trips := rfl
@[simp] theorem Part.pool_setPmb (m : Part) (x : Pmb) : (m.setPmb x).pool = m.pool := rfl
@[simp] theorem Part.bsl_setPmb (m : Part) (x : Pmb) : (m.setPmb x).bsl = m.bsl := rfl
@[simp] theorem Part.saf_setPmb (m : Part) (x : Pmb) : (m.setPmb x).saf = m.saf := rfl
@[simp] theorem Part.flk_setPmb (m : Part) (x : Pmb) : (m.setPmb x).flk = m.flk := rfl
@[simp] theorem Part.mica_setPmb (m : Part) (x : Pmb) : (m.setPmb x).mica = m.mica := rfl
@[simp] theorem Part.life_setPmb (m : Part) (x : Pmb) : (m.setPmb x).life = m.life := rfl
@[simp] theorem Part.clv_setPmb (m : Part) (x : Pmb) : (m.setPmb x).clv = m.clv := rfl
@[simp] theorem Part.adc_setPmb (m : Part) (x : Pmb) : (m.setPmb x).adc = m.adc := rfl
@[simp] theorem Part.pmb_setPmb (m : Part) (x : Pmb) : (m.setPmb x).pmb = x := rfl
@[simp] theorem Part.pmc_setPmb (m : Part) (x : Pmb) : (m.setPmb x).pmc = m.pmc := rfl
@[simp] theorem Part.lcp_setPmb (m : Part) (x : Pmb) : (m.setPmb x).lcp = m.lcp := rfl
@[simp] theorem Part.cores_setPmb (m : Part) (x : Pmb) : (m.setPmb x).cores = m.cores := rfl
@[simp] theorem Part.icu_setPmb (m : Part) (x : Pmb) : (m.setPmb x).icu = m.icu := rfl
@[simp] theorem Part.timers_setPmb (m : Part) (x : Pmb) : (m.setPmb x).timers = m.timers := rfl
@[simp] theorem Part.dma_setPmb (m : Part) (x : Pmb) : (m.setPmb x).dma = m.dma := rfl
@[simp] theorem Part.nvm_setPmb (m : Part) (x : Pmb) : (m.setPmb x).nvm = m.nvm := rfl
@[simp] theorem Part.sys_setPmb (m : Part) (x : Pmb) : (m.setPmb x).sys = m.sys := rfl
@[simp] theorem Part.hsp_setPmb (m : Part) (x : Pmb) : (m.setPmb x).hsp = m.hsp := rfl
@[simp] theorem Part.ydp_setPmb (m : Part) (x : Pmb) : (m.setPmb x).ydp = m.ydp := rfl
@[simp] theorem Part.tap_setPmb (m : Part) (x : Pmb) : (m.setPmb x).tap = m.tap := rfl
@[simp] theorem Part.word_setPmb (m : Part) (a : Nat) (x : Pmb) : (m.setPmb x).word a = m.word a := rfl
@[simp] theorem Part.get_setPmb (m : Part) (f : FieldAt) (i : Nat) (x : Pmb) : (m.setPmb x).get f i = m.get f i := rfl

@[simp] theorem Part.regs_setPmc (m : Part) (x : Pmc) : (m.setPmc x).regs = m.regs := rfl
@[simp] theorem Part.tb_setPmc (m : Part) (x : Pmc) : (m.setPmc x).tb = m.tb := rfl
@[simp] theorem Part.free_setPmc (m : Part) (x : Pmc) : (m.setPmc x).free = m.free := rfl
@[simp] theorem Part.bus_setPmc (m : Part) (x : Pmc) : (m.setPmc x).bus = m.bus := rfl
@[simp] theorem Part.holding_setPmc (m : Part) (x : Pmc) : (m.setPmc x).holding = m.holding := rfl
@[simp] theorem Part.grn_setPmc (m : Part) (x : Pmc) : (m.setPmc x).grn = m.grn := rfl
@[simp] theorem Part.flt_setPmc (m : Part) (x : Pmc) : (m.setPmc x).flt = m.flt := rfl
@[simp] theorem Part.pwm_setPmc (m : Part) (x : Pmc) : (m.setPmc x).pwm = m.pwm := rfl
@[simp] theorem Part.sync_setPmc (m : Part) (x : Pmc) : (m.setPmc x).sync = m.sync := rfl
@[simp] theorem Part.trips_setPmc (m : Part) (x : Pmc) : (m.setPmc x).trips = m.trips := rfl
@[simp] theorem Part.pool_setPmc (m : Part) (x : Pmc) : (m.setPmc x).pool = m.pool := rfl
@[simp] theorem Part.bsl_setPmc (m : Part) (x : Pmc) : (m.setPmc x).bsl = m.bsl := rfl
@[simp] theorem Part.saf_setPmc (m : Part) (x : Pmc) : (m.setPmc x).saf = m.saf := rfl
@[simp] theorem Part.flk_setPmc (m : Part) (x : Pmc) : (m.setPmc x).flk = m.flk := rfl
@[simp] theorem Part.mica_setPmc (m : Part) (x : Pmc) : (m.setPmc x).mica = m.mica := rfl
@[simp] theorem Part.life_setPmc (m : Part) (x : Pmc) : (m.setPmc x).life = m.life := rfl
@[simp] theorem Part.clv_setPmc (m : Part) (x : Pmc) : (m.setPmc x).clv = m.clv := rfl
@[simp] theorem Part.adc_setPmc (m : Part) (x : Pmc) : (m.setPmc x).adc = m.adc := rfl
@[simp] theorem Part.pmb_setPmc (m : Part) (x : Pmc) : (m.setPmc x).pmb = m.pmb := rfl
@[simp] theorem Part.pmc_setPmc (m : Part) (x : Pmc) : (m.setPmc x).pmc = x := rfl
@[simp] theorem Part.lcp_setPmc (m : Part) (x : Pmc) : (m.setPmc x).lcp = m.lcp := rfl
@[simp] theorem Part.cores_setPmc (m : Part) (x : Pmc) : (m.setPmc x).cores = m.cores := rfl
@[simp] theorem Part.icu_setPmc (m : Part) (x : Pmc) : (m.setPmc x).icu = m.icu := rfl
@[simp] theorem Part.timers_setPmc (m : Part) (x : Pmc) : (m.setPmc x).timers = m.timers := rfl
@[simp] theorem Part.dma_setPmc (m : Part) (x : Pmc) : (m.setPmc x).dma = m.dma := rfl
@[simp] theorem Part.nvm_setPmc (m : Part) (x : Pmc) : (m.setPmc x).nvm = m.nvm := rfl
@[simp] theorem Part.sys_setPmc (m : Part) (x : Pmc) : (m.setPmc x).sys = m.sys := rfl
@[simp] theorem Part.hsp_setPmc (m : Part) (x : Pmc) : (m.setPmc x).hsp = m.hsp := rfl
@[simp] theorem Part.ydp_setPmc (m : Part) (x : Pmc) : (m.setPmc x).ydp = m.ydp := rfl
@[simp] theorem Part.tap_setPmc (m : Part) (x : Pmc) : (m.setPmc x).tap = m.tap := rfl
@[simp] theorem Part.word_setPmc (m : Part) (a : Nat) (x : Pmc) : (m.setPmc x).word a = m.word a := rfl
@[simp] theorem Part.get_setPmc (m : Part) (f : FieldAt) (i : Nat) (x : Pmc) : (m.setPmc x).get f i = m.get f i := rfl

@[simp] theorem Part.regs_setSys (m : Part) (x : Sys) : (m.setSys x).regs = m.regs := rfl
@[simp] theorem Part.tb_setSys (m : Part) (x : Sys) : (m.setSys x).tb = m.tb := rfl
@[simp] theorem Part.free_setSys (m : Part) (x : Sys) : (m.setSys x).free = m.free := rfl
@[simp] theorem Part.bus_setSys (m : Part) (x : Sys) : (m.setSys x).bus = m.bus := rfl
@[simp] theorem Part.holding_setSys (m : Part) (x : Sys) : (m.setSys x).holding = m.holding := rfl
@[simp] theorem Part.grn_setSys (m : Part) (x : Sys) : (m.setSys x).grn = m.grn := rfl
@[simp] theorem Part.flt_setSys (m : Part) (x : Sys) : (m.setSys x).flt = m.flt := rfl
@[simp] theorem Part.pwm_setSys (m : Part) (x : Sys) : (m.setSys x).pwm = m.pwm := rfl
@[simp] theorem Part.sync_setSys (m : Part) (x : Sys) : (m.setSys x).sync = m.sync := rfl
@[simp] theorem Part.trips_setSys (m : Part) (x : Sys) : (m.setSys x).trips = m.trips := rfl
@[simp] theorem Part.pool_setSys (m : Part) (x : Sys) : (m.setSys x).pool = m.pool := rfl
@[simp] theorem Part.bsl_setSys (m : Part) (x : Sys) : (m.setSys x).bsl = m.bsl := rfl
@[simp] theorem Part.saf_setSys (m : Part) (x : Sys) : (m.setSys x).saf = m.saf := rfl
@[simp] theorem Part.flk_setSys (m : Part) (x : Sys) : (m.setSys x).flk = m.flk := rfl
@[simp] theorem Part.mica_setSys (m : Part) (x : Sys) : (m.setSys x).mica = m.mica := rfl
@[simp] theorem Part.life_setSys (m : Part) (x : Sys) : (m.setSys x).life = m.life := rfl
@[simp] theorem Part.clv_setSys (m : Part) (x : Sys) : (m.setSys x).clv = m.clv := rfl
@[simp] theorem Part.adc_setSys (m : Part) (x : Sys) : (m.setSys x).adc = m.adc := rfl
@[simp] theorem Part.pmb_setSys (m : Part) (x : Sys) : (m.setSys x).pmb = m.pmb := rfl
@[simp] theorem Part.pmc_setSys (m : Part) (x : Sys) : (m.setSys x).pmc = m.pmc := rfl
@[simp] theorem Part.lcp_setSys (m : Part) (x : Sys) : (m.setSys x).lcp = m.lcp := rfl
@[simp] theorem Part.cores_setSys (m : Part) (x : Sys) : (m.setSys x).cores = m.cores := rfl
@[simp] theorem Part.icu_setSys (m : Part) (x : Sys) : (m.setSys x).icu = m.icu := rfl
@[simp] theorem Part.timers_setSys (m : Part) (x : Sys) : (m.setSys x).timers = m.timers := rfl
@[simp] theorem Part.dma_setSys (m : Part) (x : Sys) : (m.setSys x).dma = m.dma := rfl
@[simp] theorem Part.nvm_setSys (m : Part) (x : Sys) : (m.setSys x).nvm = m.nvm := rfl
@[simp] theorem Part.sys_setSys (m : Part) (x : Sys) : (m.setSys x).sys = x := rfl
@[simp] theorem Part.hsp_setSys (m : Part) (x : Sys) : (m.setSys x).hsp = m.hsp := rfl
@[simp] theorem Part.ydp_setSys (m : Part) (x : Sys) : (m.setSys x).ydp = m.ydp := rfl
@[simp] theorem Part.tap_setSys (m : Part) (x : Sys) : (m.setSys x).tap = m.tap := rfl
@[simp] theorem Part.word_setSys (m : Part) (a : Nat) (x : Sys) : (m.setSys x).word a = m.word a := rfl
@[simp] theorem Part.get_setSys (m : Part) (f : FieldAt) (i : Nat) (x : Sys) : (m.setSys x).get f i = m.get f i := rfl

end Sys2Proof.Machine
end

