-- ==== Sys2Proof/Laws/Memory.lean ====
section
/-! SUPPORT. Laws of the memories: a byte read after a write, and that every memory operation keeps the canonical form. -/
namespace Sys2Proof.Machine

/-- The byte just stored is read. -/
@[simp] theorem Mem.byte_setByte_same (mem : Mem) (a : Nat) (b : Byte) : Mem.byte (Mem.setByte mem a b) a = b :=
  Store.get_set_same ..

/-- Any other byte reads as before. -/
theorem Mem.byte_setByte_other (mem : Mem) {a c : Nat} (h : c ≠ a) (b : Byte) :
    Mem.byte (Mem.setByte mem a b) c = Mem.byte mem c :=
  Store.get_set_other _ _ _ h _

theorem Memory.wf_setByte {mem : Mem} (h : Memory.wf mem = true) (a : Nat) (b : Byte) :
    Memory.wf (Mem.setByte mem a b) = true :=
  Store.wf_set h a b

theorem Memory.wf_write {mem : Mem} (h : Memory.wf mem = true) (a v n : Nat) : Memory.wf (Mem.write mem a v n) = true := by
  induction n generalizing mem a v with
  | zero => exact h
  | succ n ih => exact ih (Memory.wf_setByte h a _) _ _

theorem Memory.wf_fill {mem : Mem} (h : Memory.wf mem = true) (a : Nat) (b : Byte) (n : Nat) :
    Memory.wf (Mem.fill mem a b n) = true := by
  induction n generalizing mem a with
  | zero => exact h
  | succ n ih => exact ih (Memory.wf_setByte h a _) _

/-- Bytes outside the stored ones read as before. -/
theorem Mem.byte_write_other (mem : Mem) (a v n : Nat) {c : Nat} (h : c < a ∨ a + n ≤ c) :
    Mem.byte (Mem.write mem a v n) c = Mem.byte mem c := by
  induction n generalizing mem a v with
  | zero => rfl
  | succ n ih =>
    simp only [Mem.write]
    rw [ih _ _ _ (by omega), Mem.byte_setByte_other _ (by omega)]

/-- Reading what was stored, below the size stored. -/
theorem Mem.byte_write_at (mem : Mem) (a v n k : Nat) (h : k < n) :
    Mem.byte (Mem.write mem a v n) (a + k) = BitVec.ofNat 8 (v / 256 ^ k) := by
  induction n generalizing mem a v k with
  | zero => omega
  | succ n ih =>
    simp only [Mem.write]
    cases k with
    | zero =>
      rw [Mem.byte_write_other _ _ _ _ (by omega), Nat.add_zero, Mem.byte_setByte_same]
      simp
    | succ k =>
      have := ih (Mem.setByte mem a (BitVec.ofNat 8 v)) (a + 1) (v / 256) k (by omega)
      rw [show a + (k + 1) = a + 1 + k by omega, this, Nat.div_div_eq_div_mul, Nat.pow_succ, Nat.mul_comm]

/-- Little-endian: `n` bytes read back as the value stored, modulo their range. -/
theorem Mem.read_write_same (mem : Mem) (a v n : Nat) : Mem.read (Mem.write mem a v n) a n = v % 256 ^ n := by
  have key : ∀ (k : Nat) (w b : Nat) (m : Mem), (∀ j < k, Mem.byte m (b + j) = BitVec.ofNat 8 (w / 256 ^ j)) →
      Mem.read m b k = w % 256 ^ k := by
    intro k
    induction k with
    | zero => intro w b m _; simp [Mem.read, Nat.mod_one]
    | succ k ih =>
      intro w b m h
      have h0 : Mem.byte m b = BitVec.ofNat 8 w := by simpa using h 0 (by omega)
      have hr := ih (w / 256) (b + 1) m (fun j hj => by
        have := h (j + 1) (by omega)
        rw [show b + 1 + j = b + (j + 1) by omega, this, Nat.div_div_eq_div_mul, Nat.pow_succ, Nat.mul_comm])
      have e : (256 : Nat) ^ (k + 1) = 256 * 256 ^ k := by rw [Nat.pow_succ, Nat.mul_comm]
      rw [Mem.read, h0, hr, BitVec.toNat_ofNat, e, Nat.mod_mul]
  exact key n v a _ (fun j hj => Mem.byte_write_at mem a v n j hj)

end Sys2Proof.Machine
end

