-- ==== Sys2Proof/Laws/Ops.lean ====
section
/-! SUPPORT. What the shared operations can do: bits and counters of a register, records handed to Garnet, refusals, faults
raised, and the canonical form of the memories over each way of storing to them. -/
namespace Sys2Proof.Machine

/-! ## Bits and counters -/

/-- Setting a bit of a field writes that field at most. -/
theorem Part.putBit_cases (m : Part) (f : FieldAt) (i b : Nat) (v : Bool) :
    (m.putBit f i b v = m ∧ m.bit f i b = v) ∨ ∃ n, m.putBit f i b v = m.put f i n := by
  unfold Part.putBit
  split
  · exact .inl ⟨rfl, ‹_›⟩
  · exact .inr ⟨_, rfl⟩

/-- A counter saturates: it counts one, or stands at its highest value. -/
theorem Part.bump_cases (m : Part) (f : FieldAt) (i : Nat) :
    (m.get f i + 1 < 2 ^ f.width ∧ m.bump f i = m.put f i (m.get f i + 1)) ∨ (2 ^ f.width ≤ m.get f i + 1 ∧ m.bump f i = m) := by
  unfold Part.bump
  split
  · exact .inl ⟨‹_›, rfl⟩
  · exact .inr ⟨by omega, rfl⟩

theorem Part.word_putBit_other (m : Part) (f : FieldAt) (i b : Nat) (v : Bool) {a : Nat} (h : a ≠ f.reg.addr i) :
    (m.putBit f i b v).word a = m.word a := by
  obtain ⟨e, -⟩ | ⟨n, e⟩ := m.putBit_cases f i b v <;> rw [e]
  exact m.word_put_other f i n h

theorem Part.word_bump_other (m : Part) (f : FieldAt) (i : Nat) {a : Nat} (h : a ≠ f.reg.addr i) :
    (m.bump f i).word a = m.word a := by
  obtain ⟨-, e⟩ | ⟨-, e⟩ := m.bump_cases f i <;> rw [e]
  exact m.word_put_other f i _ h

/-- Setting a bit changes the register bank only. -/
theorem Part.putBit_regs (m : Part) (f : FieldAt) (i b : Nat) (v : Bool) :
    m.putBit f i b v = { m with regs := (m.putBit f i b v).regs } := by
  obtain ⟨e, -⟩ | ⟨n, e⟩ := m.putBit_cases f i b v <;> rw [e]
  rfl

theorem Part.bump_regs (m : Part) (f : FieldAt) (i : Nat) : m.bump f i = { m with regs := (m.bump f i).regs } := by
  obtain ⟨-, e⟩ | ⟨-, e⟩ := m.bump_cases f i <;> rw [e]
  rfl

/-! ## Records -/

theorem dropRank_length (n : Nat) (l : List GRec) (h : ∃ r ∈ l, recRank r.sev = n) : (dropRank n l).length + 1 = l.length := by
  induction l with
  | nil => obtain ⟨r, hr, -⟩ := h; cases hr
  | cons r t ih =>
    obtain ⟨x, hx, e⟩ := h
    simp only [dropRank]
    split
    · rfl
    · rename_i hn
      cases hx with
      | head => exact absurd e hn
      | tail _ hx => simp only [List.length_cons]; rw [ih ⟨x, hx, e⟩]

theorem lowestRank_mem (l : List GRec) (n : Nat) : l.foldl (fun a r => min a (recRank r.sev)) n = n ∨
    ∃ r ∈ l, recRank r.sev = l.foldl (fun a r => min a (recRank r.sev)) n := by
  induction l generalizing n with
  | nil => exact .inl rfl
  | cons r t ih =>
    obtain e | ⟨x, hx, e⟩ := ih (min n (recRank r.sev))
    · simp only [List.foldl_cons, e]
      by_cases c : n ≤ recRank r.sev
      · exact .inl (Nat.min_eq_left c)
      · exact .inr ⟨r, .head _, by omega⟩
    · exact .inr ⟨x, .tail _ hx, e⟩

/-- A queue that is not empty loses exactly one record. -/
theorem dropLowest_length (q : List GRec) (h : q ≠ []) : (dropLowest q).length + 1 = q.length := by
  cases q with
  | nil => exact absurd rfl h
  | cons x t =>
    have key : ∃ r ∈ (x :: t).reverse, recRank r.sev = t.foldl (fun a r => min a (recRank r.sev)) (recRank x.sev) := by
      obtain e | ⟨r, hr, e⟩ := lowestRank_mem t (recRank x.sev)
      · exact ⟨x, by simp, e.symm⟩
      · exact ⟨r, by simp [hr], e⟩
    simpa [dropLowest] using dropRank_length _ _ key

theorem Part.word_countLost (m : Part) {a : Nat} (h : a ∉ [R.GRN_STAT.base, R.GRN_LOST.base]) :
    m.countLost.word a = m.word a := by
  simp only [List.mem_cons, List.not_mem_nil, or_false, not_or] at h
  unfold Part.countLost
  rw [Part.word_put_other _ _ _ _ (by simpa [RegAt.addr, F.GRN_STAT_LOST] using h.1),
    Part.word_bump_other _ _ _ (by simpa [RegAt.addr, F.GRN_LOST_COUNT] using h.2)]
  rfl

/-- Counting a lost record changes GRN_STAT, GRN_LOST and the count carried to the next record. -/
theorem Part.countLost_frame (m : Part) :
    m.countLost = { m with regs := m.countLost.regs, grn := { m.grn with lostSince := m.grn.lostSince + 1 } } := by
  unfold Part.countLost
  simp only
  rw [Part.bump_regs]
  rfl

/-- A record handed to Garnet while its input queue has room enters it last, and no register changes. -/
theorem Part.submit_room (m : Part) (r : GRec) (h : m.grn.queue.length < 64) :
    m.submit r = { m with grn := { m.grn with
      nextTag := m.grn.nextTag + 1
      queue := m.grn.queue ++ [{ r with ts := m.timestamp, tbl := m.tb.lossNow, tag := m.grn.nextTag }] } } := by
  simp [Part.submit, h]

/-- Handing a record over changes Garnet and, where a record is lost, GRN_STAT and GRN_LOST. -/
theorem Part.submit_frame (m : Part) (r : GRec) :
    m.submit r = { m with regs := (m.submit r).regs, grn := (m.submit r).grn } := by
  unfold Part.submit
  simp only
  split
  · rfl
  · split <;> (rw [Part.countLost_frame])

theorem Part.word_submit (m : Part) (r : GRec) {a : Nat} (h : a ∉ [R.GRN_STAT.base, R.GRN_LOST.base]) :
    (m.submit r).word a = m.word a := by
  unfold Part.submit
  simp only
  split
  · rfl
  · split <;> (rw [Part.word_countLost _ h]; rfl)

/-- The input queue keeps to its 64 records. -/
theorem Part.submit_queue_le (m : Part) (r : GRec) (h : m.grn.queue.length ≤ 64) : (m.submit r).grn.queue.length ≤ 64 := by
  by_cases c : m.grn.queue.length < 64
  · rw [m.submit_room r c]; simp; omega
  · unfold Part.submit
    simp only [c, if_false]
    split
    · rw [Part.countLost_frame]
      have := dropLowest_length m.grn.queue (by intro e; simp [e] at c)
      simp; omega
    · rw [Part.countLost_frame]
      exact h

/-- The other queues of Garnet are as they were. -/
theorem Part.submit_buffer (m : Part) (r : GRec) :
    (m.submit r).grn.buffer = m.grn.buffer ∧ (m.submit r).grn.mirror = m.grn.mirror := by
  unfold Part.submit
  simp only
  split
  · exact ⟨rfl, rfl⟩
  · split <;> (rw [Part.countLost_frame]; exact ⟨rfl, rfl⟩)

theorem Part.event_frame (m : Part) (code source d0 d1 d2 : Nat) :
    m.event code source d0 d1 d2 =
      { m with regs := (m.event code source d0 d1 d2).regs, grn := (m.event code source d0 d1 d2).grn } := m.submit_frame _

theorem Part.word_event (m : Part) (code source d0 d1 d2 : Nat) {a : Nat} (h : a ∉ [R.GRN_STAT.base, R.GRN_LOST.base]) :
    (m.event code source d0 d1 d2).word a = m.word a := m.word_submit _ h

/-! ## Refused writes -/

/-- A refused write sets the flag of its block, hands its record to Garnet, and changes nothing else. -/
theorem Part.refuse_frame (m : Part) (flag : FieldAt) (i : Initiator) (a : Nat) (v : Word) :
    m.refuse flag i a v = { m with regs := (m.refuse flag i a v).regs, grn := (m.refuse flag i a v).grn } :=
  (m.put flag 0 1).event_frame ..

theorem Part.word_refuse (m : Part) (flag : FieldAt) (i : Initiator) (a : Nat) (v : Word) {b : Nat}
    (h : b ∉ [flag.reg.addr 0, R.GRN_STAT.base, R.GRN_LOST.base]) : (m.refuse flag i a v).word b = m.word b := by
  simp only [List.mem_cons, List.not_mem_nil, or_false, not_or] at h
  unfold Part.refuse Part.refusedWrite
  rw [Part.word_event _ _ _ _ _ _ (by simp [h.2.1, h.2.2]), Part.word_put_other _ _ _ _ h.1]

/-- The refused-write record of R319 enters the input queue where it has room. -/
theorem Part.refuse_record (m : Part) (flag : FieldAt) (i : Initiator) (a : Nat) (v : Word) (h : m.grn.queue.length < 64) :
    ∃ x ∈ (m.refuse flag i a v).grn.queue, x.code = codeOf (blockOf a) 0 ∧ x.source = srcInit i ∧ x.sev = 7 ∧
      x.data0 = a % 0x10000 ∧ x.data1 = v.toNat := by
  unfold Part.refuse Part.refusedWrite Part.event
  rw [Part.submit_room (m.put flag 0 1) _ h]
  exact ⟨_, by simp only [List.mem_append, List.mem_singleton]; exact .inr rfl, rfl, rfl, rfl, rfl, rfl⟩

/-! ## Faults -/

@[simp] theorem Part.flt_submit (m : Part) (r : GRec) : (m.submit r).flt = m.flt := by rw [Part.submit_frame]
@[simp] theorem Part.flt_bump (m : Part) (f : FieldAt) (i : Nat) : (m.bump f i).flt = m.flt := by rw [Part.bump_regs]

/-- Queueing a fault puts its entry last, unless its queue is full; the rest of the fault manager is as it was. -/
theorem Part.flt_enqueueFault (m : Part) (code rail sev osev source d1 d2 : Nat) (ovf : Bool) (lane : Nat) :
    (m.enqueueFault code rail sev osev source d1 d2 ovf lane).flt = if ovf then m.flt else
      { m.flt with queue := m.flt.queue ++ [{ code := code, rail := rail, sev := sev, tag := m.grn.nextTag,
                                              mute := m.muted rail sev, source := source, lane := lane }] } := by
  unfold Part.enqueueFault
  simp only
  cases ovf <;> simp only [if_true, Bool.false_eq_true, if_false, Part.flt_bump] <;> (repeat' split) <;> simp

/-- Queueing a fault where its queue has room keeps every queue to 16 entries. -/
theorem Part.enqueueFault_fill (m : Part) (code rail sev osev source d1 d2 : Nat) (ovf : Bool) (lane : Nat)
    (h : ∀ k, m.queueFill k ≤ 16) (room : ovf = false → m.queueFill sev < 16) (k : Nat) :
    (m.enqueueFault code rail sev osev source d1 d2 ovf lane).queueFill k ≤ 16 := by
  have hk := h k
  unfold Part.queueFill at *
  rw [Part.flt_enqueueFault]
  cases ovf with
  | true => exact hk
  | false =>
    have hr := room rfl
    simp only [Bool.false_eq_true, if_false, List.filter_append, List.length_append]
    by_cases c : sev = k
    · subst c; simp; omega
    · simpa [c] using hk

/-- Raising a fault keeps every queue to 16 entries: one that finds its queue full is not queued (R314). -/
theorem Part.raise_fill (m : Part) (code rail sev source d1 d2 lane : Nat) (h : ∀ k, m.queueFill k ≤ 16) (k : Nat) :
    (m.raise code rail sev source d1 d2 lane).queueFill k ≤ 16 := by
  have latch : ∀ (x : Part) (f : FieldAt) (i b : Nat), (x.pmbLatch f i b).flt = x.flt := by
    intro x f i b
    unfold Part.pmbLatch
    split
    · rfl
    · simp only
      rw [Part.putBit_regs]
      split <;> rfl
  have e : (m.pmbOnFault code rail).flt = m.flt := by
    unfold Part.pmbOnFault
    repeat' split
    all_goals first | exact latch .. | rfl
  have h1 : ∀ k, (m.pmbOnFault code rail).queueFill k ≤ 16 := by
    intro k; unfold Part.queueFill; rw [e]; exact h k
  unfold Part.raise
  simp only
  split
  · exact Part.enqueueFault_fill _ _ _ _ _ _ _ _ _ _ h1 (fun _ => ‹_›) k
  · have h2 := Part.enqueueFault_fill (m.pmbOnFault code rail) code rail ((m.pmbOnFault code rail).resolve rail sev) sev source d1 d2
      true lane h1 (by simp)
    split
    · exact h2 k
    · refine Part.enqueueFault_fill _ _ _ _ _ _ _ _ _ _ (fun k => ?_) (fun o => ?_) k
      · exact h2 k
      · simpa using o

/-! ## Stores to the memories keep the canonical form -/

theorem Memory.wf_writeBytes {mem : Mem} (h : Memory.wf mem = true) (a : Nat) (l : List Byte) :
    Memory.wf (Mem.writeBytes mem a l) = true := by
  induction l generalizing mem a with
  | nil => exact h
  | cons b t ih => exact ih (Memory.wf_setByte h a b) _

theorem Store.sorted_tail {α : Type} {p : Nat × α} {t : Store α} (h : Store.sorted (p :: t) = true) : Store.sorted t = true := by
  cases t with
  | nil => rfl
  | cons q t => simp only [Store.sorted, Bool.and_eq_true] at h; exact h.2

/-- Taking entries out of a store in canonical form leaves it in canonical form. -/
theorem Store.wf_filter {α : Type} [DecidableEq α] {d : Nat → α} {m : Store α} (h : Store.wf d m = true) (p : Nat × α → Bool) :
    Store.wf d (m.filter p) = true := by
  have low : ∀ (t : Store α) (k : Nat) (v : α), Store.sorted ((k, v) :: t) = true → ∀ q ∈ t, k < q.1 := by
    intro t
    induction t with
    | nil => intro k v _ q hq; cases hq
    | cons x t ih =>
      intro k v hs q hq
      simp only [Store.sorted, Bool.and_eq_true, decide_eq_true_eq] at hs
      cases hq with
      | head => exact hs.1
      | tail _ hq => exact Nat.lt_trans hs.1 (ih _ _ hs.2 q hq)
  simp only [Store.wf, Bool.and_eq_true] at *
  obtain ⟨hs, hl⟩ := h
  induction m with
  | nil => exact ⟨rfl, rfl⟩
  | cons x t ih =>
    obtain ⟨k, v⟩ := x
    simp only [Store.lean, Bool.and_eq_true] at hl
    have hi := ih (Store.sorted_tail hs) hl.2
    rw [List.filter_cons]
    split
    · refine ⟨?_, by simp only [Store.lean, Bool.and_eq_true]; exact ⟨hl.1, hi.2⟩⟩
      cases e : t.filter p with
      | nil => rfl
      | cons q u =>
        have hq : q ∈ t := List.mem_of_mem_filter (by rw [e]; exact .head _)
        rw [e] at hi
        simp only [Store.sorted, Bool.and_eq_true, decide_eq_true_eq]
        exact ⟨low t k v hs q hq, hi.1⟩
    · exact hi

theorem Memory.wf_without {mem : Mem} (h : Memory.wf mem = true) (a n : Nat) : Memory.wf (Mem.without mem a n) = true :=
  Store.wf_filter h _

/-- A store through the NVM window keeps the memories canonical. -/
theorem Memory.wf_nvmPut {s : State} (h : Memory.wf s.mem = true) (src a v n : Nat) :
    Memory.wf (s.nvmPut src a v n).2.mem = true := by
  unfold State.nvmPut
  simp only
  split
  · exact h
  · split
    · exact h
    · split
      · exact Memory.wf_write h a v 8
      · split
        · exact h
        · exact Memory.wf_write h a v n

/-- A fabric write to a memory region keeps the memories canonical. -/
theorem Memory.wf_memWrite {s : State} (h : Memory.wf s.mem = true) (src a n v : Nat) :
    Memory.wf (s.memWrite src a n v).post.mem = true := by
  unfold State.memWrite
  simp only
  split
  · exact h
  · split
    · split
      · exact h
      · exact Memory.wf_nvmPut h src a v n
    · split
      · exact h
      · exact Memory.wf_write h a v n

end Sys2Proof.Machine
end

