-- ==== Sys2Proof/WellFormed.lean ====
section
/-! DEFINITION. Which commands can be written down on the part: operands whose Lean type is wider than what the pins, the
fabric or a sensor can carry are held to the spec's range. A meaning is defined on every command; statements that need a
range say so. -/
namespace Sys2Proof

/-- An address of the fabric is a 32-bit word (R22, R25). -/
def addressOk (a : Nat) : Bool := decide (a < 2 ^ 32)

/-- A serial frame carries at most 16 slots (R360). -/
def slotsOk (slots : List Word) : Bool := decide (slots.length ≤ 16)

/-- Busy times of the 16 lanes (R106). -/
def lanesOk (busy : List Nat) : Bool := decide (busy.length = 16)

/-- A received Flint frame brings its symbols 1 to 69 (R185). -/
def symbolsOk (symbols : List Byte) : Bool := decide (symbols.length = 69)

/-- A calibration's offset and gain corrections are 24-bit numbers (R285). -/
def correctionsOk (ofs gain : Int) (lin : Nat) : Bool :=
  decide (-(2 ^ 23) ≤ ofs ∧ ofs < 2 ^ 23 ∧ -(2 ^ 23) ≤ gain ∧ gain < 2 ^ 23 ∧ lin < 2 ^ 32)

/-- What a window monitor compares lies well inside 24 bits (R291, R292). -/
def sampleOk (x : Int) : Bool := decide (-(2 ^ 23) ≤ x ∧ x < 2 ^ 23)

/-- A frame of the host SPI that reads gives the word that came late inside the frame (R469). -/
def readFrameOk (count : Nat) (late : Option Nat) : Bool :=
  match late with
  | none => true
  | some k => decide (4 * k < count)

/-- Sixteen pins, none high in more samples than the window has (R471). -/
def windowOk (samples : Nat) (high : List Nat) : Bool :=
  decide (0 < samples) && decide (high.length = 16) && high.all (fun h => decide (h ≤ samples))

/-- A two-wire transfer of one command: a read sends no data bytes before its repeated START, a write takes none, and neither
is longer than a block of 255 bytes, its count and a PEC (R337). -/
def transactionOk (op : PmbOp) : Bool :=
  decide (op.data.length ≤ 257) && decide (op.count ≤ 257) && (if op.read then true else decide (op.count = 0))

/-- A command is well formed. -/
def Instr.wellFormed : Instr → Bool
  | .registerWrite _ a _ => addressOk a
  | .memoryAccess _ _ _ a _ => addressOk a
  | .fabricBackstopTimeout _ _ _ a _ => addressOk a
  | .audioFrame _ _ _ _ _ slots => slotsOk slots
  | .missingSync _ held => held.all slotsOk
  | .liveMarginUpdate busyNs => lanesOk busyNs
  | .frameReceive _ _ _ symbols => symbolsOk symbols
  | .calibrationDone _ ofs gain lin => correctionsOk ofs gain lin
  | .monitorSample _ x => sampleOk x
  | .pmbPage op => transactionOk op
  | .pmbOperation op => transactionOk op
  | .onOffConfig op => transactionOk op
  | .clearFaults op => transactionOk op
  | .writeProtect op => transactionOk op
  | .pmbCapability op => transactionOk op
  | .voutMode op => transactionOk op
  | .voutCommand op => transactionOk op
  | .voutMax op => transactionOk op
  | .voutMarginHigh op => transactionOk op
  | .voutMarginLow op => transactionOk op
  | .voutOvFaultLimit op => transactionOk op
  | .ioutOcFaultLimit op => transactionOk op
  | .otFaultLimit op => transactionOk op
  | .statusByte op => transactionOk op
  | .statusWord op => transactionOk op
  | .statusVout op => transactionOk op
  | .statusIout op => transactionOk op
  | .statusTemperature op => transactionOk op
  | .statusCml op => transactionOk op
  | .readVin op => transactionOk op
  | .readVout op => transactionOk op
  | .readIout op => transactionOk op
  | .readTemperature1 op => transactionOk op
  | .readPout op => transactionOk op
  | .pmbusRevision op => transactionOk op
  | .mfrId op => transactionOk op
  | .mfrModel op => transactionOk op
  | .mfrSpecific _ op => transactionOk op
  | .mfrVoutCommandFull op => transactionOk op
  | .mfrReadVoutFull op => transactionOk op
  | .mfrVoutMaxFull op => transactionOk op
  | .invalidCommandCode _ op => transactionOk op
  | .imageStart op => transactionOk op
  | .imageData op => transactionOk op
  | .imageEnd op => transactionOk op
  | .imageStatus op => transactionOk op
  | .hspRead _ count late => readFrameOk count late
  | .hspQuadRead _ count late => readFrameOk count late
  | .pulseDensityWindow samples high => windowOk samples high
  | .lowWordRead _ a => addressOk a
  | .resetRelease _ pins => pins.volts.length == 7
  | .garnetRecordWrite | .railEnable .. | .railDisable .. | .railLeavesArming .. | .softstartComplete ..
  | .railSrcWrite .. | .fallbackRequest .. | .fallbackReturn .. | .dischargeEnd .. | .disto .. | .railFaultClear ..
  | .outputFrame .. | .bclkStop .. | .knotWrite .. | .recomputeComplete .. | .loadGainChange ..
  | .fullScaleGainChange .. | .channelRemap .. | .channelMute .. | .releaseOfMute .. | .vDropOrMarginChange ..
  | .depthChange .. | .safCtrlWrite .. | .zeroEvent .. | .periodEvent .. | .cmpaEvent .. | .cmpbEvent ..
  | .snapshot .. | .pwmPeriodWrite .. | .pwmRperWrite .. | .pwmDutyWrite .. | .pwmOffsetWrite .. | .rsyncNow ..
  | .tripInputEdge .. | .blankingClose .. | .safeForce .. | .safeRelease .. | .tbCfgWrite .. | .relockComplete ..
  | .timebaseLoss .. | .timebaseRecovery .. | .dllLockLoss | .dllLockReturn | .invocationDispatch ..
  | .invocationDeadline .. | .costOverrun .. | .admissionDecision .. | .laneParityError .. | .laneDisable ..
  | .laneEnable .. | .laneSelfCheckDone .. | .optionalTaskTimer .. | .optionalTaskRequest .. | .ldin .. | .emit ..
  | .movReg .. | .movImm .. | .movFromAcc .. | .movToAcc .. | .movPtr .. | .movLoad .. | .movStore .. | .lAdd ..
  | .lSub .. | .mac .. | .macImm .. | .sos .. | .sosb .. | .ffv .. | .ffs .. | .clmp .. | .ferr .. | .gw .. | .skb ..
  | .yield_ .. | .trapl .. | .add .. | .sub .. | .and_ .. | .or_ .. | .xor .. | .shl .. | .shr .. | .sar .. | .slt ..
  | .sltu .. | .mul .. | .mulh .. | .mulhu .. | .div .. | .divu .. | .rem .. | .remu .. | .addi .. | .andi ..
  | .ori .. | .xori .. | .shli .. | .shri .. | .sari .. | .movh .. | .ldw .. | .ldh .. | .ldhu .. | .ldb ..
  | .ldbu .. | .stw .. | .sth .. | .stb .. | .beq .. | .bne .. | .blt .. | .bge .. | .bltu .. | .bgeu .. | .jal ..
  | .jr .. | .crd .. | .cwr .. | .wait_ .. | .fence .. | .trapi .. | .reti .. | .impreciseStoreError ..
  | .sourceLevelChange .. | .interruptEntry .. | .icEoi .. | .icPendWrite .. | .icGdisWrite .. | .gdisTimeout
  | .semaphoreRead .. | .semaphoreRelease .. | .semaphoreForceFree .. | .timerStart .. | .timerExpiry ..
  | .watchdogKick .. | .watchdogWarning .. | .watchdogExpiry .. | .frameTransmit .. | .laneLoss .. | .bringUpStart ..
  | .enumerationComplete .. | .bringUpTimeout .. | .laneDisableWrite .. | .managementTimeout .. | .rawTransaction ..
  | .managementResponse .. | .segmentFaultHandling .. | .surveyStageDone .. | .micaRebuild .. | .micaRebuildAll .. | .micaRotation .. | .ageIncrement .. | .surveyStart .. | .surveyAbort ..
  | .steerDeadExpiry .. | .steerConfirmTimeout .. | .drainFail .. | .moveToHomeRail .. | .moveToGuestRail ..
  | .poolPark .. | .poolClear .. | .speculativeAddStart .. | .budgetTick | .ladderQuietExpiry | .marginStep
  | .busSenseTimeout | .clvCtrlWrite .. | .coreRetentionEntry .. | .bankRetentionEntry .. | .adcWord ..
  | .injectedTrigger .. | .swtrig .. | .groupTrigger .. | .rotationStep | .calibrationSweep .. | .referenceSettled
  | .senseStale .. | .monitorEnable .. | .monitorClear .. | .monitorStuck .. | .chatterWindow .. | .faultApply
  | .fltNextRead .. | .fltAck .. | .fltDevclr .. | .grnFreeze .. | .grnUnfreeze .. | .freezeTimeout | .grnSwev ..
  | .mirrorCopy | .protocolViolation .. | .mailboxAnswer .. | .mailboxTimeout | .alertResponse ..
  | .pmbusLimitCheck .. | .sclTimeout | .sdaTimeout | .pmbusWake | .pmcTransaction .. | .pmcTransactionEnd ..
  | .pmcSclTimeout | .pmcBusClear .. | .busClearRetry .. | .pmcAlertService .. | .alistRead .. | .portEnable ..
  | .portDisable .. | .lcpNop .. | .lcpSetFloor .. | .lcpSetCeil .. | .lcpSetMargin .. | .lcpSetGain .. | .lcpMute ..
  | .lcpHold .. | .lcpRelease .. | .lcpReadRail .. | .lcpReadStatus .. | .lcpAckAlert .. | .lcpViolation ..
  | .lcpTimeout .. | .lcpPortDisable .. | .dmaStart .. | .dmaAbort .. | .dmaSwtrg .. | .dmaBeat .. | .dmaPromotion ..
  | .dmaSpacingEnd .. | .drainTimeout .. | .nvmSdataWrite .. | .recordWrite .. | .recordWriteDone | .nvmRecall
  | .nvmRecallEnd | .nvmRescan .. | .bpWrite .. | .nvmScrub .. | .nvmScrubAbort .. | .nvmScrubDone | .nvmCommit ..
  | .commitInterval | .powerOnReset | .resetPin | .warmReset .. | .coreReset .. | .powerFailing ..
  | .domainPowerDown .. | .domainOff .. | .domainPowerUp .. | .domainUp .. | .standby .. | .standbyWake
  | .imageLoadStart | .imageLoadEnd | .bootgo .. | .hspWrite .. | .hspQuadWrite .. | .hspStatus | .gpioEdge ..
  | .lineReset | .ydpStatus | .memrd .. | .memwr .. | .regrd .. | .regwr .. | .ydpHalt .. | .ydpResume ..
  | .ydpStep .. | .ydpReset .. | .ydpCrcError | .ydpBreakpoint .. | .tapExtest | .tapSamplePreload | .tapIdcode
  | .tapClamp | .tapHighz | .tapBypass | .tapReset | .selfTest .. | .selfTestDone .. | .illegalInstruction ..
  | .fetchBusError .. | .receiverAlignment .. | .powerFailingEnd => true

end Sys2Proof
end

