-- ==== Sys2Proof/Tests/Slice0.lean ====
section
/-! SUPPORT. Tests of the model: ill-formed commands, and for every statement with hypotheses states and operands that meet
them. -/
namespace Sys2Proof.Tests
open Sys2Proof Sys2Proof.Machine Sys2Proof.Safety

set_option Elab.async false

/-- A part with the fields of the list put in place. -/
def put (m : Part) (l : List (FieldAt × Nat × Nat)) : Part := l.foldl (fun m x => m.put x.1 x.2.1 x.2.2) m

/-- The state after reset with the fields of the list put in place. -/
def st (l : List (FieldAt × Nat × Nat)) : State := { part := put {} l }

/-- Port 2 runs in group 1; channel 3 enters in its slot 1 and feeds rail 5. -/
def audio (l : List (FieldAt × Nat × Nat)) : State :=
  st ([(F.AUD_PCFG_EN, 2, 1), (F.SAF_GCFG_PORTS, 1, 4), (F.AUD_CHSRC_EN, 3, 1), (F.AUD_CHSRC_PORT, 3, 2), (F.AUD_CHSRC_SLOT, 3, 1),
    (F.SAF_CHMAP_MAPEN, 3, 1), (F.SAF_CHMAP_RAIL, 3, 5), (F.SAF_CTRL_EN, 0, 1)] ++ l)

/-- Lane 2 is in service and runs `x`. -/
def onLane (x : Run) (l : List (FieldAt × Nat × Nat)) : State :=
  { part := (put {} ([(F.BSL_CTRL_EN, 0, 1), (F.BSL_LANEST_INSV, 0, 4), (F.BSL_LANEEN_EN, 0, 4)] ++ l)).setLane 2 { run := some x } }

/-- An invocation of the current task of phase 4, of a voltage task, and of an optional task. -/
def curr4 : Run :=
  { task := .curr 4, gen := 0, deadline := 1000, slot := 0, fmt := 0, cost := 60, d := [(1, 0x80000005), (2, 7), (3, 0xFFFFFFFF)],
    acc := [(1, 2 ^ 40 + 7)], base := 64, p := [(0, 64), (1, 0x100)], ports := [(3, 99)] }
def volt5 : Run := { curr4 with task := .volt 5, rail := 5 }
def opt1 : Run := { curr4 with task := .opt 1, p := [(0, 0x3000)] }

/-- Phase 4 switches on rail 5 and its counter is in its lock window. -/
def phase (l : List (FieldAt × Nat × Nat)) : State :=
  { part := (put {} ([(F.PWM_CFG_EN, 4, 1), (F.POOL_PSTAT_RAIL, 4, 5), (F.POOL_PSTAT_STATE, 4, 1), (F.PWM_ACT_VALUE, 4, 1000)] ++ l)).setPwm 4
      { start := true, locked := true, nextL := 900, nextPeriod := 900, nextCmpa := 3200, psPeriod := 2, psCmpa := 2, psCmpb := 2, cmpb := 500 } }

/-- Lane 1 of Flint is UP with 8 positions; phase 12 is parked there. -/
def ring (l : List (FieldAt × Nat × Nat)) : State :=
  st ([(F.FLK_LCFG_EN, 1, 1), (F.FLK_LCFG_NPOS, 1, 8), (F.FLK_LCFG_STO, 1, 4), (F.FLK_LSTAT_STATE, 1, 4), (F.FLK_STAT_UP, 0, 2),
    (F.MICA_CTRL_EN, 0, 1)] ++ l)

/-- A raw transaction of lane 1 that was sent whole. -/
def raw1 : FlkTrans := { raw := true, pos := 2, wr := false, addr := 0x10, len := 1, data := [], tag := 5, sent := 2 }
def rawOn (x : FlkTrans) (l : List (FieldAt × Nat × Nat)) : State :=
  { part := { (ring ([(F.FLK_MCMD_GO, 1, 1)] ++ l)).part with flk := { lanes := [(1, { trans := some x })] } } }

/-- A lane of Flint carries this transaction, with its jobs and the response so far. -/
def laneOn (x : FlkLane) (l : List (FieldAt × Nat × Nat)) : State :=
  { part := { (ring l).part with flk := { lanes := [(1, x)] } } }

/-- A returned frame whose first 67 symbols are given, with its CRC. -/
def frame (body : List Byte) : List Byte :=
  body ++ [BitVec.ofNat 8 (crc16 body / 256), BitVec.ofNat 8 (crc16 body)]

/-- Phase 12 in the pool: active on rail 6, with its guest rail 9; both rails regulate and may lend. -/
def pool (x : PoolPhase) (l : List (FieldAt × Nat × Nat)) : State :=
  { part := (put (ring []).part ([(F.POOL_CFG_EN, 0, 1), (F.PWM_CFG_EN, 12, 1), (F.POOL_PSTAT_STATE, 12, 1), (F.POOL_PSTAT_RAIL, 12, 6),
      (F.POOL_PCFG_HOME, 12, 6), (F.POOL_PCFG_GUEST, 12, 9), (F.POOL_PCFG_LEND, 12, 1), (F.RAIL_CTRL_STATE, 6, 4), (F.RAIL_CTRL_STATE, 9, 4),
      (F.POOL_RCFG_LIN, 6, 1), (F.POOL_RCFG_LOUT, 6, 1), (F.POOL_RCFG_LIN, 9, 1), (F.POOL_RCFG_LOUT, 9, 1), (F.POOL_RCFG_NMIN, 6, 0),
      (F.POOL_RCFG_NMIN, 9, 0)] ++ l)).setPool 12 x }

/-- The fault manager holds these entries. -/
def faults (q : List FaultEntry) (l : List (FieldAt × Nat × Nat)) : State := { part := { put {} l with flt := { queue := q } } }
def trip6 : FaultEntry := { code := 0xA400, rail := 6, sev := 3, tag := 1 }

/-- The PMBus port is enabled and stands on page 6. -/
def pmbus (l : List (FieldAt × Nat × Nat)) : State := st ([(F.PMB_CTRL_EN, 0, 1), (F.PMB_STAT_PAGE, 0, 6), (F.NVM_STAT_RECALL, 0, 0)] ++ l)

/-- A write and a read on the PMBus. -/
def wr (d : List Byte) : PmbOp := { read := false, data := d }
def rd (n : Nat) (c : Bool) : PmbOp := { read := true, count := n, complete := c }

/-- Load command port 1 may command every rail and carries a command for rail 6. -/
def lcp (l : List (FieldAt × Nat × Nat)) : State :=
  st ([(F.LCP_CFG_EN, 1, 1), (F.LCP_RMLO_MASK, 1, 0xFFFFFFFF), (F.LCP_RMHI_MASK, 1, 0x7FFFFFFF), (F.SAF_CHMAP_MAPEN, 3, 1),
    (F.SAF_CHMAP_RAIL, 3, 6), (F.SAF_CTRL_EN, 0, 1)] ++ l)

/-- The state that an admission which succeeded leaves. -/
def okOf (x : Except AdmitFail Part) : Part := (x.toOption).getD { }

/-- Core 2 runs at an address of core memory with these registers. -/
def core2 (x : Core) (l : List (FieldAt × Nat × Nat)) : State :=
  { part := { put {} l with cores := [(2, { x with st := .run, pc := 0x10000100 })] } }
def regs2 : Core :=
  { g := [(3, 0x80000000), (4, 0xFFFFFFFF), (5, 33), (6, 0x10000402), (7, 0x10000404), (8, 0x10000401), (9, 0x50000000)], evbase := 0x10000200, ps := 0 }

/-- A host image of 256 bytes in shared buffer memory: one section of 8 bytes for core memory; its CRC is there where `ok`. -/
def image (ok : Bool) : Mem :=
  [(0x13040000, 0x07), (0x13040001, 0xB0), (0x13040002, 0x63), (0x13040003, 0x90), (0x13040004, 1), (0x13040009, 1), (0x1304000C, 1),
    (0x13040010, 0x77)] ++
  (if ok then [(0x1304003C, 0x65), (0x1304003D, 0xB2), (0x1304003E, 0x7E), (0x1304003F, 0x12)] else []) ++
  [(0x13040040, 1), (0x13040044, 0x50), (0x13040048, 8), (0x1304004D, 2), (0x1304004F, 0x10)]
def imaged (ok : Bool) (l : List (FieldAt × Nat × Nat)) : State :=
  { mem := image ok, part := { put {} ([(F.SYS_BOOT_STATE, 0, 1), (F.SYS_BOOT_SRC, 0, 1)] ++ l) with sys := { loading := true, imageLen := 256 } } }

/-! ## Ill-formed commands: one for each check of WellFormed -/

theorem test_illFormed_address : Instr.wellFormed (.registerWrite .hsp (2 ^ 32) 0) = false := by decide
theorem test_illFormed_slots : Instr.wellFormed (.audioFrame 0 false true false 10240 (List.replicate 17 0)) = false := by decide
theorem test_illFormed_lanes : Instr.wellFormed (.liveMarginUpdate [1, 2]) = false := by decide
theorem test_illFormed_symbols : Instr.wellFormed (.frameReceive 0 true true [0xBC]) = false := by decide
theorem test_illFormed_supplies : Instr.wellFormed (.resetRelease 0 ⟨0, [3300]⟩) = false := by decide
theorem test_illFormed_corrections : Instr.wellFormed (.calibrationDone 0 (2 ^ 23) 0 0) = false := by decide
theorem test_illFormed_sample : Instr.wellFormed (.monitorSample 0 (-(2 ^ 23) - 1)) = false := by decide
theorem test_illFormed_transaction : Instr.wellFormed (.pmbPage { read := false, data := [1], count := 3 }) = false := by decide
theorem test_illFormed_readFrame : Instr.wellFormed (.hspRead 0 4 (some 1)) = false := by decide
theorem test_illFormed_window : Instr.wellFormed (.pulseDensityWindow 5 [1, 2]) = false := by decide
theorem test_wellFormed_commands : Instr.wellFormed (.registerWrite .hsp (2 ^ 32 - 1) 0) = true ∧
    Instr.wellFormed (.monitorSample 0 (-(2 ^ 23))) = true ∧ Instr.wellFormed (.hspRead 0 4 (some 0)) = true := by decide

/-! ## Witnesses: for every statement with hypotheses, states and operands that meet those of each of its clauses -/

/-- An array of zeros holds no log record: the CRC of 30 zero bytes is not 0. -/
theorem emptyLog (m : Part) : m.logSlots [] = [] := by
  have zero : ∀ a, 0x10000 ≤ a → Mem.byte [] a = 0 := by
    intro a h
    simp only [Mem.byte, Store.get, Store.find, Option.getD_none, memDefault]
    rw [if_neg (by omega)]
  have slot : ∀ k, m.logSlot [] k = none := by
    intro k
    have bytes : Mem.bytes [] (logSlotAddr k) 30 = List.replicate 30 0 := by
      unfold Mem.bytes
      rw [List.eq_replicate_iff]
      refine ⟨by simp, fun b hb => ?_⟩
      obtain ⟨i, _, rfl⟩ := List.mem_map.mp hb
      exact zero _ (by unfold logSlotAddr; omega)
    have crc : Mem.read [] (logSlotAddr k + 30) 2 = 0 := by
      simp only [Mem.read]
      rw [zero _ (by unfold logSlotAddr; omega), zero _ (by unfold logSlotAddr; omega)]
      decide
    have bad : crc16 (List.replicate 30 0) ≠ 0 := by decide +kernel
    simp only [Part.logSlot, bytes, crc]
    rw [if_pos bad]
    split <;> rfl
  unfold Part.logSlots
  simp [slot]

theorem byte_writeBytes (l : List Byte) : ∀ (mem : Mem) (a b : Nat), Mem.byte (Mem.writeBytes mem a l) b =
    if a ≤ b ∧ b < a + l.length then l.getD (b - a) 0 else Mem.byte mem b := by
  induction l with
  | nil => intro mem a b; simp only [Mem.writeBytes, List.length_nil]; rw [if_neg (by omega)]
  | cons x t ih =>
    intro mem a b
    simp only [Mem.writeBytes, List.length_cons]
    rw [ih]
    by_cases h : b = a
    · subst h
      rw [if_neg (by omega), if_pos (by omega), Mem.byte_setByte_same]
      simp
    · rw [Mem.byte_setByte_other _ h]
      by_cases g : a + 1 ≤ b ∧ b < a + 1 + t.length
      · rw [if_pos g, if_pos (by omega), show b - a = (b - (a + 1)) + 1 by omega]
        simp
      · rw [if_neg g, if_neg (by omega)]

/-- A log region in which every slot holds a record of SEV 5. -/
def deviceBytes : List Byte := recordBytes { code := 1, source := 0, sev := 5 } 0
@[irreducible] def filledLog (n : Nat) : Mem := (List.range n).foldl (fun mem k => Mem.writeBytes mem (logSlotAddr k) deviceBytes) []

theorem byte_filledLog (n k i : Nat) (hk : k < n) (hi : i < 32) :
    Mem.byte (filledLog n) (logSlotAddr k + i) = deviceBytes.getD i 0 := by
  have len : deviceBytes.length = 32 := by decide +kernel
  induction n with
  | zero => omega
  | succ n ih =>
    unfold filledLog at ih ⊢
    rw [List.range_succ, List.foldl_append, List.foldl_cons, List.foldl_nil, byte_writeBytes, len]
    unfold logSlotAddr at *
    by_cases h : k = n
    · subst h; rw [if_pos (by omega), Nat.add_sub_cancel_left]
    · rw [if_neg (by omega)]; exact ih (by omega)

theorem fullLogSlot (m : Part) (hm : m.nvm.errs = []) (k : Nat) (hk : k < 2048) : m.logSlot (filledLog 2048) k = some (5, 0) := by
  have byte := fun i (hi : i < 32) => byte_filledLog 2048 k i hk hi
  have bytes : Mem.bytes (filledLog 2048) (logSlotAddr k) 30 = (List.range 30).map (fun i => deviceBytes.getD i 0) := by
    unfold Mem.bytes
    exact List.map_congr_left (fun i hi => byte i (by have := List.mem_range.mp hi; omega))
  have sev : Mem.read (filledLog 2048) (logSlotAddr k + 0x1C) 1 = 5 := by
    simp only [Mem.read, byte 0x1C (by decide)]; decide +kernel
  have crc : Mem.read (filledLog 2048) (logSlotAddr k + 30) 2 = crc16 ((List.range 30).map (fun i => deviceBytes.getD i 0)) := by
    simp only [Mem.read, Nat.add_assoc, byte 30 (by decide), byte 31 (by decide)]; decide +kernel
  have seq : Mem.read (filledLog 2048) (logSlotAddr k) 4 = 0 := by
    have h0 := byte 0 (by decide)
    rw [Nat.add_zero] at h0
    simp only [Mem.read, Nat.add_assoc, h0, byte 1 (by decide), byte 2 (by decide), byte 3 (by decide)]; decide +kernel
  have good : m.nvmBad (logSlotAddr k) 32 = false := by
    simp [Part.nvmBad, hm]
  unfold Part.logSlot
  simp only [sev, bytes, crc, seq, good]
  simp

theorem chooseSlot_full (v : List (Nat × Nat × Nat)) (sev : Nat) (all : ∀ k, k < 2048 → ∃ q ∈ v, q.1 = k)
    (severe : ∀ q ∈ v, sev < q.2.1) : chooseSlot v sev = none := by
  have none1 : (List.range 2048).find? (fun k => v.all (fun q => q.1 ≠ k)) = none := by
    rw [List.find?_eq_none]
    intro k hk h
    rw [List.all_eq_true] at h
    obtain ⟨q, hq, e⟩ := all k (List.mem_range.mp hk)
    have := h q hq
    simp [e] at this
  have none2 : v.filter (fun q => decide (q.2.1 ≤ sev)) = [] := by
    rw [List.filter_eq_nil_iff]
    intro q hq
    have := severe q hq
    simp; omega
  unfold chooseSlot
  simp only [none1, none2, List.foldl_nil, Option.map_none]

theorem fullLog (m : Part) (hm : m.nvm.errs = []) (sev : Nat) (hs : sev < 5) :
    chooseSlot (m.logSlots (filledLog 2048)) sev = none := by
  have slot := fun k hk => fullLogSlot m hm k hk
  generalize filledLog 2048 = mem at slot ⊢
  refine chooseSlot_full _ _ (fun k hk => ⟨(k, 5, 0), ?_, rfl⟩) (fun q hq => ?_)
  · unfold Part.logSlots
    exact List.mem_filterMap.mpr ⟨k, List.mem_range.mpr hk, by rw [slot k hk]; rfl⟩
  · unfold Part.logSlots at hq
    obtain ⟨k, hk, e⟩ := List.mem_filterMap.mp hq
    rw [slot k (List.mem_range.mp hk)] at e
    cases e; exact hs

theorem witness_StepKeepsMemorySound_1 : MemorySound State.reset ∧ step State.reset = .next State.reset.idle :=
  ⟨by unfold MemorySound; decide, rfl⟩

theorem witness_StepKeepsQueuesBounded_1 : QueuesBounded State.reset ∧ step State.reset = .next State.reset.idle :=
  ⟨⟨by decide, by decide, by decide, fun _ => by simp [Part.queueFill, State.reset], fun _ => by
    simp [Part.plan, Store.get, Store.find, State.reset]⟩, rfl⟩

theorem witness_StepOnEmptyQueueTicks_2 :
  let s : State := {};
  s.pending = [] ∧ (∀ h : Fin 8, s.part.freeRuns h = false) ∧ s.part.scrubRuns = false ∧ s.part.sys.loading = false ∧
    s.part.sys.testing = none := by
  decide +kernel

theorem witness_StepOnEmptyQueueTicks_3 :
  let g : Fin 8 := 1;
  let s : State := { part := ((st [(F.SAF_GSTAT_STATE, 1, 4)]).part.setGroup 1 { outStart := 0, period := 1 }) };
  s.pending = [] ∧ s.part.clockStopped = false ∧ s.part.freeRuns g = true ∧
    (s.part.group g).outStart + (s.part.group g).period ≤ s.part.tb.ticks + 1 := by
  decide +kernel

theorem witness_StepOnEmptyQueueTicks_1 :
  let s : State := { part := { tb := { lossNow := true } } };
  s.pending = [] ∧ s.part.clockStopped = true := by
  decide +kernel

theorem witness_BusErrors_1 :
  let wr : Bool := true; let a : Nat := 0x14000000;
  regionOf a = .nowhere ∧ wr = true ∧ writable (regionOf a) = false := by
  decide +kernel

theorem witness_BusErrors_2 :
  let size : Fin 4 := 3; let a : Nat := 0x10000004;
  a % 2 ^ size.val ≠ 0 := by
  decide +kernel

theorem witness_FabricAccesses_1 :
  let size : Fin 4 := 3; let a : Nat := 0x10000008; let s : State := { mem := [(0x10000009, 5)] };
  PlainRead s a ∧ a % 2 ^ size.val = 0 ∧ PlainWrite s a (2 ^ size.val) := by
  unfold PlainRead PlainWrite
  decide +kernel

theorem witness_FabricAccesses_2 :
  let size : Fin 4 := 1; let a : Nat := 0x40000010;
  regionOf a = .peripheral ∧ size ≠ 2 := by
  decide +kernel

theorem witness_FabricAccesses_3 :
  let a : Nat := 0x40030F00;
  regionOf a = .peripheral ∧ a % 4 = 0 ∧ regSpecAt a = none ∧ blockOf a ≠ 1 ∧ blockOf a ≠ 16 := by
  decide +kernel

theorem witness_FabricAccesses_4 :
  let i : Initiator := .hsp; let s : State := { part := { tb := { ticks := 2 ^ 40 } } };
  (let high := holdKey i (R.TMR_TIMELO.base + 4); s.part.holding.find high = none) := by
  decide +kernel

theorem witness_FabricAccesses_5 :
  let i : Initiator := .hsp;
  let s : State := { part := { tb := { ticks := 2 ^ 40 }, holding := [(holdKey .hsp (R.TMR_TIMELO.base + 4), 9)] } };
  (let high := holdKey i (R.TMR_TIMELO.base + 4); (s.part.holding.find high).isSome = true) := by
  decide +kernel

theorem witness_FabricAccesses_6 :
  let i : Initiator := .hsp;
  (i = .hsp ∨ i = .pmb ∨ i = .ydp) := by
  decide +kernel

theorem witness_FabricAccesses_7 :
  let a : Nat := R.TMR_TIMELO.base; let h : Nat := R.TMR_TIMELO.base + 4;
  regionOf a = .peripheral ∧ a % 4 = 0 ∧ R.IC_SEM.covers a = false ∧ a ≠ R.FLT_NEXT.base ∧ a ≠ R.PMC_ALIST.base ∧ isHigh a = false ∧
      highOf a = some h := by
  decide +kernel

theorem witness_AudioFrames_1 :
  let n : Fin 8 := 2; let g : Nat := 1; let s : State := audio [(F.SAF_GSTAT_STATE, 1, 2)];
  PortRuns s g n ∧ s.part.master g = some n.val ∧ (s.part.group g).depthRestart = false ∧ (s.part.group g).handover = false ∧
      (s.part.group g).judged = false ∧ (s.part.get F.SAF_GSTAT_STATE g = grpLocked ∨ s.part.get F.SAF_GSTAT_STATE g = grpHoldover) ∧ s.part.get
      F.SAF_GSTAT_STATE g = grpLocked := by
  unfold PortRuns
  decide +kernel

theorem witness_AudioFrames_2 :
  let n : Fin 8 := 0; let s : State := st [(F.AUD_PSTAT_BCLKOK, 0, 1)];
  s.part.is F.AUD_PCFG_EN n = false ∧ s.part.groupOfPort n = none := by
  decide +kernel

theorem witness_AudioFrames_3 :
  let n : Fin 8 := 2; let g : Nat := 1; let s : State := audio [(F.SAF_GSTAT_STATE, 1, 3)];
  PortRuns s g n ∧ s.part.master g = some n.val ∧ (s.part.group g).handover = false ∧ s.part.get F.SAF_GSTAT_STATE g =
      grpHoldover := by
  unfold PortRuns
  decide +kernel

theorem witness_AudioFrames_4 :
  let n : Fin 8 := 2; let g : Nat := 1; let s : State := audio [(F.SAF_GSTAT_STATE, 1, 2)];
  s.part.is F.AUD_PCFG_EN n = true ∧ s.part.groupOfPort n = some g := by
  decide +kernel

theorem witness_AudioFrames_5 :
  let n : Fin 8 := 0; let s : State := {};
  s.part.is F.AUD_PCFG_EN n = false := by
  decide +kernel

theorem witness_AudioFrames_6 :
  let n : Fin 8 := 2; let g : Nat := 1; let s : State := audio [(F.SAF_GSTAT_STATE, 1, 3)];
  PortRuns s g n ∧ s.part.onTimeline g = true ∧ (s.part.group g).depthRestart = false ∧ (s.part.group g).handover = false ∧
      (s.part.group g).judged = false ∧ s.part.get F.SAF_GSTAT_STATE g = grpHoldover := by
  unfold PortRuns
  decide +kernel

theorem witness_AudioFrames_7 :
  let n : Fin 8 := 2; let g : Nat := 1; let s : State := audio [(F.SAF_GSTAT_STATE, 1, 2)];
  PortRuns s g n ∧ s.part.master g = some n.val ∧ (s.part.group g).handover = false ∧ (s.part.group g).lost = false ∧
      s.part.get F.SAF_GSTAT_STATE g = grpLocked ∧ s.part.is F.AUD_PCFG_EN n = true ∧ s.part.onTimeline g = true := by
  unfold PortRuns
  decide +kernel

theorem witness_AudioFrames_8 :
  let n : Fin 8 := 2; let g : Nat := 1; let s : State := audio [(F.SAF_GSTAT_STATE, 1, 4)];
  s.part.is F.AUD_PCFG_EN n = true ∧ s.part.groupOfPort n = some g ∧ (s.part.master g ≠ some n.val ∨ s.part.onTimeline g = false) := by
  decide +kernel

theorem witness_PortEnables_1 :
  let n : Fin 8 := 2; let v : Word := 0x00000001; let s : State := audio [];
  (let bad := fieldOf v F.AUD_PCFG_SLOTS = 0 ∨ fieldOf v F.AUD_PCFG_WLEN = 3 ∨ fieldOf v F.AUD_PCFG_FMT = 3; let format := bitsOf (s.part.word (R.AUD_PCFG.addr n)) 0 16 &&& 0xFFE3 = bitsOf v 0 16 &&& 0xFFE3; (bad ∨ s.part.groupOfPort n = none ∨ (s.part.is F.AUD_PCFG_EN n = true ∧ ¬format))) ∧
  (let bad := fieldOf v F.AUD_PCFG_SLOTS = 0 ∨ fieldOf v F.AUD_PCFG_WLEN = 3 ∨ fieldOf v F.AUD_PCFG_FMT = 3; bad) := by
  decide +kernel

theorem witness_PortEnables_2 :
  let n : Fin 8 := 2; let g : Nat := 1; let v : Word := 0x1000; let s : State := st [(F.SAF_GCFG_PORTS, 1, 4)];
  (let bad := fieldOf v F.AUD_PCFG_SLOTS = 0 ∨ fieldOf v F.AUD_PCFG_WLEN = 3 ∨ fieldOf v F.AUD_PCFG_FMT = 3; ¬bad ∧ s.part.is F.AUD_PCFG_EN n = false ∧ s.part.groupOfPort n = some g ∧ s.part.get F.SAF_GSTAT_STATE g = grpIdle) := by
  decide +kernel

theorem witness_PortEnables_3 :
  let n : Fin 8 := 2; let g : Nat := 1; let v : Word := (withBits ((audio []).part.word (R.AUD_PCFG.addr 2)) 31 1 0);
  let s : State := audio [(F.SAF_GSTAT_STATE, 1, 2)];
  (let bad := fieldOf v F.AUD_PCFG_SLOTS = 0 ∨ fieldOf v F.AUD_PCFG_WLEN = 3 ∨ fieldOf v F.AUD_PCFG_FMT = 3; let format := bitsOf (s.part.word (R.AUD_PCFG.addr n)) 0 16 &&& 0xFFE3 = bitsOf v 0 16 &&& 0xFFE3; ¬bad ∧ format ∧ s.part.is F.AUD_PCFG_EN n = true ∧ s.part.groupOfPort n = some g ∧ s.part.groupPorts g = [n.val]) := by
  decide +kernel

theorem witness_GainsSquash_1 :
  let c : Fin 64 := 3; let r : Fin 63 := 5; let v : Word := 77; let s : State := audio [];
  s.part.railOfChannel c = some r.val ∧ s.part.changes F.SAF_LGAIN_LGAIN c v = true ∧ s.part.changes F.SAF_FSG_FS_GAIN c v =
      true ∧ s.part.changes F.SAF_MARGIN_VALUE r v = true ∧ s.part.changes F.SAF_VDROP_VALUE r v = true := by
  decide +kernel

theorem witness_GainsSquash_2 :
  let c : Fin 64 := 4; let v : Word := 77; let s : State := audio [];
  (s.part.railOfChannel c = none ∨ s.part.changes F.SAF_LGAIN_LGAIN c v = false) := by
  decide +kernel

theorem witness_ChannelMapping_1 :
  let c : Fin 64 := 3; let r : Fin 63 := 5; let v : Word := 0xFFFFFFFF; let s : State := audio [];
  fieldOf v F.SAF_CHMAP_RAIL = 63 ∧ s.part.railOfChannel c = some r.val ∧ s.part.is F.SAF_CHMAP_MUTE c = false := by
  decide +kernel

theorem witness_ChannelMapping_2 :
  let c : Fin 64 := 20; let q : Fin 63 := 6;
  let v : Word := (withBits (withBits 0 (F.SAF_CHMAP_RAIL.lo) 6 6) F.SAF_CHMAP_MAPEN.lo 1 1);
  let s : State := { part := put {} ((List.range 8).flatMap (fun c => [(F.SAF_CHMAP_MAPEN, c, 1), (F.SAF_CHMAP_RAIL, c, 6)])) };
  fieldOf v F.SAF_CHMAP_RAIL = q.val ∧ fieldOf v F.SAF_CHMAP_MAPEN = 1 ∧ s.part.railOfChannel c ≠ some q.val ∧ 8 ≤
      ((s.part.railChannels q).filter (fun x => x ≠ c.val)).length := by
  decide +kernel

theorem witness_ChannelMapping_3 :
  let c : Fin 64 := 3; let r : Fin 63 := 5; let q : Fin 63 := 9;
  let v : Word := (withBits (withBits 0 (F.SAF_CHMAP_RAIL.lo) 6 9) F.SAF_CHMAP_MAPEN.lo 1 1); let s : State := audio [];
  s.part.chmapFault c v = none ∧ s.part.railOfChannel c = some r.val ∧ fieldOf v F.SAF_CHMAP_RAIL = q.val ∧ fieldOf v
      F.SAF_CHMAP_MAPEN = 1 ∧ r ≠ q := by
  decide +kernel

theorem witness_ChannelMapping_4 :
  let c : Fin 64 := 3; let r : Fin 63 := 5; let s : State := audio [(F.SAF_CHMAP_MUTE, 3, 1)];
  s.part.railOfChannel c = some r.val ∧ s.part.is F.SAF_CHMAP_MUTE c = true := by
  decide +kernel

theorem witness_KnotsAndPlans_1 :
  let r : Fin 63 := 5; let v : Word := 0; let s : State := audio [];
  s.part.knotReady r = false ∧ s.part.is F.SAF_RSTAT_RECOMP r = false ∧ (fieldOf v F.SAF_GCFG_DEPTH < 16 ∨ 4096 < fieldOf v
      F.SAF_GCFG_DEPTH) ∧ fieldOf v F.SAF_CTRL_EN = 0 ∧ (∀ q : Fin 63, s.part.get F.RAIL_SRC_SRC q = 0 → s.part.railState q =
      railOff) := by
  decide +kernel

theorem witness_KnotsAndPlans_2 :
  let r : Fin 63 := 5; let v : Word := 1;
  let s : State := { part := (audio [(F.SAF_GSTAT_STATE, 1, 2), (F.RAIL_CTRL_STATE, 5, 3),
    (F.RAIL_SRC_SRC, 5, 0)]).part.setGroup 1 { inFrame := 5000 } };
  s.part.knotReady r = true ∧ fieldOf v F.SAF_CTRL_EN = 1 := by
  decide +kernel

theorem witness_KnotsAndPlans_3 :
  let r : Fin 63 := 5; let s : State := audio [(F.SAF_RSTAT_RECOMP, 5, 1)];
  s.part.is F.SAF_RSTAT_RECOMP r = true := by
  decide +kernel

theorem witness_KnotsAndPlans_4 :
  let g : Fin 8 := 1;
  let v : Word := (withBits ((audio []).part.word (R.SAF_GCFG.addr 1)) F.SAF_GCFG_DEPTH.lo F.SAF_GCFG_DEPTH.width 32);
  let s : State := audio [(F.SAF_GSTAT_STATE, 1, 2)];
  s.part.gcfgFault g v = none ∧ s.part.changes F.SAF_GCFG_DEPTH g v = true ∧ s.part.get F.SAF_GSTAT_STATE g ≠ grpIdle := by
  decide +kernel

theorem witness_KnotsAndPlans_5 :
  let r : Fin 63 := 5; let v : Word := 0; let s : State := audio [(F.RAIL_CTRL_STATE, 5, 3), (F.RAIL_SRC_SRC, 5, 0)];
  fieldOf v F.SAF_CTRL_EN = 0 ∧ s.part.is F.SAF_CTRL_EN 0 = true ∧ s.part.get F.RAIL_SRC_SRC r = 0 ∧ s.part.railState r ≠
      railOff := by
  decide +kernel

theorem witness_InvocationsAndAdmission_1 :
  let l : Fin 16 := 2; let t0 : Task := .volt 5; let p : Fin 128 := 4; let r : Fin 63 := 5;
  let q : Ready := { task := .volt 5, gen := 3, deadline := 9, lane := 2 };
  let w : PendPeriod := { value := 500, who := .hsp, addr := R.PWM_PERIOD.addr 4 };
  let m := ((put (onLane curr4 []).part []).setLane 2 {}).setPwm 4 { pendPeriod := some { value := 500, who := .hsp, addr := R.PWM_PERIOD.addr 4 } };
  let s : State := { part := ({ m with bsl := { m.bsl with ready := [{ task := .volt 5, gen := 3, deadline := 9, lane := 2 }] } }).setBslRail 5 { lane := 2, placed := true } };
  s.part.outstanding t0 = true ∧ s.part.tb.dbgHalt = false ∧ (s.part.pwmAt p).pendPeriod = some w ∧ s.part.pendingAt
        (R.PWM_PERIOD.addr p) = [p.val] ∧ w.value < 65536 ∧ s.part.bsl.readmit = false ∧ (s.part.bslRail r).retPend = none ∧
        (s.part.poolAt p).move = none ∧ s.part.get F.BSL_MISS_COUNT 0 + s.part.outstandingCount t0 < 2 ^ F.BSL_MISS_COUNT.width ∧
    (let pick := pickReady (s.part.bsl.ready.filter (fun q => s.part.placeOf q.task = some l.val && !s.part.taskRunning q.task));
     let on := s.part.is F.BSL_CTRL_EN 0 = true ∧ s.part.tb.dbgHalt = false ∧ s.part.bit F.BSL_LANEST_INSV 0 l = true;
     on ∧ (∀ z ∈ (s.part.lane l).run, z.isOpt = true) ∧ pick = some q ∧ (q.task = .volt r ∨ q.task = .curr p)) := by
  decide +kernel

theorem witness_InvocationsAndAdmission_2 :
  let l : Fin 16 := 2; let t0 : Task := .volt 5; let y : Run := curr4; let s : State := onLane curr4 [];
  (s.part.lane l).run = some y ∧ y.isOpt = false ∧ (s.part.outstanding t0 = false ∨ s.part.tb.dbgHalt = true) := by
  decide +kernel

theorem witness_InvocationsAndAdmission_3 :
  let l : Fin 16 := 2; let s : State := st [];
  (let on := s.part.is F.BSL_CTRL_EN 0 = true ∧ s.part.tb.dbgHalt = false ∧ s.part.bit F.BSL_LANEST_INSV 0 l = true; ¬on) := by
  decide +kernel

theorem witness_LanesAndMargin_1 :
  let l : Fin 16 := 2; let j : Fin 16 := 3;
  let s : State := { part := (put {} [(F.BSL_LANEST_RET, 0, 4), (F.BSL_LANEEN_EN, 0, 0xFFFB)]).setLane 2 { check := true } };
  s.part.bit F.BSL_LANEST_INSV 0 l = true ∧ (s.part.lane l).check = true ∧
      s.part.lanesIn ≠ [] ∧ (s.part.is F.BSL_OTASK_EN j = false ∨ s.part.get F.BSL_OTASK_INTERVAL j = 0) := by
  decide +kernel

theorem witness_LanesAndMargin_2 :
  let l : Fin 16 := 2; let j : Fin 16 := 3;
  let s : State := onLane curr4 [(F.BSL_OTASK_EN, 3, 1), (F.BSL_OTASK_INTERVAL, 3, 100)];
  (s.part.lane l).check = false ∧ s.part.is F.BSL_OTASK_EN j = true ∧ 0 < s.part.get F.BSL_OTASK_INTERVAL j := by
  decide +kernel

theorem witness_LanesAndMargin_3 :
  let l : Fin 16 := 2; let s : State := st [(F.BSL_LANEST_INSV, 0, 0)];
  s.part.lanesIn = [] ∧ s.part.bit F.BSL_LANEST_INSV 0 l = false := by
  decide +kernel

theorem witness_LProfileMovesAndArithmetic_1 :
  let l : Fin 16 := 2; let port : Fin 32 := 3; let sa : Fin 32 := 1; let sh : Fin 64 := 10; let p : Fin 4 := 1;
  let off : BitVec 12 := 5; let x : Run := curr4; let a : Word := ((curr4).src 1).getD 0; let s : State := onLane (curr4) [];
  LaneReady s l x 1 ∧ x.src sa = some a ∧ port.val < 16 ∧ x.isOpt = false ∧ x.isVolt = false ∧ sh.val ≤ 39 ∧ x.ptr p +
      off.toNat ≤ 65535 ∧ x.mayStore (x.ptr p + off.toNat) = false := by
  unfold LaneReady
  decide +kernel

theorem witness_LProfileMovesAndArithmetic_2 :
  let l : Fin 16 := 2; let port : Fin 32 := 3; let sa : Fin 32 := 1; let sh : Fin 64 := 40; let x : Run := opt1;
  let a : Word := ((opt1).src 1).getD 0; let s : State := onLane (opt1) [];
  LaneReady s l x 1 ∧ x.src sa = some a ∧ port.val < 16 ∧ x.isOpt = true ∧ 39 < sh.val := by
  unfold LaneReady
  decide +kernel

theorem witness_LProfileMovesAndArithmetic_3 :
  let l : Fin 16 := 2; let port : Fin 32 := 31; let sa : Fin 32 := 1; let x : Run := volt5;
  let a : Word := ((volt5).src 1).getD 0; let s : State := onLane (volt5) [];
  LaneReady s l x 1 ∧ x.src sa = some a ∧ 16 ≤ port.val ∧ x.isVolt = true := by
  unfold LaneReady
  decide +kernel

theorem witness_LProfileMovesAndArithmetic_4 :
  let l : Fin 16 := 2; let sa : Fin 32 := 1; let p : Fin 4 := 1; let off : BitVec 12 := 5;
  let x : Run := { curr4 with p := [(1, 64)] }; let a : Word := (({ curr4 with p := [(1, 64)] }).src 1).getD 0;
  let s : State := onLane ({ curr4 with p := [(1, 64)] }) [];
  LaneReady s l x 1 ∧ x.src sa = some a ∧ x.ptr p + off.toNat ≤ 65535 ∧ (x.store (x.ptr p + off.toNat) a).isSome = true := by
  unfold LaneReady
  decide +kernel

theorem witness_LProfileMovesAndArithmetic_5 :
  let l : Fin 16 := 2; let sa : Fin 32 := 1; let p : Fin 4 := 1; let off : BitVec 12 := 1;
  let x : Run := { curr4 with p := [(1, 65535)] }; let a : Word := (({ curr4 with p := [(1, 65535)] }).src 1).getD 0;
  let s : State := onLane ({ curr4 with p := [(1, 65535)] }) [];
  LaneReady s l x 1 ∧ x.src sa = some a ∧ 65535 < x.ptr p + off.toNat := by
  unfold LaneReady
  decide +kernel

theorem witness_LProfileMovesAndArithmetic_6 :
  let l : Fin 16 := 2; let sa : Fin 32 := 2; let sb : Fin 32 := 3; let lo : Fin 32 := 1; let hi : Fin 32 := 3;
  let pc : Fin 4 := 1; let ps : Fin 4 := 0; let x : Run := curr4; let a : Word := ((curr4).src 2).getD 0;
  let b : Word := ((curr4).src 3).getD 0; let c : Word := ((curr4).src 1).getD 0; let d : Word := ((curr4).src 3).getD 0;
  let s : State := { (onLane (curr4) []) with mem := Mem.write (Mem.write [] (lsmAddr 0x100) 1 4) (lsmAddr 0x104) 0x40000000 4 };
  LaneReady s l x 1 ∧ x.src sa = some a ∧ x.src sb = some b ∧ x.src lo = some c ∧ x.src hi = some d ∧ hi.val ≠ 0 ∧ x.isOpt =
      false ∧ x.used + 2 ≤ x.cost ∧ x.used + (1 + 3 * x.sections s.mem (x.ptr pc)) ≤ x.cost ∧ (x.sos s.mem false (x.ptr pc)
      (x.ptr ps) a.toInt).isSome = true := by
  unfold LaneReady
  decide +kernel

theorem witness_LProfileMovesAndArithmetic_7 :
  let l : Fin 16 := 2; let sa : Fin 32 := 1; let sb : Fin 32 := 2; let lo : Fin 32 := 0; let hi : Fin 32 := 3;
  let x : Run := opt1; let a : Word := ((opt1).src 1).getD 0; let b : Word := ((opt1).src 2).getD 0;
  let c : Word := ((opt1).src 0).getD 0; let d : Word := ((opt1).src 3).getD 0; let s : State := onLane (opt1) [];
  LaneReady s l x 1 ∧ x.src sa = some a ∧ x.src sb = some b ∧ x.src lo = some c ∧ x.src hi = some d ∧ x.isOpt = true := by
  unfold LaneReady
  decide +kernel

theorem witness_LProfileMovesAndArithmetic_8 :
  let l : Fin 16 := 2; let sa : Fin 32 := 2; let sb : Fin 32 := 3; let lo : Fin 32 := 1; let hi : Fin 32 := 3;
  let pc : Fin 4 := 1; let ps : Fin 4 := 0; let x : Run := { curr4 with fmt := 1 };
  let a : Word := (({ curr4 with fmt := 1 }).src 2).getD 0; let b : Word := (({ curr4 with fmt := 1 }).src 3).getD 0;
  let c : Word := (({ curr4 with fmt := 1 }).src 1).getD 0; let d : Word := (({ curr4 with fmt := 1 }).src 3).getD 0;
  let s : State := { (onLane ({ curr4 with fmt := 1 }) []) with mem := Mem.write (Mem.write [] (lsmAddr 0x100) 1 4) (lsmAddr 0x104) 0x40000000 4 };
  LaneReady s l x 1 ∧ x.src sa = some a ∧ x.src sb = some b ∧ x.src lo = some c ∧ x.src hi = some d ∧ x.used + (1 + x.sections
      s.mem (x.ptr pc)) ≤ x.cost ∧ (x.sos s.mem true (x.ptr pc) (x.ptr ps) a.toInt).isSome = true := by
  unfold LaneReady
  decide +kernel

theorem witness_LProfileControl_1 :
  let l : Fin 16 := 2; let n : Fin 16 := 0;
  let x : Run := { curr4 with stepped := true, duty := some 70000, writes := [(66, some 0x123)] };
  let s : State := onLane { curr4 with stepped := true, duty := some 70000, writes := [(66, some 0x123)] } [(F.POOL_PSTAT_RAIL, 4, 5)];
  LaneReady s l x 1 ∧ n.val = 0 ∧ x.stepped = true ∧ x.gen = s.part.taskGen x.task ∧ (s.part.lane l).run = some x := by
  unfold LaneReady
  decide +kernel

theorem witness_LProfileControl_2 :
  let l : Fin 16 := 2; let sa : Fin 32 := 1; let n : Fin 16 := 3; let x : Run := curr4; let a : Word := 0x80000005;
  let s : State := onLane curr4 [];
  LaneReady s l x 1 ∧ x.src sa = some a ∧ 0 < n.val ∧ (∀ k, s.part.slotLen x = some k → x.ip + n.val < k) := by
  unfold LaneReady
  decide +kernel

theorem witness_LProfileControl_3 :
  let l : Fin 16 := 2; let x : Run := { curr4 with stepped := true, gen := 1 };
  let s : State := onLane { curr4 with stepped := true, gen := 1 } [];
  LaneReady s l x 1 ∧ x.stepped = true ∧ x.gen ≠ s.part.taskGen x.task := by
  unfold LaneReady
  decide +kernel

theorem witness_LProfileControl_4 :
  let l : Fin 16 := 2; let x : Run := { curr4 with cost := 1 }; let s : State := onLane { curr4 with cost := 1 } [];
  (s.part.lane l).run = some x ∧ (x.cost < x.used + 1 ∨ s.part.inExtent x = false) := by
  decide +kernel

theorem witness_LProfileControl_5 :
  let l : Fin 16 := 2; let s : State := st [];
  (s.part.lane l).run = none := by
  decide +kernel

theorem witness_LProfileControl_6 :
  let l : Fin 16 := 2; let x : Run := opt1; let s : State := onLane opt1 [];
  LaneReady s l x 1 ∧ x.isOpt = true := by
  unfold LaneReady
  decide +kernel

theorem witness_PhaseEvents_1 :
  let p : Fin 128 := 4; let s : State := phase [];
  s.part.is F.PWM_CFG_EN p = true ∧ s.part.switches p = true ∧ s.part.pwmRuns p = false ∧ (s.part.pwmAt p).locked = true := by
  decide +kernel

theorem witness_PhaseEvents_2 :
  let p : Fin 128 := 4; let s : State := st [];
  s.part.is F.PWM_CFG_EN p = false := by
  decide +kernel

theorem witness_PhaseEvents_3 :
  let p : Fin 128 := 4;
  let s : State := { part := (phase [(F.PWM_CMPA_VALUE, 4, 320), (F.PWM_EVC_PS, 4, 0)]).part.setPwm 4 { (phase []).part.pwmAt 4 with start := false } };
  s.part.is F.PWM_CFG_EN p = true ∧ s.part.pwmRuns p = true ∧ 0 < s.part.get F.PWM_CMPA_VALUE p ∧
      s.part.get F.PWM_CMPA_VALUE p < 32 * s.part.get F.PWM_ACT_VALUE p ∧ (s.part.pwmAt p).cmpb < s.part.get F.PWM_ACT_VALUE p := by
  decide +kernel

theorem witness_PhaseEvents_4 :
  let p : Fin 128 := 4;
  let s : State := { part := (phase [(F.PWM_CMPA_VALUE, 4, 32000), (F.PWM_ACT_VALUE, 4, 500)]).part.setPwm 4 { (phase []).part.pwmAt 4 with start := false } };
  s.part.is F.PWM_CFG_EN p = true ∧ s.part.pwmRuns p = true ∧
      (s.part.get F.PWM_CMPA_VALUE p = 0 ∨ 32 * s.part.get F.PWM_ACT_VALUE p ≤ s.part.get F.PWM_CMPA_VALUE p) ∧
      s.part.get F.PWM_ACT_VALUE p ≤ (s.part.pwmAt p).cmpb := by
  decide +kernel

theorem witness_SnapshotComputes_1 :
  let p : Fin 128 := 4; let s : State := phase [(F.PWM_DUTY_VALUE, 4, 1024)];
  s.part.is F.PWM_CFG_EN p = true ∧ (s.part.pwmAt p).err = 0 ∧ s.part.get F.FLK_LSTAT_STATE (laneOf p) ≠ 5 ∧ ((s.part.pwmAt
      p).perNew = false ∨ s.part.is F.PWM_CFG_PAIRGUARD p = false) := by
  decide +kernel

theorem witness_SnapshotComputes_2 :
  let p : Fin 128 := 4;
  let s : State := { part := (phase [(F.PWM_PERIOD_PERIOD, 4, 800)]).part.setPwm 4 { perNew := true, start := true } };
  s.part.is F.PWM_CFG_EN p = true ∧ (s.part.pwmAt p).err = 0 ∧ s.part.get F.FLK_LSTAT_STATE (laneOf p) ≠ 5 ∧
      (s.part.pwmAt p).perNew = true ∧ s.part.is F.PWM_CFG_PAIRGUARD p = true ∧ s.part.pwmRuns p = false := by
  decide +kernel

theorem witness_PeriodAndShadowWrites_1 :
  let p : Fin 128 := 4; let r : Fin 63 := 6; let v : Word := 1000;
  let s : State := st [(F.POOL_PSTAT_RAIL, 12, 9), (F.POOL_PSTAT_RAIL, 13, 9)];
  s.part.periodInRange (bitsOf v 0 16) = true ∧ s.part.admittedPeriod p ≤ bitsOf v 0 16 ∧ (∀ q : Fin 128, s.part.phRail q ≠ r)
      ∧ (∀ q : Fin 128, s.part.phRail q = r → s.part.admittedPeriod q ≤ bitsOf v 0 16) := by
  decide +kernel

theorem witness_PeriodAndShadowWrites_2 :
  let r : Fin 63 := 5; let v : Word := 196; let s : State := phase [];
  s.part.periodInRange (bitsOf v 0 16) = false ∧ (∃ q : Fin 128, s.part.phRail q = r) := by
  decide +kernel

theorem witness_PeriodAndShadowWrites_3 :
  let p : Fin 128 := 4; let v : Word := 197; let s : State := phase [(F.TB_CFG_RSEL, 0, 0)];
  s.part.periodInRange (bitsOf v 0 16) = true ∧ bitsOf v 0 16 < s.part.admittedPeriod p := by
  decide +kernel

theorem witness_PeriodAndShadowWrites_4 :
  let p : Fin 128 := 4; let s : State := phase [(F.PWM_RSYNC_AUTOOFF, 5, 1)];
  s.part.is F.PWM_CFG_DSRC p = false ∧ s.part.phRail p < 63 ∧ s.part.is F.PWM_RSYNC_AUTOOFF (s.part.phRail p) = true := by
  decide +kernel

theorem witness_PeriodAndShadowWrites_5 :
  let p : Fin 128 := 4; let s : State := phase [(F.PWM_CFG_DSRC, 4, 1), (F.PWM_RSYNC_DIV, 5, 3)];
  s.part.is F.PWM_CFG_DSRC p = true := by
  decide +kernel

theorem witness_PeriodAndShadowWrites_6 :
  let p : Fin 128 := 4; let s : State := phase [(F.PWM_RSYNC_AUTOOFF, 5, 0)];
  s.part.is F.PWM_RSYNC_AUTOOFF (s.part.phRail p) = false := by
  decide +kernel

theorem witness_TripsAndSafeState_1 :
  let p : Fin 128 := 4;
  let s : State := phase [(F.PWM_TRIP_EN, 3, 1), (F.PWM_TRIP_POL, 3, 1), (F.PWM_TRIP_ACT, 3, 1), (F.PWM_TRIP_RAIL, 3, 63), (F.PWM_TRIP_LEVEL, 3, 1)];
  (s.part.pwmAt p).blank ≤ 1 ∧ s.part.switches p = true ∧ s.part.guardActive p 1 = true := by
  decide +kernel

theorem witness_TripsAndSafeState_2 :
  let p : Fin 128 := 4; let s : State := { part := (phase []).part.setPwm 4 { blank := 2 } };
  1 < (s.part.pwmAt p).blank := by
  decide +kernel

theorem witness_TimebaseRelockAndLoss_1 :
  let v : Word := 0; let s : State := phase [];
  s.part.allOff = true ∧ s.part.flintDisabled = true ∧ fieldOf v F.TB_CFG_RSEL ≠ 3 := by
  decide +kernel

theorem witness_TimebaseRelockAndLoss_2 :
  let v : Word := 3; let s : State := phase [];
  (s.part.allOff = false ∨ s.part.flintDisabled = false ∨ fieldOf v F.TB_CFG_RSEL = 3) := by
  decide +kernel

theorem witness_FlintFramesAndBringUp_1 :
  let n : Fin 16 := 1; let i : Fin 8 := 4;
  let symbols : List Byte := frame ((8 :: List.replicate 50 0) ++ [0x23, 0x01, 0x00, 0xB1] ++ List.replicate 12 0);
  let s : State := ring [(F.POOL_PSTAT_EPOCH, 12, 3), (F.POOL_PSTAT_STATE, 12, 1), (F.FLK_LSTAT_STATE, 1, 2)];
  lnEnum ≤ s.part.lnState n ∧ s.part.frameValid n true symbols = true ∧ i.val < s.part.npos n ∧
      reportParity (reportSlot symbols i) = true ∧ bitsOf (reportSlot symbols i) 24 1 = 1 ∧
      bitsOf (reportSlot symbols i) 28 2 = s.part.get F.POOL_PSTAT_EPOCH 12 ∧ s.part.phState 12 = phActive := by
  decide +kernel

theorem witness_FlintFramesAndBringUp_2 :
  let n : Fin 16 := 1; let s : State := st [(F.FLK_LSTAT_STATE, 1, 1)];
  s.part.lnState n < lnEnum := by
  decide +kernel

theorem witness_FlintFramesAndBringUp_3 :
  let n : Fin 16 := 1; let found : Nat := 3; let s : State := ring [(F.FLK_LSTAT_STATE, 1, 2)];
  s.part.lnState n ≠ lnTrain ∧ s.part.lnState n = lnEnum ∧ found ≠ s.part.npos n ∧ (s.part.lnState n = lnTrain ∨
      s.part.lnState n = lnEnum) ∧ s.part.lnState n ≠ lnUp := by
  decide +kernel

theorem witness_FlintFramesAndBringUp_4 :
  let n : Fin 16 := 1; let v : Word := ((ring []).part.word (R.FLK_LCFG.addr 1)); let s : State := ring [];
  s.part.lnState n = lnUp ∧ s.part.is F.FLK_LCFG_EN n = true ∧ s.part.laneSwitches n = false ∧ 3 ≤ fieldOf v F.FLK_LCFG_STO ∧
      fieldOf v F.FLK_LCFG_NPOS = s.part.npos n ∧ 0 < s.part.npos n ∧ s.part.npos n ≤ 8 := by
  decide +kernel

theorem witness_FlintFramesAndBringUp_5 :
  let n : Fin 16 := 1; let s : State := ring [(F.FLK_LCFG_EN, 1, 0), (F.FLK_LSTAT_STATE, 1, 0)];
  s.part.is F.FLK_LCFG_EN n = false ∧ 3 ≤ s.part.get F.FLK_LCFG_STO n ∧ 0 < s.part.npos n ∧ s.part.npos n ≤ 8 ∧
      s.part.domainOff (6 + n.val / 8) = false := by
  decide +kernel

theorem witness_FlintFramesAndBringUp_6 :
  let n : Fin 16 := 1; let s : State := ring [(F.FLK_LCFG_EN, 1, 0), (F.FLK_LSTAT_STATE, 1, 0), (F.SYS_PWRST_OFF, 0, 0x40)];
  s.part.is F.FLK_LCFG_EN n = false ∧ 3 ≤ s.part.get F.FLK_LCFG_STO n ∧ 0 < s.part.npos n ∧ s.part.npos n ≤ 8 ∧
      s.part.domainOff (6 + n.val / 8) = true := by
  decide +kernel

theorem witness_FlintFramesAndBringUp_7 :
  let n : Fin 16 := 1; let s : State := ring [(F.FLK_LSTAT_STATE, 1, 1)];
  s.part.lnState n = lnTrain := by
  decide +kernel

theorem witness_FlintFramesAndBringUp_8 :
  let n : Fin 16 := 1; let s : State := ring [(F.FLK_LSTAT_STATE, 1, 3)];
  s.part.lnState n = lnConfig := by
  decide +kernel

theorem witness_FlintFramesAndBringUp_9 :
  let n : Fin 16 := 1; let s : State := ring [(F.POOL_PSTAT_STATE, 12, 1)];
  s.part.is F.FLK_LCFG_EN n = true ∧ s.part.laneSwitches n = true := by
  decide +kernel

theorem witness_FlintFramesAndBringUp_10 :
  let n : Fin 16 := 1; let symbols : List Byte := frame (List.replicate 67 0);
  let s : State := ring [(F.FLK_LSTAT_STATE, 1, 2)];
  lnEnum ≤ s.part.lnState n ∧ frameCrcOk symbols = true ∧ s.part.frameValid n true symbols = false := by
  decide +kernel

theorem witness_FlintManagement_1 :
  let n : Fin 16 := 1; let x : FlkTrans := raw1; let s : State := laneOn { trans := some raw1, resp := [0xD005, 7] } [(F.FLK_MCMD_GO, 1, 1)];
  s.part.is F.FLK_MCMD_GO n = true ∧ FlkAnswered s n x ∧ x.raw = true ∧ x.len ≤ 64 := by
  unfold FlkAnswered
  decide +kernel

theorem witness_FlintManagement_2 :
  let n : Fin 16 := 1; let s : State := ring [];
  s.part.is F.FLK_MCMD_GO n = false ∧ s.part.lnState n = lnUp ∧ (s.part.flkLane n).trans = none := by
  decide +kernel

theorem witness_FlintManagement_3 :
  let n : Fin 16 := 1; let x : FlkTrans := { raw1 with tries := 2 };
  let s : State := rawOn { raw1 with tries := 2 } [(F.FLK_LCFG_RETRY, 1, 2)];
  (s.part.flkLane n).trans = some x ∧ (requestWords x).length ≤ x.sent ∧ (s.part.flkLane n).resp = [] ∧ x.raw = true ∧
      s.part.get F.FLK_LCFG_RETRY n ≤ x.tries := by
  decide +kernel

theorem witness_FlintManagement_4 :
  let n : Fin 16 := 1; let s : State := st [];
  s.part.is F.FLK_MCMD_GO n = false ∧ s.part.lnState n ≠ lnUp := by
  decide +kernel

theorem witness_FlintManagement_5 :
  let n : Fin 16 := 1; let x : FlkTrans := raw1; let s : State := rawOn raw1 [(F.FLK_LCFG_RETRY, 1, 2)];
  (s.part.flkLane n).trans = some x ∧ (requestWords x).length ≤ x.sent ∧ (s.part.flkLane n).resp = [] ∧
      x.tries < s.part.get F.FLK_LCFG_RETRY n := by
  decide +kernel

theorem witness_FlintManagement_6 :
  let n : Fin 16 := 1; let x : FlkTrans := raw1;
  let s : State := laneOn { trans := some raw1, resp := [0xD006] } [(F.FLK_MCMD_GO, 1, 1), (F.FLK_LCFG_RETRY, 1, 0)];
  (s.part.flkLane n).trans = some x ∧ (requestWords x).length ≤ x.sent ∧
    (let resp := (s.part.flkLane n).resp;
     (s.part.flkLane n).broken = true ∨ (resp ≠ [] ∧ (r0Match x (resp.headD 0) = false ∨ r0Code (resp.headD 0) ≠ 0))) ∧ x.raw = true ∧
    s.part.get F.FLK_LCFG_RETRY n ≤ x.tries := by
  decide +kernel

theorem witness_MicaSegmentsAndSurveys_1 :
  let p : Fin 128 := 12; let s : State := ring [];
  s.part.micaWorks p = true ∧ (s.part.flkLane (laneOf p)).jobs.contains (.faults p) = false := by
  decide +kernel

theorem witness_MicaSegmentsAndSurveys_7 :
  let p : Fin 128 := 12; let low : Bool := true;
  let s : State := { (ring []) with part := { (ring []).part with mica := { due := [25] } } };
  s.part.micaWorks p = true ∧ s.part.rebuildDue s.mem p low = true ∧ s.part.rebuildDue s.mem p false = false ∧
      (s.part.flkLane (laneOf p)).jobs.contains (.rebuild p low) = false := by
  decide +kernel

theorem witness_MicaSegmentsAndSurveys_2 :
  let p : Fin 128 := 12; let s : State := ring [(F.MICA_CTRL_EN, 0, 0), (F.MICA_CTRL_XSEG, 0, 1)];
  s.part.micaWorks p = false ∧ s.part.micaOn = false ∧ s.part.stageRotationDue p = false := by
  decide +kernel

theorem witness_MicaSegmentsAndSurveys_3 :
  let p : Fin 128 := 12; let s : State := st [];
  s.part.mica.survey = none ∧ s.part.is F.MICA_CTRL_XSEG 0 = false ∧ (∀ q : Fin 128, s.part.surveyable q = false) ∧
      s.part.surveying p = false := by
  decide +kernel

theorem witness_MicaSegmentsAndSurveys_4 :
  let p : Fin 128 := 12; let k : Nat := 20;
  let s : State := { part := { (ring []).part with mica := { survey := some 20, surveyStep := 8 } } };
  s.part.mica.survey = some k ∧ s.part.surveying p = true ∧ s.part.stepInForce 1 = false ∧ 8 ≤ s.part.mica.surveyStep ∧ s.part.micaOn = true ∧
      s.part.is F.MICA_CTRL_XSEG 0 = false := by
  decide +kernel

theorem witness_MicaSegmentsAndSurveys_5 :
  let s : State := st [(F.FLK_STAT_UP, 0, 1), (F.FLK_LCFG_NPOS, 0, 8)];
  s.part.mica.survey = none ∧ s.part.is F.MICA_CTRL_XSEG 0 = false ∧ s.part.surveyable 0 = true := by
  decide +kernel

theorem witness_MicaSegmentsAndSurveys_6 :
  let s : State := st [(F.MICA_CTRL_XSEG, 0, 1)];
  s.part.mica.survey = none ∧ s.part.is F.MICA_CTRL_XSEG 0 = true := by
  decide +kernel

theorem witness_MicaSegmentsAndSurveys_8 :
  let p : Fin 128 := 12; let s : State := { part := { (ring []).part with clv := { phases := [(12, { rotate := true })] } } };
  s.part.micaWorks p = true ∧ s.part.stageRotationDue p = true ∧ s.part.rebuilding p = false := by
  decide +kernel

theorem witness_MicaSegmentsAndSurveys_9 :
  let p : Fin 128 := 12; let s : State := { part := { (ring []).part with clv := { phases := [(12, { rotate := true })] }, mica := { due := [24] } } };
  s.part.micaWorks p = true ∧ s.part.stageRotationDue p = true ∧ s.part.rebuilding p = true := by
  decide +kernel

theorem witness_MicaSegmentsAndSurveys_10 :
  let p : Fin 128 := 12; let rest : List MicaJob := [.rotate 13]; let x : FlkTrans := { raw := false, work := .job, pos := 4, wr := false, addr := 0x21, len := 8, data := [], tag := 5, sent := 2 };
  let s : State := laneOn { trans := some { raw := false, work := .job, pos := 4, wr := false, addr := 0x21, len := 8, data := [], tag := 5, sent := 2 }, jobs := [.faults 12, .rotate 13], step := 1, faults := 2, resp := [0xE005, 3, 1027] ++ List.replicate 6 0 } [];
  FlkAnswered s (laneOf p) x ∧ x.raw = false ∧ x.work = .job ∧ (s.part.flkLane (laneOf p)).jobs = .faults p :: rest ∧
      (s.part.flkLane (laneOf p)).step ≠ 0 := by
  unfold FlkAnswered
  decide +kernel

theorem witness_MicaSegmentsAndSurveys_11 :
  let p : Fin 128 := 12; let low : Bool := true; let rest : List MicaJob := []; let x : FlkTrans := { raw := false, work := .job, pos := 4, wr := false, addr := 0x18, len := 1, data := [], tag := 5, sent := 2 };
  let s : State := laneOn { trans := some { raw := false, work := .job, pos := 4, wr := false, addr := 0x18, len := 1, data := [], tag := 5, sent := 2 }, jobs := [.rebuild 12 true], resp := [0xE005, 0] } [];
  FlkAnswered s (laneOf p) x ∧ x.raw = false ∧ x.work = .job ∧ (s.part.flkLane (laneOf p)).jobs = .rebuild p low :: rest ∧
      (s.part.flkLane (laneOf p)).step = 0 := by
  unfold FlkAnswered
  decide +kernel

theorem witness_MicaSegmentsAndSurveys_12 :
  let p : Fin 128 := 12; let low : Bool := true; let rest : List MicaJob := []; let x : FlkTrans := { raw := false, work := .job, pos := 4, wr := true, addr := 0x18, len := 1, data := [], tag := 5, sent := 3 };
  let s : State := laneOn { trans := some { raw := false, work := .job, pos := 4, wr := true, addr := 0x18, len := 1, data := [], tag := 5, sent := 3 }, jobs := [.rebuild 12 true], step := 20, usable := 1024, resp := [0xE005] } [];
  FlkAnswered s (laneOf p) x ∧ x.raw = false ∧ x.work = .job ∧ (s.part.flkLane (laneOf p)).jobs = .rebuild p low :: rest ∧
      20 ≤ (s.part.flkLane (laneOf p)).step ∧ (s.part.flkLane (laneOf p)).usable ≤ 1024 := by
  unfold FlkAnswered
  decide +kernel

theorem witness_MicaSegmentsAndSurveys_13 :
  let p : Fin 128 := 12; let rest : List MicaJob := []; let x : FlkTrans := { raw := false, work := .job, pos := 4, wr := true, addr := 0x18, len := 1, data := [], tag := 5, sent := 3 };
  let s : State := laneOn { trans := some { raw := false, work := .job, pos := 4, wr := true, addr := 0x18, len := 1, data := [], tag := 5, sent := 3 }, jobs := [.rotate 12], step := 1, resp := [0xE005] } [(F.MICA_USE_U_HS, 12, 3)];
  FlkAnswered s (laneOf p) x ∧ x.raw = false ∧ x.work = .job ∧ (s.part.flkLane (laneOf p)).jobs = .rotate p :: rest ∧
      (s.part.flkLane (laneOf p)).step ≠ 0 ∧ 0 < s.part.get F.MICA_USE_U_HS p ∧ s.part.get F.MICA_USE_U_HS p ≤ 1024 := by
  unfold FlkAnswered
  decide +kernel

theorem witness_MicaSegmentsAndSurveys_14 :
  let p : Fin 128 := 12; let low : Bool := false; let rest : List MicaJob := []; let x : FlkTrans := { raw := false, work := .job, pos := 4, wr := false, addr := 0x18, len := 1, data := [], tag := 5, sent := 2 };
  let s : State := laneOn { trans := some { raw := false, work := .job, pos := 4, wr := false, addr := 0x18, len := 1, data := [], tag := 5, sent := 2 }, jobs := [.rebuild 12 false], step := 5 } [(F.FLK_LCFG_RETRY, 1, 0)];
  let l := s.part.flkLane (laneOf p);
  l.trans = some x ∧ (requestWords x).length ≤ x.sent ∧ l.resp = [] ∧ x.raw = false ∧ x.work = .job ∧ l.jobs = .rebuild p low :: rest ∧
      s.part.get F.FLK_LCFG_RETRY (laneOf p) ≤ x.tries := by
  decide +kernel

theorem witness_MicaSegmentsAndSurveys_15 :
  let p : Fin 128 := 12; let low : Bool := false; let k : Fin 1024 := 7; let unit := 3600000 * (ring []).part.kHz;
  let s : State := { part := { (ring [(F.MICA_AGE_UNIT, 0, 1)]).part with mica := { lit := [(litKey 12 false 7, unit)] } } };
  s.part.micaOn = true ∧ s.part.get F.MICA_AGE_UNIT 0 * 3600000 * s.part.kHz ≤ s.part.litTicks p low k ∧
      s.part.litTicks p low 8 < s.part.get F.MICA_AGE_UNIT 0 * 3600000 * s.part.kHz := by
  decide +kernel

theorem witness_MicaSegmentsAndSurveys_16 :
  let n : Fin 16 := 1; let k : Nat := 20; let j : Nat := 9; let x : FlkTrans := { raw := false, work := .survey, pos := 4, wr := false, addr := 0x140, len := 64, data := [], tag := 5, sent := 2 };
  let s : State := { part := { (laneOn { trans := some { raw := false, work := .survey, pos := 4, wr := false, addr := 0x140, len := 64, data := [], tag := 5, sent := 2 }, resp := 0xE005 :: List.replicate 64 0xFFFF } []).part with mica := { survey := some 20, surveyStep := 7 } } };
  let step := s.part.mica.surveyStep;
  FlkAnswered s n x ∧ x.raw = false ∧ x.work = .survey ∧ s.part.mica.survey = some k ∧ surveyPhase k = 8 * n.val + x.pos ∧
      (surveyTrans (surveyPhase k) 0 step).map (fun y => y.addr) = some x.addr ∧ 2 ≤ step % 4 ∧
      j < (sresOf (((s.part.flkLane n).resp.tail.take x.len).take 64)).length := by
  unfold FlkAnswered
  decide +kernel

theorem witness_PoolMovesAndRequests_1 :
  let p : Fin 128 := 12; let r : Fin 63 := 6; let s : State := pool {} [];
  s.part.phState p ≠ phSteering ∧ s.part.phState p ≠ phDraining ∧ (s.part.poolRail r).spec = none ∧ s.part.pool.request = none := by
  decide +kernel

theorem witness_PoolMovesAndRequests_2 :
  let p : Fin 128 := 12;
  let s : State := pool { openConf := true, move := some ({ steer := true, toGuest := true, ending := .park }) } [(F.POOL_PSTAT_STATE, 12, 4), (F.POOL_PSTAT_SW, 12, 1)];
  s.part.phState p = phSteering ∧ (s.part.poolAt p).openConf = true ∧ (s.part.poolAt p).closed = false := by
  decide +kernel

theorem witness_PoolMovesAndRequests_3 :
  let p : Fin 128 := 12; let mv : Move := { steer := true, toGuest := true, ending := .park };
  let s : State := pool { openConf := true, closed := true, move := some ({ steer := true, toGuest := true, ending := .park }) } [(F.POOL_PSTAT_STATE, 12, 4)];
  s.part.phState p = phSteering ∧ (s.part.poolAt p).openConf = true ∧ (s.part.poolAt p).closed = true ∧ (s.part.poolAt p).move
      = some mv ∧ mv.ending = .park := by
  decide +kernel

theorem witness_PoolMovesAndRequests_4 :
  let p : Fin 128 := 12; let mv : Move := { steer := true, toGuest := true, ending := .join };
  let s : State := pool { openConf := true, closed := true, move := some ({ steer := true, toGuest := true, ending := .join }) } [(F.POOL_PSTAT_STATE, 12, 4)];
  s.part.phState p = phSteering ∧ (s.part.poolAt p).openConf = true ∧ (s.part.poolAt p).closed = true ∧ (s.part.poolAt p).move
      = some mv ∧ mv.ending = .join ∧ s.part.regulating (s.part.phRail p) = true := by
  decide +kernel

theorem witness_PoolMovesAndRequests_5 :
  let p : Fin 128 := 12;
  let s : State := pool { move := some ({ steer := true, toGuest := true, ending := .join }) } [(F.POOL_PSTAT_STATE, 12, 4)];
  s.part.phState p = phSteering ∧ (s.part.poolAt p).openConf = false := by
  decide +kernel

theorem witness_PoolMovesAndRequests_6 :
  let p : Fin 128 := 12;
  let s : State := pool { move := some ({ steer := true, toGuest := true, ending := .join }) } [(F.POOL_PSTAT_STATE, 12, 2), (F.POOL_PFACT_F, 12, 0)];
  s.part.phState p = phDraining ∧ s.part.get F.POOL_PFACT_F p = 0 := by
  decide +kernel

theorem witness_PoolMovesAndRequests_7 :
  let r : Fin 63 := 6; let e : Nat := 3;
  let s : State := { part := (pool {} [(F.SAF_RSTAT_EPOCH, 6, 4)]).part.setPoolRail 6 { spec := some 3 } };
  (s.part.poolRail r).spec = some e ∧ e ≠ s.part.get F.SAF_RSTAT_EPOCH r ∧ s.part.pool.request = none := by
  decide +kernel

theorem witness_PoolMovesAndRequests_8 :
  let v : Word := 12; let p : Fin 128 := 12; let s : State := pool {} [];
  bitsOf v 0 7 = p.val ∧ s.part.is F.POOL_LREQ_GO 0 = false ∧ s.part.requestRefused s.mem 0 p = true ∧ s.part.phState p =
      phActive ∧ bitsOf v 30 1 = 0 ∧ s.part.requestRefused s.mem 1 p = false ∧ (s.part.poolAt p).move = none ∧ s.part.is
      F.POOL_CFG_EN 0 = true := by
  decide +kernel

theorem witness_PoolMovesAndRequests_9 :
  let v : Word := 0x0C; let p : Fin 128 := 12; let s : State := pool {} [(F.POOL_PSTAT_STATE, 12, 7)];
  bitsOf v 0 7 = p.val ∧ s.part.is F.POOL_LREQ_GO 0 = false ∧ s.part.requestRefused s.mem 1 p = true ∧ s.part.phState p ≠
      phActive ∧ s.part.phState p = phTripped ∧ s.part.is F.POOL_PSTAT_STEERUNK p = false ∧ s.part.requestRefused s.mem 3 p =
      false := by
  decide +kernel

theorem witness_PoolMovesAndRequests_10 :
  let v : Word := 12; let p : Fin 128 := 12; let s : State := pool {} [(F.POOL_LREQ_GO, 0, 1)];
  bitsOf v 0 7 = p.val ∧ s.part.is F.POOL_LREQ_GO 0 = true := by
  decide +kernel

theorem witness_PoolMovesAndRequests_11 :
  let v : Word := 12; let p : Fin 128 := 12; let s : State := pool {} [(F.POOL_PSTAT_RAIL, 12, 9)];
  bitsOf v 0 7 = p.val ∧ s.part.is F.POOL_LREQ_GO 0 = false ∧ bitsOf v 30 1 = 0 ∧ s.part.requestRefused s.mem 0 p = false := by
  decide +kernel

theorem witness_PoolMovesAndRequests_12 :
  let p : Fin 128 := 12; let r : Fin 63 := 6;
  let s : State := { part := (pool {} [(F.SAF_RSTAT_EPOCH, 6, 4), (F.POOL_PSTAT_STATE, 12, 0)]).part.setPoolRail 6 { spec := some 4 } };
  (s.part.poolRail r).spec = some (s.part.get F.SAF_RSTAT_EPOCH r) ∧ s.part.regulating r = true ∧ s.part.is F.POOL_CFG_EN 0 = true ∧
    s.part.railMoving r = false ∧ s.part.pool.request = none ∧
    (s.part.addChoice r = some p.val ∧ s.part.roomFor p r = true) := by
  decide +kernel

theorem witness_PoolMovesAndRequests_13 :
  let r : Fin 63 := 6;
  let s : State := { part := (pool {} [(F.SAF_RSTAT_EPOCH, 6, 4)]).part.setPoolRail 6 { spec := some 4 } };
  (s.part.poolRail r).spec = some (s.part.get F.SAF_RSTAT_EPOCH r) ∧ s.part.regulating r = true ∧ s.part.is F.POOL_CFG_EN 0 = true ∧
    s.part.railMoving r = false ∧ s.part.pool.request = none ∧ s.part.addChoice r = none := by
  decide +kernel

theorem witness_PoolMovesAndRequests_14 :
  let p : Fin 128 := 12; let r : Fin 63 := 9; let q : PoolReq := { phase := 12, op := 1, epoch := 4 };
  let m := (pool {} [(F.SAF_RSTAT_EPOCH, 9, 4)]).part;
  let s : State := { part := { m with pool := { m.pool with request := some { phase := 12, op := 1, epoch := 4 } } } };
  (s.part.poolRail r).spec = none ∧ s.part.pool.request = some q ∧ q.epoch = s.part.get F.SAF_RSTAT_EPOCH r ∧ q.phase = p.val ∧ q.op < 2 ∧
    s.part.steerRail p (q.op = 1) = r.val ∧ s.part.requestRefused s.mem q.op p = false := by
  decide +kernel

theorem witness_PoolMovesAndRequests_15 :
  let p : Fin 128 := 12; let r : Fin 63 := 9; let e : Nat := 3;
  let mv : Move := { steer := true, toGuest := true, ending := .join, waiting := true, epoch := some 3 };
  let s : State := pool { move := some { steer := true, toGuest := true, ending := .join, waiting := true, epoch := some 3 } } [(F.SAF_RSTAT_EPOCH, 9, 4)];
  (s.part.poolAt p).move = some mv ∧ mv.waiting = true ∧ mv.epoch = some e ∧ s.part.moveRail p mv = r.val ∧
    e ≠ s.part.get F.SAF_RSTAT_EPOCH r := by
  decide +kernel

theorem witness_CloveAndRetention_1 :
  let v : Word := 1; let r : Fin 63 := 6; let c : Fin 4 := 1; let b : Fin 28 := 27;
  let s : State := { part := { (put {} [(F.CLV_CTRL_EN, 0, 1), (F.CLV_STAT_LEVEL, 0, 3), (F.CLV_CFG_QUIET_T, 0, 2), (F.CLV_CTRL_STEPEN, 0, 0xFF), (F.RAIL_CTRL_STATE, 6, 3), (F.SAF_MARGIN_VALUE, 6, 90), (F.CLV_RMARG_MSTEP, 6, 5), (F.CLV_RMARG_MARGIN_MIN, 6, 10), (F.CLV_SLP_CORE_T, 0, 3), (F.CLV_SLP_MEM_T, 0, 3)]) with clv := { quiet := 200 }, cores := [(1, { st := .wait })] } };
  s.part.is F.CLV_CTRL_EN 0 = true ∧ 0 < s.part.get F.CLV_STAT_LEVEL 0 ∧ 100 * s.part.get F.CLV_CFG_QUIET_T 0 ≤
      s.part.clv.quiet ∧ s.part.stepInForce 3 = true ∧ s.part.railState r = railTrack ∧ s.part.get F.CLV_RSTAT_MSTEPS r < 255
      ∧ s.part.get F.CLV_RMARG_MARGIN_MIN r < s.part.margin r ∧ s.part.changes F.CLV_CTRL_XB 0 v = false ∧ fieldOf v
      F.CLV_CTRL_EN = 1 ∧ s.part.get F.CLV_SLP_CORE_T 0 ≠ 0 ∧ (s.part.core c).st = .wait ∧ s.part.get F.CLV_SLP_MEM_T 0 ≠ 0 ∧
      b.val ∉ s.part.sys.asleep ∧ s.part.bankOff (retentionBase b) = false := by
  decide +kernel

theorem witness_CloveAndRetention_2 :
  let v : Word := 0; let r : Fin 63 := 6; let c : Fin 4 := 1;
  let s : State := st [(F.CLV_CTRL_EN, 0, 1), (F.CLV_STAT_LEVEL, 0, 3), (F.CLV_CTRL_STEPEN, 0, 0xFF), (F.CLV_RSTAT_MSTEPS, 6, 3)];
  s.part.is F.CLV_CTRL_EN 0 = true ∧ s.part.stepInForce 3 = true ∧ s.part.railState r ≠ railTrack ∧ s.part.changes
      F.CLV_CTRL_XB 0 v = false ∧ fieldOf v F.CLV_CTRL_EN = 0 ∧ (s.part.get F.CLV_SLP_CORE_T 0 = 0 ∨ (s.part.core c).st ≠
      .wait) ∧ s.part.get F.CLV_SLP_MEM_T 0 = 0 := by
  decide +kernel

theorem witness_CloveAndRetention_3 :
  let v : Word := 0xFFFFFFFE; let s : State := st [(F.RAIL_CTRL_STATE, 6, 3)];
  s.part.is F.CLV_CTRL_EN 0 = false ∧ s.part.changes F.CLV_CTRL_XB 0 v = true ∧ s.part.allOff = false := by
  decide +kernel

theorem witness_ConversionsAndCalibration_1 :
  let k : Fin 72 := 12; let p : Fin 64 := 11; let g : Fin 8 := 1; let j : Fin 8 := 3;
  let s : State := { part := (put {} ([(F.ADC_CTRL_EN, 0, 1), (F.ADC_STAT_REFRDY, 0, 1), (F.ADC_SL_STATE, 12, 0), (F.ADC_SL_SP, 12, 11), (F.ADC_ISEQ_TSRC, 11, 2), (F.ADC_GTRIG_TSRC, 1, 2)] ++ [])).setPoint 11 { drop := 2 } };
  s.part.is F.ADC_CTRL_EN 0 = true ∧ s.part.get F.ADC_SL_STATE k = 0 ∧ s.part.get F.ADC_SL_SP k = p.val ∧
    0 < (s.part.point p).drop ∧ s.part.get F.ADC_SPCFG_OSR p ≠ 7 ∧ (s.part.point p).inj = none ∧
    validTrigger (s.part.get F.ADC_GTRIG_TSRC g) (s.part.get F.ADC_GTRIG_TSEL g) = true ∧ p.val = 8 * g.val + j.val ∧
    (s.part.point p).trig ≠ some (s.part.modClock, true) ∧ (s.part.point p).trig ≠ some (s.part.modClock, false) ∧
    (let source := if s.part.is F.ADC_GTRIG_EN (p.val / 8) then s.part.get F.ADC_GTRIG_TSRC (p.val / 8) else s.part.get F.ADC_ISEQ_TSRC p; 2 ≤ source) := by
  decide +kernel

theorem witness_ConversionsAndCalibration_2 :
  let p : Fin 64 := 11; let s : State := st [(F.ADC_CTRL_EN, 0, 0)];
  s.part.is F.ADC_CTRL_EN 0 = false ∧
  (let source := if s.part.is F.ADC_GTRIG_EN (p.val / 8) then s.part.get F.ADC_GTRIG_TSRC (p.val / 8) else s.part.get F.ADC_ISEQ_TSRC p; source < 2) := by
  decide +kernel

theorem witness_ConversionsAndCalibration_3 :
  let k : Fin 72 := 12; let p : Fin 64 := 11;
  let s : State := { part := (put {} ([(F.ADC_CTRL_EN, 0, 1), (F.ADC_STAT_REFRDY, 0, 1), (F.ADC_SL_STATE, 12, 0), (F.ADC_SL_SP, 12, 11), (F.ADC_ISEQ_TSRC, 11, 2), (F.ADC_GTRIG_TSRC, 1, 2)] ++ [])).setPoint 11 ({ drop := 0 }) };
  s.part.is F.ADC_CTRL_EN 0 = true ∧ s.part.get F.ADC_SL_STATE k = 0 ∧ s.part.get F.ADC_SL_SP k = p.val ∧ (s.part.point
      p).drop = 0 ∧ (s.part.point p).inj = none := by
  decide +kernel

theorem witness_ConversionsAndCalibration_4 :
  let p : Fin 64 := 11;
  let s : State := { part := (put {} ([(F.ADC_CTRL_EN, 0, 1), (F.ADC_STAT_REFRDY, 0, 1), (F.ADC_SL_STATE, 12, 0), (F.ADC_SL_SP, 12, 11), (F.ADC_ISEQ_TSRC, 11, 2), (F.ADC_GTRIG_TSRC, 1, 2)] ++ [])).setPoint 11 { drop := 0, inj := some (1, 5) } };
  s.part.is F.ADC_CTRL_EN 0 = true ∧ (s.part.point p).inj ≠ none ∧ s.part.is F.ADC_SPSTAT_IPEND p = false ∧
    (s.part.point p).trig ≠ some (s.part.modClock, true) ∧
    (let source := if s.part.is F.ADC_GTRIG_EN (p.val / 8) then s.part.get F.ADC_GTRIG_TSRC (p.val / 8) else s.part.get F.ADC_ISEQ_TSRC p; 2 ≤ source) := by
  decide +kernel

theorem witness_ConversionsAndCalibration_5 :
  let p : Fin 64 := 11;
  let s : State := { part := (put {} ([(F.ADC_CTRL_EN, 0, 1), (F.ADC_STAT_REFRDY, 0, 1), (F.ADC_SL_STATE, 12, 0), (F.ADC_SL_SP, 12, 11), (F.ADC_ISEQ_TSRC, 11, 2), (F.ADC_GTRIG_TSRC, 1, 2)] ++ [(F.ADC_SPSTAT_IPEND, 11, 1)])).setPoint 11 { drop := 0, inj := some (1, 5) } };
  s.part.is F.ADC_CTRL_EN 0 = true ∧ (s.part.point p).inj ≠ none ∧ s.part.is F.ADC_SPSTAT_IPEND p = true ∧
    (s.part.point p).trig ≠ some (s.part.modClock, true) ∧
    (let source := if s.part.is F.ADC_GTRIG_EN (p.val / 8) then s.part.get F.ADC_GTRIG_TSRC (p.val / 8) else s.part.get F.ADC_ISEQ_TSRC p; 2 ≤ source) := by
  decide +kernel

theorem witness_ConversionsAndCalibration_6 :
  let k : Fin 72 := 12; let g : Fin 8 := 1;
  let s : State := st ([(F.ADC_CTRL_EN, 0, 1), (F.ADC_CTRL_CALEN, 0, 1), (F.ADC_STAT_REFRDY, 0, 1), (F.ADC_CTRL_SNS_T, 0, 5), (F.ADC_CALCFG_OFSMAX, 0, 1), (F.ADC_CALCFG_GAINMAX, 0, 1)]);
  s.part.is F.ADC_CTRL_EN 0 = true ∧ s.part.is F.ADC_CTRL_CALEN 0 = true ∧ s.part.stepFree g = true ∧ s.part.adc.sweep = none
      ∧ s.part.stepInForce 1 = false ∧ (s.part.sliceGroup g).next < 8 ∧ (s.part.get F.ADC_SL_STATE k ≠ 2 ∨ s.part.is
      F.ADC_STAT_REFRDY 0 = false) ∧ s.part.get F.ADC_CTRL_SNS_T 0 ≠ 0 ∧ s.part.get F.ADC_CTRL_REFSEL 0 ≠ 3 ∧ s.part.get
      F.ADC_GSTAT_SPARE 0 < 9 := by
  decide +kernel

theorem witness_ConversionsAndCalibration_7 :
  let s : State := st [(F.ADC_CTRL_EN, 0, 0)];
  (s.part.is F.ADC_CTRL_EN 0 = false ∨ s.part.is F.ADC_CTRL_CALEN 0 = false) := by
  decide +kernel

theorem witness_ConversionsAndCalibration_8 :
  let k : Fin 72 := 12; let ofs : Int := 256; let gain : Int := -100; let lin : Nat := 100;
  let s : State := st ([(F.ADC_CTRL_EN, 0, 1), (F.ADC_CTRL_CALEN, 0, 1), (F.ADC_STAT_REFRDY, 0, 1), (F.ADC_CTRL_SNS_T, 0, 5), (F.ADC_CALCFG_OFSMAX, 0, 1), (F.ADC_CALCFG_GAINMAX, 0, 1), (F.ADC_SL_STATE, 12, 2), (F.ADC_GSTAT_SPARE, 1, 15)]);
  s.part.get F.ADC_SL_STATE k = 2 ∧ s.part.is F.ADC_STAT_REFRDY 0 = true ∧ s.part.adc.sweep = none ∧ s.part.calPasses ofs gain
      lin = true ∧ (s.part.sliceGroup (k.val / 9)).due = false := by
  decide +kernel

theorem witness_ConversionsAndCalibration_9 :
  let k : Fin 72 := 12; let ofs : Int := -257; let gain : Int := 5; let lin : Nat := 5;
  let s : State := st ([(F.ADC_CTRL_EN, 0, 1), (F.ADC_CTRL_CALEN, 0, 1), (F.ADC_STAT_REFRDY, 0, 1), (F.ADC_CTRL_SNS_T, 0, 5), (F.ADC_CALCFG_OFSMAX, 0, 1), (F.ADC_CALCFG_GAINMAX, 0, 1), (F.ADC_SL_STATE, 12, 2), (F.ADC_GSTAT_SPARE, 1, 15)]);
  s.part.get F.ADC_SL_STATE k = 2 ∧ s.part.is F.ADC_STAT_REFRDY 0 = true ∧ s.part.adc.sweep = none ∧ s.part.calPasses ofs gain
      lin = false := by
  decide +kernel

theorem witness_ConversionsAndCalibration_10 :
  let p : Fin 64 := 11;
  let s : State := { part := (put {} ([(F.ADC_CTRL_EN, 0, 1), (F.ADC_STAT_REFRDY, 0, 1), (F.ADC_SL_STATE, 12, 0), (F.ADC_SL_SP, 12, 11), (F.ADC_ISEQ_TSRC, 11, 2), (F.ADC_GTRIG_TSRC, 1, 2)] ++ [])).setPoint 11 { trig := some (0, true) } };
  (s.part.point p).trig = some (s.part.modClock, true) := by
  decide +kernel

theorem witness_Monitors_1 :
  let k : Fin 96 := 95; let v : Word := 0xFFFFFFFF;
  let s : State := { part := { (put {} ([(F.WMON_CFG_EN, 95, 1), (F.WMON_CFG_NFILT, 95, 3), (F.WMON_THR_TH, 95, 100), (F.WMON_THR_TL, 95, 50)] ++ [(F.WMON_CFG_LMODE, 95, 1), (F.WMON_ST_FILT, 95, 1), (F.WMON_ST_OUT, 95, 1), (F.WMON_TIM_STUCK_T, 95, 1), (F.WMON_TIM_CHAT_W, 95, 1), (F.WMON_TIM_CHATMAX, 95, 8)])) with adc := { monitors := [(95, { samples := [true, true, false], trans := 9 })] } } };
  fieldOf v F.WMON_CLR_CLR = 1 ∧ s.part.get F.WMON_CFG_LMODE k = 1 ∧ s.part.is F.WMON_ST_OUT k = true ∧ s.part.is
      F.WMON_ST_FILT k = true ∧
  (let y := s.part.monitor k; s.part.is F.WMON_CFG_EN k = true ∧ y.init = 0 ∧ y.force = false) ∧
  (let bad := 6 ≤ fieldOf v F.WMON_CFG_SEV ∨ fieldOf v F.WMON_CFG_NFILT % 2 = 0 ∨ fieldOf v F.WMON_CFG_NFILT < 3 ∨ (2 ≤ fieldOf v F.WMON_CFG_MODE ∧ s.part.get F.WMON_THR_TH k < s.part.get F.WMON_THR_TL k); bad) ∧
  (let y := s.part.monitor k; s.part.is F.WMON_CFG_EN k = true ∧ s.part.is F.WMON_ST_FILT k = true ∧ s.part.get F.WMON_TIM_STUCK_T k ≠ 0 ∧ y.stuck = false) ∧
  (let y := s.part.monitor k; s.part.is F.WMON_CFG_EN k = true ∧ s.part.get F.WMON_TIM_CHAT_W k ≠ 0 ∧ s.part.get F.WMON_TIM_CHATMAX k < y.trans) := by
  decide +kernel

theorem witness_Monitors_2 :
  let k : Fin 96 := 95;
  let v : Word := (withBits (withBits 0 F.WMON_CFG_NFILT.lo F.WMON_CFG_NFILT.width 3) F.WMON_CFG_EN.lo 1 1);
  let s : State := st [(F.WMON_CFG_EN, 95, 0)];
  s.part.is F.WMON_CFG_EN k = false ∧ s.part.is F.WMON_ST_OUT k = false ∧
    ¬(6 ≤ fieldOf v F.WMON_CFG_SEV ∨ fieldOf v F.WMON_CFG_NFILT % 2 = 0 ∨ fieldOf v F.WMON_CFG_NFILT < 3 ∨
      (2 ≤ fieldOf v F.WMON_CFG_MODE ∧ s.part.get F.WMON_THR_TH k < s.part.get F.WMON_THR_TL k)) ∧ fieldOf v F.WMON_CFG_EN = 1 := by
  decide +kernel

theorem witness_Monitors_3 :
  let k : Fin 96 := 95; let v : Word := 0xFFFFFFFF;
  let s : State := { part := { (put {} ([(F.WMON_CFG_EN, 95, 1), (F.WMON_CFG_NFILT, 95, 3), (F.WMON_THR_TH, 95, 100), (F.WMON_THR_TL, 95, 50)] ++ [(F.WMON_CFG_LMODE, 95, 3), (F.WMON_ST_FILT, 95, 1), (F.WMON_ST_OUT, 95, 1), (F.WMON_TIM_CHAT_W, 95, 1), (F.WMON_TIM_CHATMAX, 95, 8)])) with adc := { monitors := [(95, { samples := [false, false, false], trans := 8 })] } } };
  fieldOf v F.WMON_CLR_CLR = 1 ∧ s.part.get F.WMON_CFG_LMODE k = 3 ∧
  (let y := s.part.monitor k; s.part.is F.WMON_CFG_EN k = true ∧ s.part.get F.WMON_TIM_CHAT_W k ≠ 0 ∧ y.trans ≤ s.part.get F.WMON_TIM_CHATMAX k) := by
  decide +kernel

theorem witness_Monitors_4 :
  let k : Fin 96 := 95;
  let v : Word := (withBits (withBits 0 F.WMON_CFG_NFILT.lo F.WMON_CFG_NFILT.width 3) F.WMON_CFG_EN.lo 1 0);
  let s : State := { part := { (put {} ([(F.WMON_CFG_EN, 95, 1), (F.WMON_CFG_NFILT, 95, 3), (F.WMON_THR_TH, 95, 100), (F.WMON_THR_TL, 95, 50)] ++ [(F.WMON_CFG_LMODE, 95, 0)])) with adc := { monitors := [(95, { samples := [true, false, false] })] } } };
  (let bad := 6 ≤ fieldOf v F.WMON_CFG_SEV ∨ fieldOf v F.WMON_CFG_NFILT % 2 = 0 ∨ fieldOf v F.WMON_CFG_NFILT < 3 ∨ (2 ≤ fieldOf v F.WMON_CFG_MODE ∧ s.part.get F.WMON_THR_TH k < s.part.get F.WMON_THR_TL k); ¬bad ∧ s.part.is F.WMON_CFG_EN k = true ∧ fieldOf v F.WMON_CFG_EN = 0) := by
  decide +kernel

theorem witness_Monitors_5 :
  let k : Fin 96 := 95; let v : Word := 0xFFFFFFFF;
  let s : State := { part := { (put {} ([(F.WMON_CFG_EN, 95, 1), (F.WMON_CFG_NFILT, 95, 3), (F.WMON_THR_TH, 95, 100), (F.WMON_THR_TL, 95, 50)] ++ [(F.WMON_CFG_LMODE, 95, 0), (F.WMON_ST_FILT, 95, 1), (F.WMON_ST_OUT, 95, 1)])) with adc := { monitors := [(95, { samples := [true, true, false] })] } } };
  fieldOf v F.WMON_CLR_CLR = 1 ∧ s.part.get F.WMON_CFG_LMODE k = 0 ∧ s.part.is F.WMON_ST_FILT k = true := by
  decide +kernel

theorem witness_Monitors_6 :
  let k : Fin 96 := 95; let x : Int := 50000;
  let s : State := { part := { (put {} [(F.WMON_CFG_EN, 95, 1), (F.WMON_CFG_NFILT, 95, 3), (F.WMON_THR_TH, 95, 100), (F.WMON_THR_TL, 95, 50)]) with adc := { monitors := [(95, { samples := [true, false, false] })] } } };
  (let y := s.part.monitor k; let raw := s.part.compare k (s.part.is F.WMON_ST_FILT k) (s.part.get F.WMON_CFG_HYS k) x;
     let out := majority (s.part.get F.WMON_CFG_NFILT k) ((raw :: y.samples).take 15);
     s.part.is F.WMON_CFG_EN k = true ∧ y.init = 0 ∧ y.force = false ∧ out = true ∧ s.part.is F.WMON_ST_FILT k = false ∧
     s.part.is F.WMON_ST_OUT k = false ∧ y.clearAt = none) := by
  decide +kernel

theorem witness_Monitors_7 :
  let k : Fin 96 := 95; let x : Int := 50000;
  let s : State := { part := { (put {} [(F.WMON_CFG_EN, 95, 1), (F.WMON_CFG_NFILT, 95, 3), (F.WMON_THR_TH, 95, 100), (F.WMON_THR_TL, 95, 50)]) with adc := { monitors := [(95, { samples := [true, false, false], clearAt := some (0, true) })] } } };
  (let y := s.part.monitor k; let raw := s.part.compare k (s.part.is F.WMON_ST_FILT k) (s.part.get F.WMON_CFG_HYS k) x;
     let out := majority (s.part.get F.WMON_CFG_NFILT k) ((raw :: y.samples).take 15);
     s.part.is F.WMON_CFG_EN k = true ∧ y.init = 0 ∧ y.force = false ∧ out = true ∧ s.part.is F.WMON_ST_FILT k = false ∧
     y.clearAt = some (s.part.sampleNo, true) ∧ s.part.get F.WMON_CFG_LMODE k = 0) := by
  decide +kernel

theorem witness_Monitors_8 :
  let k : Fin 96 := 95; let x : Int := 0;
  let s : State := { part := { (put {} [(F.WMON_CFG_EN, 95, 1), (F.WMON_CFG_NFILT, 95, 3), (F.WMON_THR_TH, 95, 100), (F.WMON_THR_TL, 95, 50), (F.WMON_CFG_LMODE, 95, 3), (F.WMON_ST_FILT, 95, 1), (F.WMON_ST_OUT, 95, 1)]) with adc := { monitors := [(95, { samples := [false, true, true] })] } } };
  (let y := s.part.monitor k; let raw := s.part.compare k (s.part.is F.WMON_ST_FILT k) (s.part.get F.WMON_CFG_HYS k) x;
     let out := majority (s.part.get F.WMON_CFG_NFILT k) ((raw :: y.samples).take 15);
     s.part.is F.WMON_CFG_EN k = true ∧ y.init = 0 ∧ y.force = false ∧ out = false ∧ s.part.is F.WMON_ST_FILT k = true ∧
     s.part.get F.WMON_CFG_LMODE k = 3) := by
  decide +kernel

theorem witness_Monitors_9 :
  let k : Fin 96 := 95; let v : Word := withBits 0 F.WMON_CLR_CLR.lo 1 1; let s : State := st [];
  s.part.is F.WMON_CFG_EN k = false ∧ fieldOf v F.WMON_CLR_CLR = 1 ∧ s.part.get F.WMON_CFG_LMODE k = 0 ∧ s.part.is F.WMON_ST_FILT k = false := by
  decide +kernel

theorem witness_RailEnableAndDisable_1 :
  let r : Fin 63 := 6; let s : State := st [(F.RAIL_CTRL_EN, 6, 1)];
  s.part.is F.RAIL_CTRL_EN r = true := by
  decide +kernel

theorem witness_RailEnableAndDisable_2 :
  let r : Fin 63 := 6; let s : State := st [(F.RAIL_CTRL_STATE, 6, 7)];
  s.part.is F.RAIL_CTRL_EN r = false ∧ (s.part.railState r = railFaulted ∨ s.part.deviceOn = true) := by
  decide +kernel

theorem witness_RailEnableAndDisable_3 :
  let r : Fin 63 := 6; let s : State := st [];
  s.part.is F.RAIL_CTRL_EN r = false ∧ s.part.railState r ≠ railFaulted ∧ s.part.deviceOn = false := by
  decide +kernel

theorem witness_RailEnableAndDisable_4 :
  let r : Fin 63 := 6; let s : State := st [(F.RAIL_CTRL_EN, 6, 1), (F.RAIL_CTRL_STATE, 6, 1)];
  s.part.is F.RAIL_CTRL_EN r = true ∧ s.part.outranked r = false := by
  decide +kernel

theorem witness_RailEnableAndDisable_5 :
  let r : Fin 63 := 6; let s : State := faults [trip6] [(F.RAIL_CTRL_EN, 6, 1), (F.RAIL_CTRL_STATE, 6, 3)];
  s.part.is F.RAIL_CTRL_EN r = true ∧ s.part.outranked r = true := by
  decide +kernel

theorem witness_RailStartsUp_1 :
  let r : Fin 63 := 6; let s : State := st [(F.RAIL_CTRL_STATE, 6, 1), (F.RAIL_SRC_SRC, 6, 0)];
  s.part.railState r = railArming ∧ s.part.get F.RAIL_SRC_SRC r = 0 ∧ s.part.is F.SAF_CTRL_EN 0 = false ∧ (s.part.bslRail
      r).noPlan = false := by
  decide +kernel

theorem witness_RailStartsUp_2 :
  let r : Fin 63 := 6;
  let s : State := { part := (((put (ring []).part [(F.RAIL_CTRL_STATE, 6, 1), (F.RAIL_SRC_SRC, 6, 1), (F.POOL_RCFG_NMIN, 6, 1), (F.POOL_CFG_EN, 0, 1), (F.PWM_CFG_EN, 12, 1), (F.PWM_CFG_EN, 13, 1), (F.ADC_SPSTAT_STALE, 6, 0)]).setPool 12 { ready := true }).setPool 13 { ready := true }).setWord (resAddr 6 0) 0x80001000 };
  s.part.railState r = railArming ∧ (s.part.get F.RAIL_SRC_SRC r ≠ 0 ∨ s.part.is F.SAF_CTRL_EN 0 = true) ∧
    (s.part.assignPhases r).armingReady r = true ∧ (s.part.assignPhases r).senseValid r = true ∧
    (((s.part.assignPhases r).releaseLanes.inSoftstart r).decideAdmission).toOption.isSome = true := by
  decide +kernel

theorem witness_RailStartsUp_3 :
  let r : Fin 63 := 6;
  let s : State := { part := (((put (ring []).part [(F.RAIL_CTRL_STATE, 6, 1), (F.RAIL_SRC_SRC, 6, 1), (F.POOL_RCFG_NMIN, 6, 1), (F.POOL_CFG_EN, 0, 1), (F.PWM_CFG_EN, 12, 1), (F.PWM_CFG_EN, 13, 1), (F.ADC_SPSTAT_STALE, 6, 0), (F.BSL_LANEST_INSV, 0, 0)]).setPool 12 { ready := true }).setPool 13 { ready := true }).setWord (resAddr 6 0) 0x80001000 };
  s.part.railState r = railArming ∧ (s.part.get F.RAIL_SRC_SRC r ≠ 0 ∨ s.part.is F.SAF_CTRL_EN 0 = true) ∧
    (s.part.assignPhases r).armingReady r = true ∧ (s.part.assignPhases r).senseValid r = true ∧
    (((s.part.assignPhases r).releaseLanes.inSoftstart r).decideAdmission).toOption.isSome = false := by
  decide +kernel

theorem witness_RailStartsUp_4 :
  let r : Fin 63 := 6;
  let s : State := { part := (st [(F.RAIL_CTRL_STATE, 6, 2), (F.RAIL_FEV_LIMIT, 6, 99)]).part.setBslRail 6 { setp := 100, target := some 101 } };
  s.part.railState r = railSoftstart ∧ (s.part.bslRail r).target ≠ some (s.part.bslRail r).setp ∧ s.part.get F.RAIL_FEV_LIMIT
      r < (((s.part.bslRail r).setp : Int) - s.part.vrail r).natAbs := by
  decide +kernel

theorem witness_RailStartsUp_5 :
  let r : Fin 63 := 6;
  let s : State := { part := (st [(F.RAIL_CTRL_STATE, 6, 2), (F.RAIL_FEV_LIMIT, 6, 100)]).part.setBslRail 6 { setp := 100, target := some 100 } };
  s.part.railState r = railSoftstart ∧ (s.part.bslRail r).target = some (s.part.bslRail r).setp ∧ (((s.part.bslRail r).setp :
      Int) - s.part.vrail r).natAbs ≤ s.part.get F.RAIL_FEV_LIMIT r := by
  decide +kernel

theorem witness_RailSourceAndFallback_1 :
  let v : Word := 3;
  (fieldOf v F.RAIL_SRC_SRC = 3 ∨ 0x1F < fieldOf v F.RAIL_SRC_FIN) := by
  decide +kernel

theorem witness_RailSourceAndFallback_2 :
  let r : Fin 63 := 6; let v : Word := ((st []).part.word (R.RAIL_SRC.addr 6));
  let s : State := st [(F.RAIL_SRC_MIX, 6, 1), (F.RAIL_CTRL_STATE, 6, 3)];
  fieldOf v F.RAIL_SRC_SRC ≠ 3 ∧ fieldOf v F.RAIL_SRC_FIN ≤ 0x1F ∧ s.part.changes F.RAIL_SRC_MIX r v = true ∧ s.part.railState
      r ≠ railOff := by
  decide +kernel

theorem witness_RailSourceAndFallback_3 :
  let r : Fin 63 := 6; let v : Word := ((st []).part.word (R.RAIL_SRC.addr 6)); let s : State := st [];
  fieldOf v F.RAIL_SRC_SRC ≠ 3 ∧ fieldOf v F.RAIL_SRC_FIN ≤ 0x1F ∧ s.part.railState r = railOff := by
  decide +kernel

theorem witness_RailSourceAndFallback_4 :
  let r : Fin 63 := 6; let v : Word := (withBits ((st []).part.word (R.RAIL_SRC.addr 6)) 0 2 0);
  let s : State := st [(F.SAF_CTRL_EN, 0, 1), (F.RAIL_CTRL_STATE, 6, 4)];
  fieldOf v F.RAIL_SRC_SRC ≠ 3 ∧ fieldOf v F.RAIL_SRC_FIN ≤ 0x1F ∧ s.part.changes F.RAIL_SRC_MIX r v = false ∧
      s.part.outranked r = false ∧ s.part.is F.SAF_CTRL_EN 0 = true ∧ s.part.marginAsked r = 0 ∧ s.part.holdForced r = false ∧
      (s.part.railState r = railTrack ∨ s.part.railState r = railHold ∨ s.part.railState r = railFollow) := by
  decide +kernel

theorem witness_RailSourceAndFallback_5 :
  let r : Fin 63 := 6; let s : State := st [(F.RAIL_CTRL_STATE, 6, 3)];
  s.part.outranked r = false ∧ s.part.regulating r = true ∧ s.part.railState r ≠ railFallback := by
  decide +kernel

theorem witness_RailSourceAndFallback_6 :
  let r : Fin 63 := 6; let s : State := faults [trip6] [];
  s.part.outranked r = true := by
  decide +kernel

theorem witness_RailSourceAndFallback_7 :
  let r : Fin 63 := 6; let s : State := st [(F.RAIL_CTRL_STATE, 6, 6)];
  s.part.outranked r = false ∧ s.part.railState r = railFallback := by
  decide +kernel

theorem witness_RailSourceAndFallback_8 :
  let r : Fin 63 := 6; let s : State := st [(F.RAIL_CTRL_STATE, 6, 0)];
  s.part.outranked r = false ∧ s.part.regulating r = false := by
  decide +kernel

theorem witness_DischargeEndsAndFaultClears_1 :
  let r : Fin 63 := 6;
  let s : State := { part := (st ([(F.RAIL_CTRL_STATE, 6, 8)] ++ [])).part.setRailFault 6 ({ vend := 100, latch := true }) };
  s.part.railState r = railDischarge ∧ s.part.vrail r ≤ (s.part.railFault r).vend ∧ s.part.latched r = true := by
  decide +kernel

theorem witness_DischargeEndsAndFaultClears_2 :
  let r : Fin 63 := 6;
  let s : State := { part := (st ([(F.RAIL_CTRL_STATE, 6, 8)] ++ [])).part.setRailFault 6 ({ vend := 0xFFFFF }) };
  s.part.railState r = railDischarge ∧ s.part.vrail r ≤ (s.part.railFault r).vend ∧ s.part.latched r = false ∧ s.part.is
      F.RAIL_CTRL_EN r = false := by
  decide +kernel

theorem witness_DischargeEndsAndFaultClears_3 :
  let r : Fin 63 := 6;
  let s : State := { part := ((st [(F.RAIL_CTRL_STATE, 6, 8)]).part.setRailFault 6 { vend := 0 }).setPoint 6 { rv := 77 } };
  s.part.railState r = railDischarge ∧ (s.part.railFault r).vend < s.part.vrail r := by
  decide +kernel

theorem witness_DischargeEndsAndFaultClears_4 :
  let r : Fin 63 := 6; let s : State := st [(F.FLT_STAT_DEVICE, 0, 1)];
  (s.part.deviceOn = true ∨ s.part.railState r = railDischarge ∨ s.part.unacked r = true) := by
  decide +kernel

theorem witness_DischargeEndsAndFaultClears_5 :
  let r : Fin 63 := 6;
  let s : State := { part := (st [(F.RAIL_CTRL_STATE, 6, 7), (F.RAIL_FSTAT_LATCHED, 6, 1)]).part.setRailFault 6 { latch := true } };
  s.part.deviceOn = false ∧ s.part.railState r ≠ railDischarge ∧ s.part.unacked r = false := by
  decide +kernel

theorem witness_FaultApplication_1 :
  let s : State := st [];
  headEntry s.part.flt.queue = none := by
  decide +kernel

theorem witness_FaultApplication_2 :
  let s : State := faults [{ trip6 with sev := 1 }] [];
  (let e := (headEntry s.part.flt.queue).getD trip6; headEntry s.part.flt.queue = some e ∧ e.sev < 2 ∧ e.code ≠ 0xB801 ∧ s.part.bsl.readmit = false ∧ s.part.is F.FLT_CTRL_XF 0 = false) := by
  decide +kernel

theorem witness_FaultApplication_3 :
  let r : Fin 63 := 6;
  let s : State := faults [{ trip6 with sev := 1 }, trip6] [(F.RAIL_CTRL_STATE, 6, 3), (F.RAIL_CTRL_EN, 6, 1)];
  headEntry s.part.flt.queue = some trip6 ∧ trip6.rail = r.val ∧ trip6.sev = 3 ∧ trip6.mute.contains r.val = false ∧ s.part.regulating r = true := by
  decide +kernel

theorem witness_FaultApplication_4 :
  let s : State := faults [{ trip6 with mute := [6] }] [];
  headEntry s.part.flt.queue = some { trip6 with mute := [6] } ∧ trip6.rail = (6 : Fin 63).val ∧ trip6.sev < 5 ∧ trip6.code ≠ 0xB801 ∧
    s.part.bsl.readmit = false ∧ s.part.is F.FLT_CTRL_XF 0 = false := by
  decide +kernel

theorem witness_FaultApplication_5 :
  let r : Fin 63 := 6; let s : State := faults [trip6] [(F.RAIL_CTRL_STATE, 6, 8)];
  headEntry s.part.flt.queue = some trip6 ∧ trip6.rail = r.val ∧ trip6.sev = 3 ∧ trip6.mute.contains r.val = false ∧ s.part.railState r = railDischarge ∧
    (s.part.railFault r).trip = false ∧ (s.part.railFault r).deviceLatch = false := by
  decide +kernel

theorem witness_HandlerExchangeAndDeviceClear_1 :
  let s : State := st [];
  s.part.presented = none := by
  decide +kernel

theorem witness_HandlerExchangeAndDeviceClear_2 :
  let v : Word := 0;
  let s : State := faults [{ trip6 with applied := true }] [(F.FLT_CTRL_XF, 0, 1), (F.FLT_CTRL_HCORE, 0, 2), (F.FLT_STAT_INH, 0, 1)];
  (let e := s.part.presented.getD trip6; s.part.presented = some e ∧ e.applied = true ∧ fieldOf v F.FLT_ACK_SEV < 6 ∧ fieldOf v F.FLT_ACK_RAISE = 0) := by
  decide +kernel

theorem witness_HandlerExchangeAndDeviceClear_3 :
  let s : State := st [];
  s.part.tb.lossNow = false ∧ (s.part.flt.bySupply = false ∨ s.part.sys.failing = false) ∧ s.part.deviceOn = false := by
  decide +kernel

theorem witness_HandlerExchangeAndDeviceClear_4 :
  let s : State := { part := { (st [(F.FLT_STAT_DEVICE, 0, 1)]).part with tb := { lossNow := true } } };
  (s.part.tb.lossNow = true ∨ (s.part.flt.bySupply = true ∧ s.part.sys.failing = true)) := by
  decide +kernel

theorem witness_HandlerExchangeAndDeviceClear_5 :
  let s : State := { part := { (st [(F.FLT_STAT_DEVICE, 0, 1), (F.PWM_SAFEST_CAUSE, 0, 4)]).part with flt := { bySupply := true } } };
  s.part.tb.lossNow = false ∧ (s.part.flt.bySupply = false ∨ s.part.sys.failing = false) ∧ s.part.deviceOn = true := by
  decide +kernel

theorem witness_HandlerExchangeAndDeviceClear_6 :
  let v : Word := withBits (withBits 0 F.FLT_ACK_SEV.lo F.FLT_ACK_SEV.width 3) F.FLT_ACK_RAISE.lo 1 1;
  let s : State := faults [{ trip6 with applied := true }] [(F.FLT_CTRL_XF, 0, 1), (F.FLT_CTRL_HCORE, 0, 2), (F.FLT_STAT_INH, 0, 1)];
  s.part.presented = some { trip6 with applied := true } ∧ fieldOf v F.FLT_ACK_SEV ≤ trip6.sev ∧ trip6.sev < 6 ∧ fieldOf v F.FLT_ACK_RAISE = 1 ∧
    s.part.grn.queue.length < 64 := by
  decide +kernel

theorem witness_GarnetRecords_1 :
  let v : Word := 0; let s : State := st [];
  s.part.grn.queue = [] ∧ s.part.get F.GRN_CTRL_MSEV 0 ≤ 5 ∧ s.part.frozen = false ∧ fieldOf v F.GRN_SWEV_SEV ≠ 6 ∧
      s.part.grn.queue.length < 64 ∧ (s.part.grn.mirror = [] ∨ s.part.recalling = true ∨ s.part.nvmProtected 0x20010000 =
      true) := by
  decide +kernel

theorem witness_GarnetRecords_2 :
  let v : Word := (withBits 0 F.GRN_SWEV_SEV.lo F.GRN_SWEV_SEV.width 6);
  let x : GRec := { code := 0xA400, source := 5, sev := 3, data0 := 6, data1 := 9 }; let rest : List GRec := [];
  let s : State := { part := { put {} [(F.GRN_STAT_FROZEN, 0, 1), (F.GRN_CTRL_FREEZE, 0, 1)] with grn := { queue := [{ code := 0xA400, source := 5, sev := 3, data0 := 6, data1 := 9 }] } } };
  s.part.grn.queue = x :: rest ∧ s.part.frozen = true ∧ s.part.grn.buffer = [] ∧ s.part.grn.buffer.length < 64 ∧ fieldOf v F.GRN_SWEV_SEV = 6 := by
  decide +kernel

theorem witness_GarnetRecords_3 :
  let x : GRec := { code := 0xA400, source := 5, sev := 3, data0 := 6, data1 := 9 };
  let y : GRec := { code := 0xA400, source := 5, sev := 3, data0 := 6, data1 := 9 }; let rest : List GRec := [];
  let s : State := { part := { put {} [] with grn := { queue := [{ code := 0xA400, source := 5, sev := 3, data0 := 6, data1 := 9 }] } } };
  s.part.grn.queue = x :: rest ∧ s.part.grn.lostSince = 0 ∧ s.part.frozen = false ∧ (s.part.grn.newest = none ∨
      s.part.grn.newest = some y ∧ s.part.repeats y x = false) := by
  decide +kernel

theorem witness_GarnetRecords_4 :
  let x : GRec := { code := 0xA400, source := 5, sev := 3, data0 := 6, data1 := 9 };
  let y : GRec := { code := 0xA400, source := 5, sev := 3, data0 := 6, data1 := 9 }; let rest : List GRec := [];
  let s : State := { part := { put {} [(F.GRN_CFG_RWIN, 0, 100)] with grn := { queue := [{ code := 0xA400, source := 5, sev := 3, data0 := 6, data1 := 9 }], newest := some ({ code := 0xA400, source := 5, sev := 3, data0 := 6, data1 := 9 }) } } };
  s.part.grn.queue = x :: rest ∧ s.part.grn.lostSince = 0 ∧ s.part.frozen = false ∧ s.part.grn.newest = some y ∧
      s.part.repeats y x = true := by
  decide +kernel

theorem witness_GarnetRecords_5 :
  let x : GRec := { code := 0xA400, source := 5, sev := 3, data0 := 6, data1 := 9 }; let n : Nat := 7; let k : Nat := 0;
  let copies : List (GRec × Nat) := [];
  let s : State := { part := { put {} [(F.NVM_PROT_BP, 0, 0), (F.NVM_STAT_RECALL, 0, 0)] with grn := { mirror := [({ code := 0xA400, source := 5, sev := 3, data0 := 6, data1 := 9 }, 7)] } } };
  s.part.grn.mirror = (x, n) :: copies ∧ s.part.recalling = false ∧ s.part.nvmProtected 0x20010000 = false ∧ chooseSlot
      (s.part.logSlots s.mem) x.sev = some k := by
  refine ⟨by decide +kernel, by decide +kernel, by decide +kernel, ?_⟩
  exact (congrArg (fun v => chooseSlot v 3) (emptyLog _)).trans (by decide +kernel)

theorem witness_GarnetRecords_6 :
  let x : GRec := { code := 0xA400, source := 5, sev := 3, data0 := 6, data1 := 9 }; let b : GRec := { code := 0xA400, source := 5, sev := 3, data0 := 6, data1 := 9 }; let rest : List GRec := [];
  let s : State := { part := { put {} [(F.GRN_STAT_FROZEN, 0, 1), (F.GRN_CTRL_FREEZE, 0, 1), (F.GRN_CFG_RWIN, 0, 100)] with grn := { queue := [{ code := 0xA400, source := 5, sev := 3, data0 := 6, data1 := 9 }], buffer := [{ code := 0xA400, source := 5, sev := 3, data0 := 6, data1 := 9 }] } } };
  s.part.grn.queue = x :: rest ∧ s.part.frozen = true ∧ s.part.grn.buffer.getLast? = some b ∧ s.part.repeats b x = true := by
  decide +kernel

theorem witness_GarnetRecords_7 :
  let x : GRec := { code := 0xA400, source := 5, sev := 3, data0 := 6, data1 := 9 }; let rest : List GRec := [];
  let s : State := { part := { put {} [(F.GRN_STAT_FROZEN, 0, 1), (F.GRN_CTRL_FREEZE, 0, 1)] with grn := { queue := [{ code := 0xA400, source := 5, sev := 3, data0 := 6, data1 := 9 }], buffer := List.replicate 64 { code := 1, source := 1, sev := 1 } } } };
  s.part.grn.queue = x :: rest ∧ s.part.frozen = true ∧ (∀ b ∈ s.part.grn.buffer.getLast?, s.part.repeats b x = false) ∧
    64 ≤ s.part.grn.buffer.length := by
  decide +kernel

theorem witness_GarnetRecords_8 :
  let s : State := st [(F.GRN_CTRL_MSEV, 0, 6)];
  5 < s.part.get F.GRN_CTRL_MSEV 0 := by
  decide +kernel

theorem witness_GarnetRecords_9 :
  let x : GRec := { code := 0xA400, source := 5, sev := 3, data0 := 6, data1 := 9 }; let n : Nat := 7;
  let copies : List (GRec × Nat) := [];
  let s : State := { mem := filledLog 2048, part := { put {} [(F.NVM_PROT_BP, 0, 0), (F.NVM_STAT_RECALL, 0, 0)] with grn := { mirror := [({ code := 0xA400, source := 5, sev := 3, data0 := 6, data1 := 9 }, 7)] } } };
  s.part.grn.mirror = (x, n) :: copies ∧ s.part.recalling = false ∧ s.part.nvmProtected 0x20010000 = false ∧
      chooseSlot (s.part.logSlots s.mem) x.sev = none := by
  refine ⟨by decide +kernel, by decide +kernel, by decide +kernel, fullLog _ ?_ 3 (by decide)⟩
  decide +kernel

theorem witness_PmbusWriteChecksAndWrites_1 :
  let op : PmbOp := wr [0]; let s : State := st [];
  op.read = false ∧ s.part.pmbUp = false ∧ s.part.pmb.wait = none := by
  decide +kernel

theorem witness_PmbusWriteChecksAndWrites_2 :
  let op : PmbOp := wr [0, 1, 2, 3]; let s : State := pmbus [];
  (let x : Instr × Nat × Nat := (.voutCommand op, 0x21, 2); op.read = false ∧ s.part.pmbUp = true ∧ (op.data.length < x.2.2 ∨ x.2.2 + 1 < op.data.length) ∧ x ∈ pmbWritable op) := by
  decide +kernel

theorem witness_PmbusWriteChecksAndWrites_3 :
  let op : PmbOp := wr [1, 2]; let s : State := pmbus [(F.PMB_CTRL_WP, 0, 0x40), (F.PMB_CTRL_PECREQ, 0, 0)];
  (let x : Instr × Nat × Nat := (.voutCommand op, 0x21, 2); op.read = false ∧ s.part.pmbUp = true ∧ op.data.length = x.2.2 ∧ s.part.is F.PMB_CTRL_PECREQ 0 = false ∧ s.part.protects x.2.1 = true ∧ x ∈ pmbWritable op) := by
  decide +kernel

theorem witness_PmbusWriteChecksAndWrites_4 :
  let op : PmbOp := wr [1, 2]; let s : State := pmbus [(F.PMB_CTRL_PECREQ, 0, 1)];
  (let x : Instr × Nat × Nat := (.voutCommand op, 0x21, 2); op.read = false ∧ s.part.pmbUp = true ∧ op.data.length = x.2.2 ∧ s.part.is F.PMB_CTRL_PECREQ 0 = true ∧ x ∈ pmbWritable op) := by
  decide +kernel

theorem witness_PmbusWriteChecksAndWrites_5 :
  let op : PmbOp := wr [1, 2, 3]; let s : State := pmbus [];
  (let x : Instr × Nat × Nat := (.voutCommand op, 0x21, 2); op.read = false ∧ s.part.pmbUp = true ∧ op.data.length = x.2.2 + 1 ∧ op.data.getLast? ≠ some (crc8 (s.part.pmbStart.pmbHead x.2.1 ++ op.data.take x.2.2)) ∧ x ∈ pmbWritable op) := by
  decide +kernel

theorem witness_PmbusWriteChecksAndWrites_6 :
  let op : PmbOp := wr [52, 18]; let r : Fin 63 := 6; let d : Nat := 4660;
  let s : State := pmbus [(F.PMB_CTRL_PECREQ, 0, 0), (F.RAIL_CEIL_VALUE, 6, 0x100)];
  s.part.page = r ∧ PmbTakes s 0x21 2 op d ∧ PmbTakes s 0x24 2 op d ∧ PmbTakes s 0x25 2 op d ∧ PmbTakes s 0x26 2 op d ∧
      PmbTakes s 0x40 2 op d ∧ PmbTakes s 0x46 2 op d ∧ 0 ≤ toSigned 11 d ∧ PmbTakes s 0x4F 2 op d := by
  unfold PmbTakes
  decide +kernel

theorem witness_PmbusWriteChecksAndWrites_7 :
  let op : PmbOp := wr [62]; let r : Fin 63 := 6; let d : Nat := 62; let s : State := pmbus [(F.PMB_CTRL_PECREQ, 0, 0)];
  s.part.page = r ∧ PmbTakes s 0x00 1 op d ∧ (d ≤ 0x3E ∨ d = 0xFF) ∧ PmbTakes s 0x01 1 op d ∧ operLegal d = false ∧ PmbTakes s
      0x02 1 op d ∧ d ≠ 0x18 ∧ d ≠ 0 ∧ PmbTakes s 0x10 1 op d ∧ wpLegal d = false := by
  unfold PmbTakes
  decide +kernel

theorem witness_PmbusWriteChecksAndWrites_8 :
  let op : PmbOp := wr [128]; let r : Fin 63 := 6; let d : Nat := 128; let s : State := pmbus [(F.PMB_CTRL_PECREQ, 0, 0)];
  s.part.page = r ∧ PmbTakes s 0x00 1 op d ∧ 0x3E < d ∧ d ≠ 0xFF ∧ PmbTakes s 0x01 1 op d ∧ operLegal d = true ∧ operMargin d
      = s.part.marginAsked r ∧ s.part.get F.PMB_OP_ONOFF r = 0x18 ∧ d ≠ 0x00 ∧ d ≠ 0x40 ∧ s.part.is F.RAIL_CTRL_EN r = false ∧
      s.part.railState r ≠ railFaulted ∧ s.part.deviceOn = false ∧ PmbTakes s 0x10 1 op d ∧ wpLegal d = true := by
  unfold PmbTakes
  decide +kernel

theorem witness_PmbusWriteChecksAndWrites_9 :
  let op : PmbOp := wr [0]; let r : Fin 63 := 6; let d : Nat := 0;
  let s : State := pmbus [(F.PMB_CTRL_PECREQ, 0, 0), (F.PMB_OP_ONOFF, 6, 0)];
  s.part.page = r ∧ PmbTakes s 0x01 1 op d ∧ operLegal d = true ∧ operMargin d = s.part.marginAsked r ∧ s.part.get
      F.PMB_OP_ONOFF r ≠ 0x18 ∧ PmbTakes s 0x02 1 op d ∧ (d = 0x18 ∨ d = 0) := by
  unfold PmbTakes
  decide +kernel

theorem witness_PmbusWriteChecksAndWrites_10 :
  let op : PmbOp := wr [128]; let r : Fin 63 := 6; let d : Nat := 128;
  let s : State := pmbus [(F.PMB_CTRL_PECREQ, 0, 0), (F.PMB_OP_ONOFF, 6, 0x18), (F.RAIL_CTRL_STATE, 6, 7)];
  s.part.page = r ∧ PmbTakes s 0x01 1 op d ∧ operLegal d = true ∧ operMargin d = s.part.marginAsked r ∧ s.part.get
      F.PMB_OP_ONOFF r = 0x18 ∧ d ≠ 0x00 ∧ d ≠ 0x40 ∧ s.part.is F.RAIL_CTRL_EN r = false ∧ (s.part.railState r = railFaulted ∨
      s.part.deviceOn = true) := by
  unfold PmbTakes
  decide +kernel

theorem witness_PmbusWriteChecksAndWrites_11 :
  let op : PmbOp := wr [64]; let r : Fin 63 := 6; let d : Nat := 64;
  let s : State := pmbus [(F.PMB_CTRL_PECREQ, 0, 0), (F.PMB_OP_ONOFF, 6, 0x18), (F.RAIL_CTRL_STATE, 6, 3), (F.RAIL_CTRL_EN, 6, 1)];
  s.part.page = r ∧ PmbTakes s 0x01 1 op d ∧ operLegal d = true ∧ operMargin d = s.part.marginAsked r ∧ s.part.get
      F.PMB_OP_ONOFF r = 0x18 ∧ (d = 0x00 ∨ d = 0x40) ∧ s.part.is F.RAIL_CTRL_EN r = true ∧ s.part.outranked r = false := by
  unfold PmbTakes
  decide +kernel

theorem witness_PmbusWriteChecksAndWrites_12 :
  let op : PmbOp := wr [0]; let r : Fin 63 := 6; let d : Nat := 0;
  let s : State := { part := { (pmbus [(F.PMB_CTRL_PECREQ, 0, 0), (F.PMB_OP_ONOFF, 6, 0x18), (F.RAIL_CTRL_STATE, 6, 3), (F.RAIL_CTRL_EN, 6, 1)]).part with flt := { queue := [trip6] } } };
  s.part.page = r ∧ PmbTakes s 0x01 1 op d ∧ operLegal d = true ∧ operMargin d = s.part.marginAsked r ∧ s.part.get
      F.PMB_OP_ONOFF r = 0x18 ∧ (d = 0x00 ∨ d = 0x40) ∧ s.part.is F.RAIL_CTRL_EN r = true ∧ s.part.outranked r = true := by
  unfold PmbTakes
  decide +kernel

theorem witness_PmbusWriteChecksAndWrites_13 :
  let op : PmbOp := wr [0, 4]; let r : Fin 63 := 6; let d : Nat := 1024; let s : State := pmbus [(F.PMB_CTRL_PECREQ, 0, 0)];
  s.part.page = r ∧ PmbTakes s 0x46 2 op d ∧ toSigned 11 d < 0 := by
  unfold PmbTakes
  decide +kernel

theorem witness_PmbusWriteChecksAndWrites_14 :
  let op : PmbOp := wr [0];
  let s : State := { part := { (st []).part with pmb := { wait := some { crc := [], count := 3 } } } };
  op.read = false ∧ s.part.pmbUp = false ∧ s.part.pmb.wait ≠ none := by
  decide +kernel

theorem witness_PmbusReads_1 :
  let op : PmbOp := rd 3 true; let r : Fin 63 := 6;
  let s : State := pmbus [(F.PMB_ST_VOUT, 6, 0x88), (F.PMB_ST_IOUT, 6, 8), (F.PMB_ST_TEMP, 6, 0x80), (F.PMB_STAT_CML, 0, 0x82), (F.PMB_CTRL_COR, 0, 1)];
  PmbAsks s 2 op ∧ s.part.page = r ∧ (toLinear11 s.part.vbus 4096).isSome = true ∧ (toLinear11 (s.part.railImeas r)
      256).isSome = true ∧ (toLinear11 (s.part.railTemp r) 64).isSome = true ∧ (toLinear11 (s.part.pMeasRail r).num
      (s.part.pMeasRail r).den).isSome = true := by
  unfold PmbAsks
  decide +kernel

theorem witness_PmbusReads_2 :
  let op : PmbOp := rd 2 true; let r : Fin 63 := 6;
  let s : State := pmbus [(F.PMB_ST_VOUT, 6, 0x88), (F.PMB_ST_IOUT, 6, 8), (F.PMB_ST_TEMP, 6, 0x80), (F.PMB_STAT_CML, 0, 0x82), (F.PMB_CTRL_COR, 0, 1)];
  PmbAsks s 1 op ∧ s.part.page = r := by
  unfold PmbAsks
  decide +kernel

theorem witness_PmbusReads_3 :
  let op : PmbOp := rd 3 true; let r : Fin 63 := 6;
  let s : State := { part := ((List.range 40).foldl (fun (m : Part) p => m.setPool p { repRail := 6, repI := 0x7FFFFFFF }) (pmbus []).part).setPoint 6 { rv := 0xFFFFF } };
  PmbAsks s 2 op ∧ s.part.page = r ∧ toLinear11 (s.part.pMeasRail r).num (s.part.pMeasRail r).den = none := by
  unfold PmbAsks
  decide +kernel

theorem witness_PmbusReads_4 :
  let op : PmbOp := rd 9 true; let s : State := pmbus [];
  PmbAsks s 8 op := by
  unfold PmbAsks
  decide +kernel

theorem witness_PmbusReads_5 :
  let op : PmbOp := rd 2 true; let s : State := pmbus [(F.PMB_STAT_PAGE, 0, 0xFF)];
  s.part.pmbUp = true ∧ op.read = true ∧ op.data = [] ∧ op.count ≤ 2 ∧ s.part.page = 0xFF := by
  decide +kernel

theorem witness_PmbusServices_1 :
  let op : PmbOp := wr [3, 1, 2, 3]; let r : Fin 63 := 6; let code : Fin 32 := 31; let b0 : Byte := 1; let b1 : Byte := 2;
  let b2 : Byte := 3; let s : State := pmbus [(F.PMB_CTRL_PECREQ, 0, 0)];
  s.part.pmbUp = true ∧ s.part.is F.PMB_CTRL_EN 0 = true ∧ s.part.recalling = false ∧ s.part.railState r = railOff ∧
      (s.part.get F.SYS_BOOT_STATE 0 ≠ 5 ∨ code.val < 28) ∧ s.part.is F.PMB_MBIN_FULL 0 = false ∧ (op.read = true ∨
      s.part.protects (0xD0 + code) = false) ∧ s.part.pmb.wait = none ∧ s.part.page = r ∧ op.data = [3, b0, b1, b2] ∧ PmbTakes
      s 0xD0 4 op (fromBytes op.data) ∧ PmbTakes s 0xD2 4 op (fromBytes op.data) ∧ op.read = false := by
  unfold PmbTakes
  decide +kernel

theorem witness_PmbusServices_2 :
  let r : Fin 63 := 6; let code : Fin 32 := 5;
  let s : State := { part := { (pmbus [(F.PMB_CTRL_PECREQ, 0, 0), (F.PMB_MBIN_FULL, 0, 1), (F.RAIL_CTRL_STATE, 6, 3)]).part with pmb := { alert := true }, sys := { standby := true } } };
  s.part.railState r ≠ railOff ∧ s.part.pmbUp = true ∧ s.part.pmb.alert = true ∧ s.part.sys.standby = true ∧ (s.part.get
      F.SYS_BOOT_STATE 0 ≠ 5 ∨ code.val < 28) ∧ s.part.is F.PMB_MBIN_FULL 0 = true := by
  decide +kernel

theorem witness_PmbusServices_3 :
  let op : PmbOp := rd 2 true; let v : Word := 0xFFFFFFFF;
  let s : State := pmbus [(F.PMB_CTRL_PECREQ, 0, 0), (F.PMB_ST_VOUT, 6, 0x88), (F.PMB_ST_IOUT, 6, 8), (F.PMB_ST_TEMP, 6, 0x80), (F.PMB_STAT_CML, 0, 0x82), (F.PMB_CTRL_COR, 0, 1)];
  s.part.pmbUp = true ∧ op.read = true ∧ 34 < fieldOf v F.PMB_MBOUT_LEN := by
  decide +kernel

theorem witness_PmbusServices_4 :
  let w : PmbWait := { crc := [], count := 3 }; let v : Word := (withBits 0 F.PMB_MBOUT_LEN.lo F.PMB_MBOUT_LEN.width 34);
  let s : State := { part := { (pmbus [(F.PMB_CTRL_PECREQ, 0, 0), (F.RAIL_CTRL_STATE, 6, 3), (F.PMB_OV_OV, 6, 0), (F.PMB_OC_OC, 6, 0)]).part with pmb := { wait := some { crc := [], count := 3 } } } };
  fieldOf v F.PMB_MBOUT_LEN ≤ 34 ∧ s.part.pmb.wait = some w := by
  decide +kernel

theorem witness_PmbusServices_5 :
  let op : PmbOp := wr []; let r : Fin 63 := 6;
  let s : State := pmbus [(F.PMB_CTRL_PECREQ, 0, 0), (F.PMB_ST_VOUT, 6, 0x88), (F.PMB_ST_IOUT, 6, 8), (F.PMB_ST_TEMP, 6, 0x80), (F.PMB_STAT_CML, 0, 0x82), (F.PMB_CTRL_COR, 0, 1)];
  PmbTakes s 0x03 0 op 0 ∧ s.part.page = r ∧ s.part.is F.PMB_CTRL_CFRAIL 0 = false := by
  unfold PmbTakes
  decide +kernel

theorem witness_PmbusServices_6 :
  let op : PmbOp := rd 5 true; let r : Fin 63 := 6; let s : State := pmbus [(F.PMB_CTRL_PECREQ, 0, 0)];
  s.part.is F.PMB_MBIN_FULL 0 = false ∧ s.part.page = r ∧ PmbAsks s 4 op := by
  unfold PmbAsks
  decide +kernel

theorem witness_PmbusServices_7 :
  let b0 : Byte := 0x3A; let s : State := pmbus [];
  s.part.pmbUp = true ∧ decodedCommand b0.toNat = none ∧ (b0.toNat < 0xD0 ∨ 0xEF < b0.toNat) := by
  decide +kernel

theorem witness_PmbusPageValues_1 :
  let op : PmbOp := wr [0x3E]; let d : Nat := 0x3E; let s : State := pmbus [(F.PMB_CTRL_PECREQ, 0, 0)];
  PmbTakes s 0x00 1 op d ∧ d ≤ 0x3E := by
  unfold PmbTakes
  decide +kernel

theorem witness_PmbusPageValues_2 :
  let op : PmbOp := wr [0xFF]; let d : Nat := 0xFF; let s : State := pmbus [(F.PMB_CTRL_PECREQ, 0, 0)];
  PmbTakes s 0x00 1 op d ∧ d = 0xFF := by
  unfold PmbTakes
  decide +kernel

theorem witness_PmbusPageValues_3 :
  let op : PmbOp := wr [0x3F]; let d : Nat := 0x3F; let s : State := pmbus [(F.PMB_CTRL_PECREQ, 0, 0)];
  PmbTakes s 0x00 1 op d ∧ 0x3E < d ∧ d ≠ 0xFF := by
  unfold PmbTakes
  decide +kernel

theorem witness_PmbusPageValues_4 :
  let op : PmbOp := wr [0x34, 0x12]; let d : Nat := 0x1234;
  let s : State := pmbus [(F.PMB_CTRL_PECREQ, 0, 0), (F.PMB_STAT_PAGE, 0, 0xFF)];
  s.part.page = 0xFF ∧ PmbTakes s 0x26 2 op d := by
  unfold PmbTakes
  decide +kernel

theorem witness_PmcPort_1 :
  let v : Word := 0x1;
  let s : State := st [(F.PMC_CFG_EN, 0, 1), (F.PMC_STAT_BUSY, 0, 1), (F.PMC_CMD_RLEN, 0, 4), (F.PMC_CMD_PEC, 0, 1)];
  (32 < fieldOf v F.PMC_CMD_WLEN ∨ 32 < fieldOf v F.PMC_CMD_RLEN ∨ s.part.is F.PMC_STAT_BUSY 0 = true) ∧ s.part.is
      F.PMC_STAT_BUSY 0 = true ∧ s.part.pmc.stuck = false ∧ fieldOf v F.PMC_CFG_SPEED ≠ 3 ∧ (s.part.is F.PMC_CFG_EN 0 = false
      ∨ s.part.is F.PMC_CFG_ARAEN 0 = false) ∧ s.part.pmc.alist = [] := by
  decide +kernel

theorem witness_PmcPort_6 :
  let d : List Byte := [5, 6]; let pec : Byte := 0;
  let s : State := { part := { put {} [(F.PMC_STAT_BUSY, 0, 1), (F.PMC_CFG_RETRY, 0, 3)] with pmc := { cmd := 0x40000002, sent := [1], tries := 2 } } };
  s.part.is F.PMC_STAT_BUSY 0 = true ∧ s.part.pmc.stuck = false ∧ s.part.pmc.tries < s.part.get F.PMC_CFG_RETRY 0 ∧
    d.length = fieldOf s.part.pmc.cmd F.PMC_CMD_RLEN ∧ d.length ≤ 32 ∧ fieldOf s.part.pmc.cmd F.PMC_CMD_PEC = 1 ∧ d ≠ [] ∧
    crc8 (s.part.pmc.sent ++ d) ≠ pec := by
  decide +kernel

theorem witness_PmcPort_7 :
  let v : Word := 0x20000000; let w : Word := 1; let x : Word := 0xFFFFFFFF;
  (fieldOf v F.PMC_CMD_WLEN = 0 ∧ fieldOf v F.PMC_CMD_CMDEN = 1 ∧ fieldOf v F.PMC_CMD_RLEN = 0 ∧ fieldOf v F.PMC_CMD_PEC = 0) ∧
    (0 < fieldOf w F.PMC_CMD_RLEN ∧ fieldOf w F.PMC_CMD_WLEN = 0 ∧ fieldOf w F.PMC_CMD_CMDEN = 0) ∧ 32 < fieldOf x F.PMC_CMD_WLEN := by
  decide +kernel

/-- R336: the remainder of x^8 by x^8 + x^2 + x + 1 is x^2 + x + 1, and a message with its PEC leaves 0. -/
theorem test_crc8 : crc8 [1] = 7 ∧ crc8 [1, 7] = 0 := by decide +kernel

theorem witness_PmcPort_2 :
  let v : Word := 0x1; let addrs : List (BitVec 7) := [5, 9]; let a : Nat := 9; let rest : List Nat := [100];
  let s : State := { part := { put {} [(F.PMC_CFG_EN, 0, 1), (F.PMC_CFG_ARAEN, 0, 1)] with pmc := { alist := [9, 100] } } };
  fieldOf v F.PMC_CMD_WLEN ≤ 32 ∧ fieldOf v F.PMC_CMD_RLEN ≤ 32 ∧ s.part.is F.PMC_STAT_BUSY 0 = false ∧ s.part.is F.PMC_CFG_EN
      0 = true ∧ (s.part.is F.PMC_STAT_BUSY 0 = false ∨ s.part.pmc.stuck = true) ∧ s.part.is F.PMC_CFG_ARAEN 0 = true ∧
      s.part.pmc.stuck = false ∧ s.part.pmc.alist.length + addrs.length ≤ 8 ∧ s.part.pmc.alist = a :: rest ∧ a < 128 ∧
      rest.length < 16 := by
  decide +kernel

theorem witness_PmcPort_3 :
  let v : Word := 0; let s : State := st [];
  fieldOf v F.PMC_CMD_WLEN ≤ 32 ∧ fieldOf v F.PMC_CMD_RLEN ≤ 32 ∧ s.part.is F.PMC_STAT_BUSY 0 = false ∧ s.part.is F.PMC_CFG_EN
      0 = false := by
  decide +kernel

theorem witness_PmcPort_4 :
  let s : State := { part := { put {} [(F.PMC_CFG_EN, 0, 1)] with pmc := { stuck := true } } };
  s.part.pmc.stuck = true := by
  decide +kernel

theorem witness_PmcPort_5 :
  let v : Word := 0xFFFFFFFF;
  fieldOf v F.PMC_CFG_SPEED = 3 := by
  decide +kernel

theorem witness_LcpChecksAndCommands_1 :
  let f : LcpFrame := { port := 1, rail := 6, arg := 7 }; let c : Instr := .lcpNop ({ port := 1, rail := 6, arg := 7 });
  let op : Nat := 0; let s : State := st [];
  LcpRow f c op ∧ s.part.is F.LCP_CFG_EN f.port = false := by
  unfold LcpRow
  decide +kernel

theorem witness_LcpChecksAndCommands_2 :
  let f : LcpFrame := { port := 1, rail := 6, arg := 7 }; let c : Instr := .lcpSetFloor ({ port := 1, rail := 6, arg := 7 });
  let op : Nat := 1; let s : State := st [(F.LCP_CFG_EN, 1, 1), (F.LCP_RMLO_MASK, 1, 0)];
  LcpRow f c op ∧ s.part.is F.LCP_CFG_EN f.port = true ∧ s.part.railPermitted f.port f.rail op = false := by
  unfold LcpRow
  decide +kernel

theorem witness_LcpChecksAndCommands_3 :
  let f : LcpFrame := { port := 1, rail := 6, arg := 0x100000 };
  let c : Instr := .lcpSetCeil ({ port := 1, rail := 6, arg := 0x100000 }); let op : Nat := 2; let s : State := lcp [];
  LcpRow f c op ∧ s.part.is F.LCP_CFG_EN f.port = true ∧ s.part.railPermitted f.port f.rail op = true ∧ s.part.argOk f.rail op
      f.arg.toNat = false := by
  unfold LcpRow
  decide +kernel

theorem witness_LcpChecksAndCommands_4 :
  let f : LcpFrame := { port := 1, rail := 6, arg := 7 }; let c : Instr := .lcpSetFloor ({ port := 1, rail := 6, arg := 7 });
  let op : Nat := 1; let s : State := lcp [(F.RAIL_CTRL_STATE, 6, 7)];
  LcpRow f c op ∧ s.part.is F.LCP_CFG_EN f.port = true ∧ s.part.railPermitted f.port f.rail op = true ∧ s.part.argOk f.rail op
      f.arg.toNat = true ∧ s.part.stateBars f.rail op = true := by
  unfold LcpRow
  decide +kernel

theorem witness_LcpChecksAndCommands_5 :
  let f : LcpFrame := { port := 1, rail := 6, arg := 7 }; let c : Instr := .lcpHold ({ port := 1, rail := 6, arg := 7 });
  let op : Nat := 6;
  let s : State := { part := { (lcp [(F.RAIL_CTRL_STATE, 6, 3), (F.RAIL_SRC_SRC, 6, 0)]).part with flt := { queue := [trip6] } } };
  LcpRow f c op ∧ s.part.is F.LCP_CFG_EN f.port = true ∧ s.part.railPermitted f.port f.rail op = true ∧ s.part.argOk f.rail op
      f.arg.toNat = true ∧ s.part.stateBars f.rail op = false ∧ s.part.lcpRefused f.rail op = true := by
  unfold LcpRow
  decide +kernel

theorem witness_LcpChecksAndCommands_6 :
  let f : LcpFrame := { port := 1, rail := 6, arg := 0 }; let r : Fin 63 := 6; let n : Fin 4 := 1; let edges : Nat := 47;
  let bits : BitVec 48 := 0xA18000000000; let s : State := lcp [];
  LcpPasses s f 0x00 ∧ LcpPasses s f 0x01 ∧ LcpPasses s f 0x02 ∧ LcpPasses s f 0x03 ∧ f.rail.val = r ∧ LcpPasses s f 0x06 ∧
      LcpPasses s f 0x07 ∧ LcpPasses s f 0x10 ∧ LcpPasses s f 0x11 ∧ LcpPasses s f 0x18 ∧ s.part.is F.LCP_CFG_EN n = true ∧
      edges < 48 ∧ frameCrc (bits.toNat / 256) ≠ bits.toNat % 256 := by
  unfold LcpPasses
  decide +kernel

theorem witness_LcpChecksAndCommands_7 :
  let f : LcpFrame := { port := 1, rail := 6, arg := 0x030001 }; let n : Fin 4 := 1; let edges : Nat := 49;
  let s : State := lcp [(F.RAIL_CTRL_STATE, 6, 3), (F.RAIL_SRC_SRC, 6, 0)];
  LcpPasses s f 0x04 ∧ LcpPasses s f 0x05 ∧ s.part.is F.LCP_CFG_EN n = true ∧ 48 < edges := by
  unfold LcpPasses
  decide +kernel

theorem witness_LcpChecksAndCommands_8 :
  let n : Fin 4 := 1; let bits : BitVec 48 := (BitVec.ofNat 48 (5 * 2 ^ 44 + frameCrc (5 * 2 ^ 36))); let s : State := lcp [];
  s.part.is F.LCP_CFG_EN n = true ∧ frameCrc (bits.toNat / 256) = bits.toNat % 256 ∧ bits.toNat / 2 ^ 44 ≠ 10 := by
  decide +kernel

theorem witness_LcpChecksAndCommands_9 :
  let n : Fin 4 := 1; let bits : BitVec 48 := BitVec.ofNat 48 (0xA3F * 2 ^ 36 + frameCrc (0xA3F * 2 ^ 28));
  let s : State := lcp [];
  s.part.is F.LCP_CFG_EN n = true ∧ frameCrc (bits.toNat / 256) = bits.toNat % 256 ∧ bits.toNat / 2 ^ 44 = 10 ∧
    opKnown (bits.toNat / 2 ^ 32 % 64) = false := by
  decide +kernel

theorem witness_InstructionWords_1 :
  let u : Executor := .core 2; let w : Word := 0x84E8FFFB; let i : Instr := .bne 2 7 8 (-5);
  encodeWord i = some (u, w) ∧ decodeWord u w = some i := by
  decide +kernel

theorem witness_CoreArithmetic_1 :
  let c : Fin 4 := 2; let s : State := core2 regs2 [];
  AtInstruction s c := by
  unfold AtInstruction
  decide +kernel

theorem witness_CoreArithmetic_2 :
  let c : Fin 4 := 2; let s : State := core2 regs2 [];
  AtInstruction s c := by
  unfold AtInstruction
  decide +kernel

theorem witness_CoreArithmetic_3 :
  let c : Fin 4 := 2; let rb : Fin 32 := 4; let s : State := core2 regs2 [];
  (let b := (s.part.core c).reg rb; AtInstruction s c ∧ b ≠ 0) := by
  unfold AtInstruction
  decide +kernel

theorem witness_CoreArithmetic_4 :
  let c : Fin 4 := 2; let rb : Fin 32 := 0; let s : State := core2 regs2 [];
  (let b := (s.part.core c).reg rb; AtInstruction s c ∧ b = 0 ∧ (s.part.core c).ex = false) := by
  unfold AtInstruction
  decide +kernel

theorem witness_LoadsAndStores_1 :
  let c : Fin 4 := 2; let ra : Fin 32 := 6; let off : BitVec 16 := 0;
  let s : State := { (core2 regs2 []) with mem := [(0x10000401, 0x81), (0x10000402, 0x82), (0x10000403, 0x83), (0x10000404, 0x84), (0x10000405, 0x95)] };
  (let a := dataAddress s c ra off; AtInstruction s c ∧ PlainRead s a.toNat ∧ a.toNat % 2 = 0) ∧
  (let a := dataAddress s c ra off; AtInstruction s c ∧ PlainRead s a.toNat) ∧
  (let a := dataAddress s c ra off; AtInstruction s c ∧ (s.part.core c).ex = false ∧ a.toNat % 4 ≠ 0) := by
  unfold AtInstruction PlainRead
  decide +kernel

theorem witness_LoadsAndStores_2 :
  let c : Fin 4 := 2; let ra : Fin 32 := 9; let off : BitVec 16 := 0;
  let s : State := { (core2 regs2 []) with mem := [(0x10000401, 0x81), (0x10000402, 0x82), (0x10000403, 0x83), (0x10000404, 0x84), (0x10000405, 0x95)] };
  (let a := dataAddress s c ra off; AtInstruction s c ∧ (s.part.core c).ex = false ∧ regionOf a.toNat = .nowhere ∧ a.toNat % 4 = 0) ∧
  (let a := dataAddress s c ra off; AtInstruction s c ∧ (s.part.core c).ex = false ∧ regionOf a.toNat = .nowhere) := by
  unfold AtInstruction
  decide +kernel

theorem witness_LoadsAndStores_3 :
  let c : Fin 4 := 2; let ra : Fin 32 := 7; let off : BitVec 16 := 0;
  let s : State := { (core2 regs2 []) with mem := [(0x10000401, 0x81), (0x10000402, 0x82), (0x10000403, 0x83), (0x10000404, 0x84), (0x10000405, 0x95)] };
  (let a := dataAddress s c ra off; AtInstruction s c ∧ PlainRead s a.toNat ∧ a.toNat % 4 = 0) := by
  unfold AtInstruction PlainRead
  decide +kernel

theorem witness_LoadsAndStores_4 :
  let c : Fin 4 := 2; let ra : Fin 32 := 8; let off : BitVec 16 := 0;
  let s : State := { (core2 regs2 []) with mem := [(0x10000401, 0x81), (0x10000402, 0x82), (0x10000403, 0x83), (0x10000404, 0x84), (0x10000405, 0x95)] };
  (let a := dataAddress s c ra off; AtInstruction s c ∧ (s.part.core c).ex = false ∧ a.toNat % 2 ≠ 0) := by
  unfold AtInstruction
  decide +kernel

theorem witness_LoadsAndStores_5 :
  let c : Fin 4 := 2; let ra : Fin 32 := 6; let off : BitVec 16 := 0;
  let s : State := { (core2 regs2 []) with mem := [(0x10000401, 0x81), (0x10000402, 0x82), (0x10000403, 0x83), (0x10000404, 0x84), (0x10000405, 0x95)] };
  (let a := dataAddress s c ra off; AtInstruction s c ∧ a.toNat % 2 = 0 ∧ PlainWrite s a.toNat 2) ∧
  (let a := dataAddress s c ra off; AtInstruction s c ∧ PlainWrite s a.toNat 1) ∧
  (let a := dataAddress s c ra off; AtInstruction s c ∧ (s.part.core c).ex = false ∧ a.toNat % 4 ≠ 0) := by
  unfold AtInstruction PlainWrite
  decide +kernel

theorem witness_LoadsAndStores_6 :
  let c : Fin 4 := 2; let ra : Fin 32 := 7; let off : BitVec 16 := 0;
  let s : State := { (core2 regs2 []) with mem := [(0x10000401, 0x81), (0x10000402, 0x82), (0x10000403, 0x83), (0x10000404, 0x84), (0x10000405, 0x95)] };
  (let a := dataAddress s c ra off; AtInstruction s c ∧ a.toNat % 4 = 0 ∧ PlainWrite s a.toNat 4) := by
  unfold AtInstruction PlainWrite
  decide +kernel

theorem witness_LoadsAndStores_7 :
  let c : Fin 4 := 2; let ra : Fin 32 := 8; let off : BitVec 16 := 0;
  let s : State := { (core2 regs2 []) with mem := [(0x10000401, 0x81), (0x10000402, 0x82), (0x10000403, 0x83), (0x10000404, 0x84), (0x10000405, 0x95)] };
  (let a := dataAddress s c ra off; AtInstruction s c ∧ (s.part.core c).ex = false ∧ a.toNat % 2 ≠ 0) := by
  unfold AtInstruction
  decide +kernel

theorem witness_LoadsAndStores_8 :
  let c : Fin 4 := 2; let ra : Fin 32 := 9; let off : BitVec 16 := 0;
  let s : State := { (core2 regs2 []) with mem := [(0x10000401, 0x81), (0x10000402, 0x82), (0x10000403, 0x83), (0x10000404, 0x84), (0x10000405, 0x95)] };
  (let a := dataAddress s c ra off; AtInstruction s c ∧ a.toNat % 4 = 0 ∧ (regionOf a.toNat = .rom ∨ regionOf a.toNat = .nowhere)) := by
  unfold AtInstruction
  decide +kernel

theorem witness_LoadsAndStores_9 :
  let c : Fin 4 := 2; let ra : Fin 32 := 9; let off : BitVec 16 := 0;
  let s : State := core2 { regs2 with g := [(9, 0x40000010)], flight := [5] } [];
  (let a := dataAddress s c ra off; AtInstruction s c ∧ unposted a.toNat = true ∧ a.toNat % 4 = 0) := by
  unfold AtInstruction
  decide +kernel

theorem witness_BranchesAndJumps_1 :
  let c : Fin 4 := 2; let s : State := core2 regs2 [];
  AtInstruction s c := by
  unfold AtInstruction
  decide +kernel

theorem witness_BranchesAndJumps_2 :
  let c : Fin 4 := 2; let ra : Fin 32 := 7; let s : State := core2 regs2 [];
  AtInstruction s c ∧
  (let x := s.part.core c; AtInstruction s c ∧ (x.reg ra).toNat % 4 = 0) := by
  unfold AtInstruction
  decide +kernel

theorem witness_BranchesAndJumps_3 :
  let c : Fin 4 := 2; let ra : Fin 32 := 8; let s : State := core2 regs2 [];
  (let x := s.part.core c; AtInstruction s c ∧ (x.reg ra).toNat % 4 ≠ 0 ∧ x.ex = false) := by
  unfold AtInstruction
  decide +kernel

theorem witness_ControlRegisters_1 :
  let c : Fin 4 := 2; let n : Fin 64 := 12; let s : State := core2 regs2 [];
  AtInstruction s c ∧
  (let x := s.part.core c; AtInstruction s c ∧ x.ex = false ∧ 11 < n.val) ∧
  (let x := s.part.core c; AtInstruction s c ∧ x.ex = false ∧ (n.val = 0 ∨ 7 < n.val)) := by
  unfold AtInstruction
  decide +kernel

theorem witness_ControlRegisters_2 :
  let c : Fin 4 := 2; let n : Fin 64 := 7; let s : State := core2 regs2 [];
  AtInstruction s c ∧ (s.part.core c).ex = false ∧ n.val ≠ 0 ∧ n.val ≤ 11 ∧ 1 ≤ n.val ∧ n.val ≤ 7 := by
  unfold AtInstruction
  decide +kernel

theorem witness_ControlRegisters_3 :
  let c : Fin 4 := 2; let n : Fin 64 := 9; let s : State := core2 regs2 [];
  AtInstruction s c ∧ (s.part.core c).ex = false ∧ n.val ≠ 0 ∧ n.val ≤ 11 ∧ 1 ≤ n.val ∧ 7 < n.val := by
  unfold AtInstruction
  decide +kernel

theorem witness_SystemInstructions_1 :
  let c : Fin 4 := 2; let s : State := core2 regs2 [];
  AtInstruction s c ∧
  (let x := s.part.core c; AtInstruction s c ∧ x.flight = [] ∧ x.held = []) ∧
  (let x := s.part.core c; AtInstruction s c ∧ x.ex = false) := by
  unfold AtInstruction
  decide +kernel

theorem witness_SystemInstructions_2 :
  let c : Fin 4 := 2; let s : State := core2 { regs2 with epc := 0x10000503, eps := 0xFFFFFFFF, flight := [5, 6] } [];
  (let x := s.part.core c; AtInstruction s c ∧ x.held ++ x.flight ≠ [] ∧ x.ex = false) := by
  unfold AtInstruction
  decide +kernel

theorem witness_SystemInstructions_3 :
  let c : Fin 4 := 2; let s : State := core2 { regs2 with ps := 3, held := [9], flight := [5, 6] } [];
  (let x := s.part.core c; AtInstruction s c ∧ x.ex = true ∧ s.part.inHandler c = false) := by
  unfold AtInstruction
  decide +kernel

theorem witness_ExceptionEntries_1 :
  let c : Fin 4 := 2; let w : Word := 0xFFFFFFFF; let s : State := core2 { regs2 with flight := [5, 6] } [];
  (let x := s.part.core c; AtInstruction s c ∧ x.ex = false ∧ sLegal w = false) ∧
  (let x := s.part.core c; AtInstruction s c ∧ x.ex = false) ∧
  (let x := s.part.core c; x.flight ≠ [] ∧ x.ex = false ∧ x.held = [] ∧ x.st = .run ∧ s.part.entriesOpen c = true) := by
  unfold AtInstruction
  decide +kernel

theorem witness_ExceptionEntries_2 :
  let c : Fin 4 := 2; let s : State := core2 { regs2 with ps := 3, held := [9], flight := [5, 6] } [];
  (let x := s.part.core c; x.flight ≠ [] ∧ x.ex = true) := by
  decide +kernel

theorem witness_ExceptionEntries_3 :
  let c : Fin 4 := 2;
  let s : State := core2 { regs2 with ps := 0 } [(F.IC_CFG_TGT, 200, 2), (F.IC_CFG_PRI, 200, 9), (F.IC_PEND_PEND, 6, 0x100), (F.IC_EN_EN, 6, 0x100)];
  (let p := 9; let x := s.part.core c; x.st = .run ∧ s.part.storeErrorDue c = false ∧ s.part.interruptDue c = some p) := by
  decide +kernel

theorem witness_ExceptionEntries_4 :
  let l : Fin 16 := 2; let w : Word := 0xFFFFFFFF; let y : Run := curr4; let s : State := onLane curr4 [];
  (s.part.lane l).run = some y ∧ lLegal w = false := by
  decide +kernel

theorem witness_PendingBitsAndGlobalDisable_1 :
  let i : Initiator := .hsp; let c : Fin 4 := 2; let src : Fin 384 := 200; let s : State := st [(F.IC_SW_SW, 2, 0x100)];
  s.part.sourceLevel src = true ∧ s.part.running c = none ∧ (∀ d, i ≠ .core d) := by
  decide +kernel

theorem witness_PendingBitsAndGlobalDisable_2 :
  let c : Fin 4 := 2; let src : Fin 384 := 200; let s : State := st [(F.IC_STK_HELD, 2, 0x208), (F.IC_CFG_TGT, 200, 2)];
  s.part.sourceLevel src = false ∧ (s.part.running c).isSome = true := by
  decide +kernel

theorem witness_PendingBitsAndGlobalDisable_3 :
  let i : Initiator := .hsp; let v : Word := 0xFFFFFFFF; let s : State := st [];
  ((∀ d, i ≠ .core d) ∨ fieldOf v F.IC_GDIS_MAXT = 0) ∧ s.part.is F.IC_GDIS_DIS 0 = false := by
  decide +kernel

theorem witness_PendingBitsAndGlobalDisable_4 :
  let i : Initiator := .core 3; let v : Word := 0xFFFFFFFF; let s : State := st [(F.IC_GDIS_DIS, 0, 1)];
  s.part.is F.IC_GDIS_DIS 0 = true ∧
  (let d := (3 : Fin 4); i = .core d ∧ fieldOf v F.IC_GDIS_MAXT ≠ 0) := by
  decide +kernel

theorem witness_Semaphores_1 :
  let i : Initiator := .dma; let n : Fin 32 := 31; let v : Word := 0x80000000;
  let s : State := { part := { (st [(F.IC_SEM_BUSY, 31, 1), (F.IC_SEM_OWNER, 31, 4)]).part with icu := { semWait := 0x80000000 } } };
  i ≠ .ydp ∧ s.part.is F.IC_SEM_BUSY n = true ∧ s.part.get F.IC_SEM_OWNER n = initIndex i ∧ (v ≠ 0 ∨ s.part.is F.IC_SEM_BUSY n
      = false ∨ s.part.get F.IC_SEM_OWNER n ≠ initIndex i) ∧ (∀ d, i ≠ .core d) := by
  decide +kernel

theorem witness_Semaphores_2 :
  let i : Initiator := .dma; let n : Fin 32 := 31; let s : State := st [];
  i ≠ .ydp ∧ s.part.is F.IC_SEM_BUSY n = false := by
  decide +kernel

theorem witness_Semaphores_3 :
  let i : Initiator := .ydp; let n : Fin 32 := 31; let v : Word := 0x80000000;
  let s : State := st [(F.IC_SEM_BUSY, 31, 1), (F.IC_SEM_OWNER, 31, 3)];
  v.getLsbD n = true ∧ s.part.is F.IC_SEM_BUSY n = true ∧ (i = .ydp ∨ ∃ d, i = .core d) := by
  decide +kernel

theorem witness_TimersAndWatchdogs_1 :
  let n : Fin 16 := 15; let s : State := st [(F.TMR_LOAD_LOAD, 15, 0)];
  s.part.get F.TMR_LOAD_LOAD n = 0 ∧ s.part.is F.TMR_CTL_EN n = false := by
  decide +kernel

theorem witness_TimersAndWatchdogs_2 :
  let n : Fin 16 := 15; let v : Word := 0;
  let s : State := st [(F.TMR_CTL_EN, 15, 1), (F.TMR_CTL_PRE, 15, 3), (F.TMR_LOAD_LOAD, 15, 9)];
  s.part.is F.TMR_CTL_EN n = true ∧ fieldOf v F.TMR_CTL_PRE ≠ s.part.get F.TMR_CTL_PRE n := by
  decide +kernel

theorem witness_TimersAndWatchdogs_3 :
  let n : Fin 16 := 15; let v : Word := 0;
  let s : State := st [(F.TMR_CTL_EN, 15, 1), (F.TMR_CTL_PER, 15, 1), (F.TMR_LOAD_LOAD, 15, 9)];
  s.part.get F.TMR_LOAD_LOAD n ≠ 0 ∧ (s.part.is F.TMR_CTL_EN n = false ∨ fieldOf v F.TMR_CTL_PRE = s.part.get F.TMR_CTL_PRE n) := by
  decide +kernel

theorem witness_TimersAndWatchdogs_4 :
  let c : Fin 4 := 2;
  let s : State := core2 { wdKey := true, wdLeft := 5 } [(F.TMR_WDCFG_EN, 2, 1), (F.TMR_WDCFG_WARN, 2, 3), (F.TMR_WDCFG_TIMEOUT, 2, 9)];
  (s.part.core c).wdKey = true ∧ s.part.wdRuns c = true ∧ s.part.get F.TMR_WDCFG_WARN c ≠ 0 := by
  decide +kernel

theorem witness_TimersAndWatchdogs_5 :
  let i : Initiator := .core 1; let c : Fin 4 := 2; let v : Word := 0xA5; let s : State := st [];
  (i ≠ .core c ∨ (v ≠ 0xA5 ∧ v ≠ 0x5A)) ∧ s.part.wdRuns c = false := by
  decide +kernel

theorem witness_DmaChannels_1 :
  let n : Fin 32 := 7; let v : Word := 0x08000000; let p : Fin 16 := 3; let s : State := st [(F.DMA_CTRL_EN, 0, 1)];
  fieldOf v F.DMA_CCMD_ABORT = 0 ∧ s.part.dmaActive n = false ∧ s.part.is F.DMA_CTRL_EN 0 = true ∧ fieldOf v F.DMA_CCMD_GO = 0
      ∧ fieldOf v F.DMA_CCMD_SWTRG = 0 ∧ s.part.dmaNext ≠ some n.val ∧ (s.part.dmaReady n = false ∨ s.part.dmaHigh n = true ∨
      (s.part.dmaChan n).watched < 256) ∧ p.val ∉ s.part.sys.drains := by
  decide +kernel

theorem witness_DmaChannels_2 :
  let n : Fin 32 := 7; let v : Word := 0x08000000; let a : Nat := 0x10000000;
  let s : State := { part := { put {} ([(F.DMA_CTRL_EN, 0, 1), (F.DMA_CSTAT_STATE, 7, 1)] ++ [(F.DMA_CDESC_DESC, 7, 0x10000000)]) with dma := { chans := [(7, { watched := 256 })] }, sys := { drains := [] } } };
  (fieldOf v F.DMA_CCMD_ABORT = 1 ∨ s.part.dmaActive n = true ∨ s.part.is F.DMA_CTRL_EN 0 = false) ∧ fieldOf v F.DMA_CCMD_GO =
      0 ∧ fieldOf v F.DMA_CCMD_SWTRG = 0 ∧ s.part.dmaActive n = true ∧ BeatIs s n .fetch (.read a 8) ∧ (s.part.dmaChan
      n).words.length < 3 ∧ PlainRead s a ∧ a % 8 = 0 ∧ s.part.dmaReady n = true ∧ s.part.dmaHigh n = false ∧ 256 ≤
      (s.part.dmaChan n).watched := by
  unfold BeatIs PlainRead
  decide +kernel

theorem witness_DmaChannels_3 :
  let n : Fin 32 := 7; let a : Nat := 0x1000081C;
  let d : List Byte := (match (({ part := { put {} ([(F.DMA_CTRL_EN, 0, 1), (F.DMA_CSTAT_STATE, 7, 3)] ++ [(F.DMA_CDESC_DESC, 7, 0x10000800)]) with dma := { chans := [(7, { stage := .status, fetched := true, dstDone := 8, desc := { ctl := (1 + 2 ^ 8 * 2), len := 8, dst := 0x10000400, pattern := 0x11223344 } })] }, sys := { drains := [] } } }) : State).part.beatOf 7 with | BeatKind.write _ _ d => d | _ => []);
  let s : State := { part := { put {} ([(F.DMA_CTRL_EN, 0, 1), (F.DMA_CSTAT_STATE, 7, 3)] ++ [(F.DMA_CDESC_DESC, 7, 0x10000800)]) with dma := { chans := [(7, { stage := .status, fetched := true, dstDone := 8, desc := { ctl := (1 + 2 ^ 8 * 2), len := 8, dst := 0x10000400, pattern := 0x11223344 } })] }, sys := { drains := [] } } };
  BeatIs s n .status (.write a 4 d) ∧ PlainWrite s a 4 ∧ a % 4 = 0 ∧ (s.part.dmaChan n).draining = false ∧ (s.part.dmaChan
      n).desc.next = 0 := by
  unfold BeatIs PlainWrite
  decide +kernel

theorem witness_DmaChannels_4 :
  let p : Fin 16 := 3; let c : Fin 32 := 7;
  let s : State := { part := { put {} ([(F.DMA_CTRL_EN, 0, 1), (F.DMA_CSTAT_STATE, 7, 3)] ++ [(F.DMA_CDESC_DESC, 7, 0x13040000)]) with dma := { chans := [(7, { fetched := true })] }, sys := { drains := [3] } } };
  p.val ∈ s.part.sys.drains ∧ s.part.touching p c = true ∧ s.part.dmaState c ≠ dmaParked := by
  decide +kernel

theorem witness_DmaChannels_5 :
  let n : Fin 32 := 7; let a : Nat := 0x10000400; let k : Nat := 8;
  let d : List Byte := (match (({ part := { put {} ([(F.DMA_CTRL_EN, 0, 1), (F.DMA_CSTAT_STATE, 7, 3)] ++ []) with dma := { chans := [(7, { stage := .data, fetched := true, desc := { ctl := (1 + 2 ^ 8 * 2), len := 8, dst := 0x10000400, pattern := 0x11223344 } })] }, sys := { drains := [] } } }) : State).part.beatOf 7 with | BeatKind.write _ _ d => d | _ => []);
  let s : State := { part := { put {} ([(F.DMA_CTRL_EN, 0, 1), (F.DMA_CSTAT_STATE, 7, 3)] ++ []) with dma := { chans := [(7, { stage := .data, fetched := true, desc := { ctl := (1 + 2 ^ 8 * 2), len := 8, dst := 0x10000400, pattern := 0x11223344 } })] }, sys := { drains := [] } } };
  BeatIs s n .data (.write a k d) ∧ PlainWrite s a k ∧ alignedAccess a k = true := by
  unfold BeatIs PlainWrite
  decide +kernel

theorem witness_NonVolatileMemory_1 :
  let s : State := st ([(F.NVM_STAT_RECALL, 0, 0), (F.NVM_PROT_BP, 0, 0)] ++ [(F.NVM_SADDR_ADDR, 0, 0xFF)]);
  s.part.recalling = false ∧ s.part.is F.NVM_PROT_LOCK 0 = false ∧ s.part.is F.NVM_STAT_HELD 0 = false ∧ s.part.is
      F.NVM_CTRL_SCRUB 0 = false ∧
  (let a := 0x20000000 + s.part.get F.NVM_SADDR_ADDR 0; s.part.recalling = false ∧ s.part.nvmProtected a = false ∧ (isLastPage a = false ∨ isKey a = true) ∧ s.part.nvmErr (nvmGroup a) = 0) := by
  decide +kernel

theorem witness_NonVolatileMemory_2 :
  let s : State := st ([(F.NVM_STAT_RECALL, 0, 0), (F.NVM_PROT_BP, 0, 0)] ++ [(F.NVM_SADDR_ADDR, 0, 0x3FF40), (F.NVM_PROT_LOCK, 0, 1), (F.NVM_CTRL_SCRUB, 0, 1)]);
  s.part.recalling = false ∧ s.part.is F.NVM_PROT_LOCK 0 = true ∧ s.part.is F.NVM_CTRL_SCRUB 0 = true ∧
  (let a := 0x20000000 + s.part.get F.NVM_SADDR_ADDR 0; s.part.recalling = false ∧ s.part.nvmProtected a = false ∧ isLastPage a = true ∧ isKey a = false) := by
  decide +kernel

theorem witness_NonVolatileMemory_3 :
  let s : State := st [(F.NVM_STAT_RECALL, 0, 1)];
  s.part.recalling = true := by
  decide +kernel

theorem witness_NonVolatileMemory_4 :
  let s : State := st ([(F.NVM_STAT_RECALL, 0, 0), (F.NVM_PROT_BP, 0, 0)] ++ [(F.NVM_SADDR_ADDR, 0, 0x20000), (F.NVM_PROT_BP, 0, 2)]);
  (let a := 0x20000000 + s.part.get F.NVM_SADDR_ADDR 0; s.part.recalling = false ∧ s.part.nvmProtected a = true) := by
  decide +kernel

theorem witness_NonVolatileMemory_5 :
  let s : State := st [(F.NVM_STAT_RECALL, 0, 0), (F.NVM_CTRL_SCRUB, 0, 1)];
  s.part.is F.NVM_CTRL_SCRUB 0 = true ∧ s.part.stepInForce 1 = false ∧ s.part.nvm.errs = [] := by
  decide +kernel

theorem witness_NonVolatileMemory_6 :
  let v : Word := (withBits (withBits 0 F.NVM_RWR_GRP.lo F.NVM_RWR_GRP.width 3) F.NVM_RWR_LEN.lo F.NVM_RWR_LEN.width 8);
  let s : State := { part := { put {} ([(F.NVM_STAT_RECALL, 0, 0), (F.NVM_PROT_BP, 0, 0)] ++ [(F.NVM_RGS_STATE, 3, 0)]) with nvm := { dir := [(3, (0x10 * 2 ^ 24 + 15 * 2 ^ 16 + 0x800, 0x80000000 + 24))] } } };
  s.part.nvm.rwr = none ∧ s.part.recalling = false ∧ s.part.nvmProtected 0x20000100 = false ∧ s.part.is F.NVM_CCFG_CEN 0 =
      true ∧
  (let grp := fieldOf v F.NVM_RWR_GRP; let len := fieldOf v F.NVM_RWR_LEN; let g := dirGroup (s.part.dirEntry grp); s.part.is F.NVM_RWR_GO 0 = false ∧ s.part.recalling = false ∧ (s.part.get F.NVM_RGS_STATE grp = 0 ∨ s.part.get F.NVM_RGS_STATE grp = 3 ∨ g.size < len + 16)) := by
  decide +kernel

theorem witness_NonVolatileMemory_7 :
  let s : State := st [];
  (s.part.is F.NVM_RWR_GO 0 = true ∨ s.part.recalling = true) ∧ s.part.recalling = true := by
  decide +kernel

theorem witness_NonVolatileMemory_8 :
  let s : State := st ([(F.NVM_STAT_RECALL, 0, 0), (F.NVM_PROT_BP, 0, 0)] ++ [(F.NVM_PROT_BP, 0, 3), (F.NVM_CCFG_CEN, 0, 1)]);
  s.part.recalling = false ∧ s.part.nvmProtected 0x20000100 = true ∧ s.part.is F.NVM_CCFG_CEN 0 = true := by
  decide +kernel

theorem witness_NonVolatileMemory_9 :
  let v : Word := (withBits (withBits 0 F.NVM_RWR_GRP.lo F.NVM_RWR_GRP.width 3) F.NVM_RWR_LEN.lo F.NVM_RWR_LEN.width 8);
  let s : State := { part := { put {} ([(F.NVM_STAT_RECALL, 0, 0), (F.NVM_PROT_BP, 0, 0)] ++ [(F.NVM_RGS_STATE, 3, 1), (F.NVM_RWSRC_SRC, 0, 0x20000000)]) with nvm := { dir := [(3, (0x10 * 2 ^ 24 + 15 * 2 ^ 16 + 0x800, 0x80000000 + 24))] } } };
  (let grp := fieldOf v F.NVM_RWR_GRP; let len := fieldOf v F.NVM_RWR_LEN; let src := s.part.get F.NVM_RWSRC_SRC 0; let g := dirGroup (s.part.dirEntry grp); s.part.is F.NVM_RWR_GO 0 = false ∧ s.part.recalling = false ∧ s.part.get F.NVM_RGS_STATE grp = 1 ∧ len + 16 ≤ g.size ∧ payloadPlace src len = false) := by
  decide +kernel

theorem witness_NonVolatileMemory_10 :
  let v : Word := (withBits (withBits 0 F.NVM_RWR_GRP.lo F.NVM_RWR_GRP.width 3) F.NVM_RWR_LEN.lo F.NVM_RWR_LEN.width 8);
  let s : State := { (({ part := { put {} ([(F.NVM_STAT_RECALL, 0, 0), (F.NVM_PROT_BP, 0, 0)] ++ [(F.NVM_RGS_STATE, 3, 1), (F.NVM_RWSRC_SRC, 0, 0x10000400)]) with nvm := { dir := [(3, (0x10 * 2 ^ 24 + 15 * 2 ^ 16 + 0x800, 0x80000000 + 24))] } } }) : State) with mem := [(0x10000404, 7)] };
  (let grp := fieldOf v F.NVM_RWR_GRP; let len := fieldOf v F.NVM_RWR_LEN; let src := s.part.get F.NVM_RWSRC_SRC 0; let g := dirGroup (s.part.dirEntry grp); s.part.is F.NVM_RWR_GO 0 = false ∧ s.part.recalling = false ∧ s.part.get F.NVM_RGS_STATE grp = 1 ∧ len + 16 ≤ g.size ∧ payloadPlace src len = true ∧ s.part.sourceOff src len = false ∧ s.part.nvmProtected g.base = false ∧ len % 8 = 0) := by
  decide +kernel

theorem witness_NonVolatileMemory_11 :
  let x : RecordResult := { result := 0, grp := 3, slot := 255, seq := 9 };
  let s : State := { part := { put {} ([(F.NVM_STAT_RECALL, 0, 0), (F.NVM_PROT_BP, 0, 0)] ++ [(F.NVM_RWR_GO, 0, 1)]) with nvm := { rwr := some { result := 0, grp := 3, slot := 255, seq := 9 } } } };
  s.part.nvm.rwr = some x ∧ x.grp < 32 ∧ x.slot < 256 := by
  decide +kernel

theorem witness_NonVolatileMemory_12 :
  let s : State := st ([(F.NVM_STAT_RECALL, 0, 0), (F.NVM_PROT_BP, 0, 0)] ++ [(F.NVM_CCFG_CEN, 0, 0)]);
  s.part.is F.NVM_CCFG_CEN 0 = false := by
  decide +kernel

theorem witness_NonVolatileMemory_13 :
  let s : State := st [(F.NVM_CTRL_SCRUB, 0, 1), (F.CLV_CTRL_EN, 0, 1), (F.CLV_STAT_LEVEL, 0, 1), (F.CLV_CTRL_STEPEN, 0, 0xFF)];
  s.part.is F.NVM_CTRL_SCRUB 0 = true ∧ s.part.stepInForce 1 = true := by
  decide +kernel

theorem witness_NonVolatileMemory_14 :
  let v : Word := (withBits (withBits 0 F.NVM_RWR_GRP.lo F.NVM_RWR_GRP.width 3) F.NVM_RWR_LEN.lo F.NVM_RWR_LEN.width 8);
  let s : State := { part := { put {} [(F.NVM_STAT_RECALL, 0, 0), (F.NVM_PROT_BP, 0, 0), (F.NVM_RGS_STATE, 3, 1), (F.NVM_RWSRC_SRC, 0, 0x13080000), (F.SYS_PWRST_OFF, 0, 16)] with nvm := { dir := [(3, (0x10 * 2 ^ 24 + 15 * 2 ^ 16 + 0x800, 0x80000000 + 24))] } } };
  let grp := fieldOf v F.NVM_RWR_GRP; let len := fieldOf v F.NVM_RWR_LEN; let src := s.part.get F.NVM_RWSRC_SRC 0;
  s.part.is F.NVM_RWR_GO 0 = false ∧ s.part.recalling = false ∧ s.part.get F.NVM_RGS_STATE grp = 1 ∧
    len + 16 ≤ (dirGroup (s.part.dirEntry grp)).size ∧ payloadPlace src len = true ∧ s.part.sourceOff src len = true := by
  decide +kernel

theorem witness_Resets_1 :
  let v : Word := 0x0; let s : State := { part := { sys := { inReset := true } } };
  s.part.sys.inReset = true ∧ fieldOf v F.SYS_RST_KEY ≠ 0xC1A5 := by
  decide +kernel

theorem witness_Resets_2 :
  let v : Word := (withBits (withBits 0 F.SYS_RST_KEY.lo F.SYS_RST_KEY.width 0xC1A5) F.SYS_RST_CORE.lo F.SYS_RST_CORE.width 0);
  let s : State := { mem := [(0x10000000, 5), (0x20000007, 9)], part := { put {} [(F.TMR_WDCFG_LOCK, 1, 1), (F.NVM_PROT_BP, 0, 1), (F.GRN_HEAD_SEQ, 0, 7), (F.RAIL_VSET_VALUE, 3, 9), (F.SYS_CSTART_ADDR, 2, 0x1000), (F.NVM_STAT_RECALL, 0, 0), (F.IC_STK_HELD, 2, 5), (F.PMB_CTRL_EN, 0, 1), (F.YDP_CTRL_DIS, 0, 1), (F.TMR_WDCFG_TIMEOUT, 1, 7), (F.TMR_WDCFG_TIMEOUT, 0, 7)] with cores := [(2, { g := [(1, 5)], ps := 2, st := .run })] } };
  s.part.sys.inReset = false ∧ fieldOf v F.SYS_RST_KEY = 0xC1A5 ∧ fieldOf v F.SYS_RST_CORE = 0 ∧ s.part.frozen = false := by
  decide +kernel

theorem witness_Resets_3 :
  let v : Word := (withBits (withBits 0 F.SYS_RST_KEY.lo F.SYS_RST_KEY.width 0xC1A5) F.SYS_RST_CORE.lo F.SYS_RST_CORE.width 4);
  let c : Fin 4 := 2;
  fieldOf v F.SYS_RST_KEY = 0xC1A5 ∧ fieldOf v F.SYS_RST_CORE / 2 ^ c.val % 2 = 1 := by
  decide +kernel

theorem witness_Resets_4 :
  let pins : ReleasePins := ⟨5, [660, 800, 1620, 1620, 1549, 1550, 2799]⟩; let s : State := { part := { sys := { inReset := true, por := true, low := [0], viop33 := true } } };
  let below := fun k => pins.volts.getD k 0 < resetLevel (s.part.sys.viop33 && !s.part.sys.por) k + s.part.riseOf k;
  s.part.sys.inReset = true ∧ below 4 ∧ below 6 ∧ below 0 ∧ ¬below 1 ∧ ∃ k, k < 7 ∧ below k := by
  intro pins s below
  exact ⟨by decide +kernel, by decide +kernel, by decide +kernel, by decide +kernel, by decide +kernel, 4, by decide +kernel⟩

theorem witness_Resets_5 :
  let pins : ReleasePins := ⟨5, [680, 800, 1620, 1620, 2501, 1550, 2800]⟩; let s : State := { part := { sys := { inReset := true, por := true, low := [0, 4] } } };
  s.part.sys.inReset = true ∧ ∀ k, k < 7 → ¬pins.volts.getD k 0 < resetLevel (s.part.sys.viop33 && !s.part.sys.por) k + s.part.riseOf k := by
  decide +kernel

theorem witness_Resets_6 :
  let t : Part := { sys := { low := [4, 6] } };
  t.bankLow 4 = true ∧ t.bankLow 6 = true ∧ t.bankLow 5 = false := by
  decide +kernel

theorem witness_Resets_7 :
  let v : Word := (withBits (withBits 0 F.SYS_RST_KEY.lo F.SYS_RST_KEY.width 0xC1A5) F.SYS_RST_CORE.lo F.SYS_RST_CORE.width 2);
  let s : State := st [(F.GRN_STAT_FROZEN, 0, 1), (F.GRN_CTRL_FREEZE, 0, 1)];
  fieldOf v F.SYS_RST_KEY = 0xC1A5 ∧ s.part.frozen = true := by
  decide +kernel

theorem witness_Resets_8 :
  let s : State := { part := { tap := { ir := 2 } } };
  s.part.bankLow 4 = false ∧ s.part.tap.ir = 2 ∧ s.part.sys.inReset = false := by
  decide +kernel

theorem witness_PowerDomains_1 :
  let d : Fin 16 := 4; let s : State := st [];
  (s.part.get F.GPIO_CFG_MODE 15 ≠ 3 ∨ s.part.bit F.GPIO_IN_IN 0 15 = true) ∧ s.part.bit F.SYS_PWRREQ_REQ 0 d = false ∧
      s.part.downRefused d = false ∧ (d.val ∉ s.part.sys.drains ∨ (s.part.quiescent d = false ∧ d.val ∉ s.part.sys.forced)) ∧
      d.val ∉ s.part.sys.ups ∧ s.part.is F.SYS_STBY_GO 0 = false ∧ s.part.standbyAllowed = false ∧ s.part.sys.standby = false := by
  decide +kernel

theorem witness_PowerDomains_2 :
  let d : Fin 16 := 4;
  let s : State := { part := { sys := { drains := [4], ups := [5], standby := true } }, mem := [(0x13080000, 9)] };
  d.val ∈ s.part.sys.drains ∧ (s.part.quiescent d = true ∨ d.val ∈ s.part.sys.forced) ∧ s.part.sys.standby = true := by
  decide +kernel

theorem witness_PowerDomains_3 :
  let d : Fin 16 := 15; let s : State := st [(F.SYS_STBY_GO, 0, 1), (F.RAIL_CTRL_STATE, 0, 1)];
  s.part.bit F.SYS_PWRREQ_REQ 0 d = false ∧ s.part.downRefused d = true ∧ s.part.is F.SYS_STBY_GO 0 = true := by
  decide +kernel

theorem witness_PowerDomains_4 :
  let s : State := st [(F.GPIO_CFG_MODE, 15, 3), (F.GPIO_IN_IN, 0, 0), (F.SYS_SUPST_WARN, 0, 0), (F.FLT_SEV0_POL, 0, 5)];
  s.part.get F.GPIO_CFG_MODE 15 = 3 ∧ s.part.bit F.GPIO_IN_IN 0 15 = false := by
  decide +kernel

theorem witness_PowerDomains_5 :
  let d : Fin 16 := 4; let s : State := st [(F.SYS_PWRREQ_REQ, 0, 16), (F.RAIL_CTRL_STATE, 0, 1)];
  s.part.bit F.SYS_PWRREQ_REQ 0 d = true := by
  decide +kernel

theorem witness_PowerDomains_6 :
  let d : Fin 16 := 4; let s : State := { part := { sys := { ups := [4] } } };
  d.val ∈ s.part.sys.ups := by
  decide +kernel

theorem witness_PowerDomains_7 :
  let s : State := st [(F.SYS_PWRST_OFF, 0, 7), (F.SYS_STBY_GO, 0, 0)];
  s.part.is F.SYS_STBY_GO 0 = false ∧ s.part.standbyAllowed = true := by
  decide +kernel

theorem witness_PowerDomains_8 :
  let d : Fin 16 := 15; let s : State := { part := { sys := { drains := [15], forced := [15] } } };
  d.val ∈ s.part.sys.drains ∧ (s.part.quiescent d = true ∨ d.val ∈ s.part.sys.forced) ∧ 8 ≤ d.val := by
  decide +kernel

theorem witness_BootAndSelfTest_1 :
  let v : Word := 0x0; let op : PmbOp := wr [];
  let s : State := { part := { put {} [(F.SYS_BOOT_STATE, 0, 5), (F.SYS_BOOT_STRAP, 0, 1), (F.NVM_STAT_RECALL, 0, 0), (F.PMB_CTRL_EN, 0, 1), (F.PMB_CTRL_PECREQ, 0, 0)] with sys := { offset := 7 } } };
  (s.part.get F.SYS_BOOT_STATE 0 ≠ 1 ∨ s.part.sys.loading = true ∨ s.part.sys.stopped = true) ∧ s.part.sys.loading = false ∧
      s.part.get F.SYS_BOOT_STATE 0 = 5 ∧ PmbTakes s 0xEC 0 op 0 ∧ PmbTakes s 0xEE 0 op 0 ∧ (5 < fieldOf v F.SYS_TEST_REG ∨
      fieldOf v F.SYS_TEST_TEST = 0 ∨ fieldOf v F.SYS_TEST_TEST = 3 ∨ s.part.sys.testing = none ∧ s.part.testAllowed = false)
      ∧ s.part.sys.testing = none := by
  unfold PmbTakes
  decide +kernel

theorem witness_BootAndSelfTest_2 :
  let e : Nat := 0; let g : Nat := 4;
  let s : State := { part := { put {} [(F.BSL_CTRL_EN, 0, 0), (F.SAF_CTRL_EN, 0, 0)] with sys := { testing := some (2, 4) } } };
  s.part.get F.SYS_BOOT_STATE 0 ≠ 5 ∧ s.part.sys.testing = some (2, g) ∧ e < s.part.lanesIn.length := by
  decide +kernel

theorem witness_BootAndSelfTest_3 :
  let e : Nat := 1; let s : State := st [(F.SYS_BOOT_STATE, 0, 1)];
  s.part.get F.SYS_BOOT_STATE 0 = 1 ∧ s.part.sys.loading = false ∧ s.part.sys.stopped = false ∧ (s.part.get F.SYS_BOOT_SRC 0 =
      0 ∨ lenLegal s.part.sys.imageLen = true) ∧ headerError s.mem (imageBase (s.part.get F.SYS_BOOT_SRC 0)) = some e := by
  decide +kernel

theorem witness_BootAndSelfTest_4 :
  let s : State := imaged false [];
  (let src := s.part.get F.SYS_BOOT_SRC 0; let base := imageBase src; let bad := decide (src = 0) && s.part.nvmBad base (headWord s.mem base 8); s.part.sys.loading = true ∧ (bad = true ∨ imageCrcOk s.mem base = false)) := by
  decide +kernel

theorem witness_BootAndSelfTest_5 :
  let x : Section := (sections (imaged true []).mem 0x13040000).headD { type := 1, offset := 0, len := 0, dest := 0, reserved := 0 };
  let s : State := imaged true [(F.SYS_CSTART_ADDR, 0, 0x1000)];
  (let src := s.part.get F.SYS_BOOT_SRC 0; let base := imageBase src; let bad := decide (src = 0) && s.part.nvmBad base (headWord s.mem base 8); s.part.sys.loading = true ∧ bad = false ∧ imageCrcOk s.mem base = true ∧ imageAuthOk s.mem base = true ∧ sections s.mem base = [x] ∧ x.stored = true ∧ s.part.get F.SYS_CSTART_ADDR 0 ≠ 0) := by
  decide +kernel

theorem witness_BootAndSelfTest_6 :
  let x : Section := (sections (imaged true []).mem 0x13040000).headD { type := 1, offset := 0, len := 0, dest := 0, reserved := 0 };
  let s : State := imaged true [];
  (let src := s.part.get F.SYS_BOOT_SRC 0; let base := imageBase src; let bad := decide (src = 0) && s.part.nvmBad base (headWord s.mem base 8); s.part.sys.loading = true ∧ bad = false ∧ imageCrcOk s.mem base = true ∧ imageAuthOk s.mem base = true ∧ sections s.mem base = [x] ∧ x.stored = true ∧ s.part.get F.SYS_CSTART_ADDR 0 = 0) := by
  decide +kernel

theorem witness_BootAndSelfTest_7 :
  let s : State := { (imaged true []) with mem := Mem.write (imaged true []).mem 0x2003FF00 1 1 };
  (let src := s.part.get F.SYS_BOOT_SRC 0; let base := imageBase src; let bad := decide (src = 0) && s.part.nvmBad base (headWord s.mem base 8); s.part.sys.loading = true ∧ bad = false ∧ imageCrcOk s.mem base = true ∧ imageAuthOk s.mem base = false) := by
  decide +kernel

theorem witness_BootAndSelfTest_8 :
  let op : PmbOp := wr [3, 1, 2, 3]; let n : Nat := 3;
  let s : State := { part := { put {} [(F.SYS_BOOT_STATE, 0, 5), (F.SYS_BOOT_STRAP, 0, 1), (F.NVM_STAT_RECALL, 0, 0), (F.PMB_CTRL_EN, 0, 1), (F.PMB_CTRL_PECREQ, 0, 0)] with sys := { offset := 7 } } };
  s.part.get F.SYS_BOOT_STATE 0 = 5 ∧ s.part.pmbUp = true ∧ op.read = false ∧ s.part.is F.PMB_CTRL_PECREQ 0 = false ∧
      s.part.protects 0xED = false ∧ op.data.length = n + 1 ∧ (op.data.headD 0).toNat = n ∧ 1 ≤ n ∧ n ≤ 32 ∧ s.part.sys.offset
      + n ≤ 0xC0000 := by
  decide +kernel

theorem witness_BootAndSelfTest_9 :
  let op : PmbOp := rd 6 true;
  let s : State := { part := { put {} [(F.SYS_BOOT_STATE, 0, 5), (F.SYS_BOOT_STRAP, 0, 1), (F.NVM_STAT_RECALL, 0, 0), (F.PMB_CTRL_EN, 0, 1), (F.PMB_CTRL_PECREQ, 0, 0)] with sys := { offset := 7 } } };
  s.part.get F.SYS_BOOT_STATE 0 = 5 ∧ PmbAsks s 5 op := by
  unfold PmbAsks
  decide +kernel

theorem witness_BootAndSelfTest_10 :
  let s : State := { (imaged true []) with part := { (imaged true []).part with sys := { loading := false, imageLen := 256 } } };
  s.part.get F.SYS_BOOT_STATE 0 = 1 ∧ s.part.sys.loading = false ∧ s.part.sys.stopped = false ∧ (s.part.get F.SYS_BOOT_SRC 0 =
      0 ∨ lenLegal s.part.sys.imageLen = true) ∧ headerError s.mem (imageBase (s.part.get F.SYS_BOOT_SRC 0)) = none := by
  decide +kernel

theorem witness_BootAndSelfTest_11 :
  let v : Word := (withBits 0 F.SYS_TEST_TEST.lo F.SYS_TEST_TEST.width 2);
  let s : State := st [(F.BSL_CTRL_EN, 0, 0), (F.SAF_CTRL_EN, 0, 0)];
  fieldOf v F.SYS_TEST_REG ≤ 5 ∧ s.part.sys.testing = none ∧ s.part.testAllowed = true ∧ fieldOf v F.SYS_TEST_TEST = 2 := by
  decide +kernel

theorem witness_BootAndSelfTest_12 :
  let v : Word := (withBits (withBits 0 F.SYS_TEST_TEST.lo F.SYS_TEST_TEST.width 1) F.SYS_TEST_REG.lo F.SYS_TEST_REG.width 5);
  let s : State := st [(F.BSL_CTRL_EN, 0, 0), (F.SAF_CTRL_EN, 0, 0)];
  fieldOf v F.SYS_TEST_REG ≤ 5 ∧ s.part.sys.testing = none ∧ s.part.testAllowed = true ∧ fieldOf v F.SYS_TEST_TEST = 1 := by
  decide +kernel

theorem witness_BootAndSelfTest_13 :
  let fails : List Nat := [3, 70000, 1]; let t0 : Nat := 2; let g : Nat := 0;
  let s : State := { part := { sys := { testing := some (2, 0) } } };
  s.part.sys.testing = some (t0, g) ∧ fails.filter (fun k => decide (k < s.part.testSteps t0 g)) ≠ [] := by
  decide +kernel

theorem witness_BootAndSelfTest_14 :
  let fails : List Nat := []; let t0 : Nat := 1; let g : Nat := 5;
  let s : State := { part := { sys := { testing := some (1, 5) } } };
  s.part.sys.testing = some (t0, g) ∧ fails.filter (fun k => decide (k < s.part.testSteps t0 g)) = [] := by
  decide +kernel

theorem witness_HostSpiFrames_1 :
  let a : Word := 0x10000010; let data : List Byte := [1, 2, 3, 4];
  let s : State := { mem := [(0x10000012, 9)], part := put {} [(F.NVM_STAT_RECALL, 0, 0), (F.HSP_STAT_ERR, 0, 1)] };
  s.part.sys.standby = false ∧ s.part.recalling = false ∧ a.toNat % 4 = 0 ∧ data.length = 4 ∧ PlainWrite s a.toNat 4 ∧
      PlainRead s a.toNat := by
  unfold PlainRead PlainWrite
  decide +kernel

theorem witness_HostSpiFrames_2 :
  let s : State := st [];
  s.part.sys.standby = false ∧ s.part.recalling = true := by
  decide +kernel

theorem witness_HostSpiFrames_3 :
  let a : Word := 0x50000000; let data : List Byte := [1, 2, 3, 4]; let s : State := st [(F.NVM_STAT_RECALL, 0, 0)];
  s.part.sys.standby = false ∧ s.part.recalling = false ∧ a.toNat % 4 = 0 ∧ regionOf a.toNat = .nowhere ∧ data.length = 4 := by
  decide +kernel

theorem witness_HostSpiFrames_4 :
  let a : Word := 0x10000010; let data : List Byte := [1, 2, 3]; let n : Nat := 7; let j : Nat := 1;
  let s : State := st [(F.NVM_STAT_RECALL, 0, 0)];
  s.part.sys.standby = false ∧ s.part.recalling = false ∧
    (∀ k, k < data.length → PlainWrite s (a.toNat + k) 1 ∧ PlainWrite s (a.toNat + k) 4) ∧
    (∀ k, k < n → PlainRead s (a.toNat + k)) ∧ a.toNat % 4 = 0 ∧ 4 * j < n := by
  unfold PlainRead PlainWrite
  decide +kernel

theorem witness_DebugRequests_1 :
  let t' : Fin 8 := 2; let c : Fin 4 := 2; let a : Word := 3;
  let w : Word := ((({ part := { put {} [(F.YDP_CTRL_DIS, 0, 0)] with cores := [(2, { regs2 with st := .halt })] } }) : State).part.debugReg 2 3).getD 0;
  let s : State := { part := { put {} [(F.YDP_CTRL_DIS, 0, 0)] with cores := [(2, { regs2 with st := .halt })] } };
  s.part.is F.YDP_CTRL_DIS 0 = false ∧ (regionOf a.toNat = .nowhere ∨ a.toNat % 4 ≠ 0) ∧ t'.val = c ∧ (s.part.core c).st =
      .halt ∧ s.part.debugReg c a = some w ∧ (s.part.core c).st ≠ .off ∧ 1 < a.toNat ∧ (s.part.core c).st ≠ .run ∧
  (let r := (3 : Fin 32); s.part.is F.YDP_CTRL_DIS 0 = false ∧ t'.val = c ∧ (s.part.core c).st = .halt ∧ 1 ≤ r.val ∧ a = BitVec.ofNat 32 r) := by
  decide +kernel

theorem witness_DebugRequests_2 :
  let t' : Fin 8 := 5; let a : Word := 0x10000000; let s : State := st [(F.YDP_CTRL_DIS, 0, 0)];
  (s.part.is F.YDP_CTRL_DIS 0 = true ∨ 4 < t'.val) ∧ s.part.is F.YDP_CTRL_DIS 0 = false ∧ PlainRead s a.toNat ∧ a.toNat % 4 =
      0 ∧ PlainWrite s a.toNat 4 ∧ (4 ≤ t'.val ∨ (s.part.core t').st ≠ .halt) := by
  unfold PlainRead PlainWrite
  decide +kernel

theorem witness_DebugRequests_3 :
  let t' : Fin 8 := 2; let c : Fin 4 := 2;
  let s : State := core2 regs2 [(F.YDP_CTRL_DIS, 0, 0), (F.YDP_BP_EN, 11, 1), (F.YDP_BP_ADDR, 11, 0x4000040)];
  s.part.is F.YDP_CTRL_DIS 0 = false ∧ t'.val = c ∧ (s.part.core c).st ≠ .halt ∧ (s.part.core c).st = .run ∧
      s.part.storeErrorDue c = false ∧ s.part.interruptDue c = none ∧ (s.part.core c).skipBp = false ∧ s.part.breakpointAt c
      (s.part.core c).pc = true := by
  decide +kernel

theorem witness_DebugRequests_4 :
  let s : State := st [(F.YDP_CTRL_DIS, 0, 1)];
  s.part.is F.YDP_CTRL_DIS 0 = true := by
  decide +kernel

theorem witness_DebugRequests_5 :
  let t' : Fin 8 := 4; let s : State := st [(F.YDP_CTRL_DIS, 0, 0)];
  s.part.is F.YDP_CTRL_DIS 0 = false ∧ t'.val = 4 := by
  decide +kernel

theorem witness_DebugRequests_6 :
  let t' : Fin 8 := 2; let c : Fin 4 := 2; let a : Word := 0x10C;
  let s : State := { part := { put {} [(F.YDP_CTRL_DIS, 0, 0)] with cores := [(2, { regs2 with st := .halt })] } };
  s.part.is F.YDP_CTRL_DIS 0 = false ∧ t'.val = c ∧ (s.part.core c).st = .halt ∧ s.part.debugReg c a = none := by
  decide +kernel

theorem witness_DebugRequests_7 :
  let t' : Fin 8 := 2; let c : Fin 4 := 2; let a : Word := 1;
  let s : State := { part := { put {} [(F.YDP_CTRL_DIS, 0, 0)] with cores := [(2, { regs2 with st := .halt })] } };
  s.part.is F.YDP_CTRL_DIS 0 = false ∧ t'.val = c ∧ a = 1 := by
  decide +kernel

theorem witness_DebugRequests_8 :
  let t' : Fin 8 := 2; let c : Fin 4 := 2; let s : State := st [(F.YDP_CTRL_DIS, 0, 0)];
  s.part.is F.YDP_CTRL_DIS 0 = false ∧ t'.val = c ∧ (s.part.core c).st = .off := by
  decide +kernel

theorem witness_GpioPins_1 :
  let n : Fin 16 := 15; let level : Bool := true; let samples : Nat := 10; let s : State := st [];
  s.part.bit F.GPIO_IN_IN 0 n ≠ level ∧ edgeSelected (s.part.get F.GPIO_CFG_EDGE n) level = false ∧ samples ≠ 0 := by
  decide +kernel

theorem witness_GpioPins_2 :
  let n : Fin 16 := 15; let level : Bool := true; let s : State := st [(F.GPIO_CFG_EDGE, 15, 1), (F.GPIO_CFG_IE, 15, 1)];
  s.part.bit F.GPIO_IN_IN 0 n ≠ level ∧ edgeSelected (s.part.get F.GPIO_CFG_EDGE n) level = true := by
  decide +kernel

theorem witness_GpioPins_3 :
  let n : Fin 16 := 15; let level : Bool := true; let s : State := st [(F.GPIO_IN_IN, 0, 0x8000)];
  s.part.bit F.GPIO_IN_IN 0 n = level := by
  decide +kernel

end Sys2Proof.Tests
end

section
/-! PROOFS. Accesses that the fabric denies (R22, R24): reads and writes of memory and of peripheral space that are
misaligned or that the memory map forbids end in a bus error and leave the machine as it was; with them, O7. -/
namespace Sys2Proof.Machine

/-! ## Alignment and the map -/

/-- An access whose address is no multiple of its size is not aligned, whatever the size. -/
theorem alignedAccess_of_mod_ne_zero {a n : Nat} (h : a % n ≠ 0) : alignedAccess a n = false := by
  simp [alignedAccess, h]

/-- The word access that peripheral space takes (R4) is an aligned one, so a misaligned access is none. -/
theorem not_wordAccess_of_misaligned {a n : Nat} (h : alignedAccess a n = false) :
    ¬ ((n = 4 && a % 4 = 0) = true) := by
  intro hword
  obtain ⟨rfl, hmod⟩ : n = 4 ∧ a % 4 = 0 := by simpa using hword
  simp [alignedAccess, hmod] at h

/-! ## Denied accesses -/

theorem State.memRead_denied (s : State) {a n : Nat}
    (h : alignedAccess a n = false ∨ readable (regionOf a) = false) : s.memRead a n = s.busError :=
  if_pos (by rcases h with h | h <;> simp [h])

theorem State.memWrite_denied (s : State) (src v : Nat) {a n : Nat}
    (h : alignedAccess a n = false ∨ writable (regionOf a) = false) : s.memWrite src a n v = s.busError :=
  if_pos (by rcases h with h | h <;> simp [h])

/-- Peripheral space is readable, so only alignment can deny a read there; elsewhere the memory denies it. -/
theorem State.fabricRead_denied (s : State) (i : Initiator) {a n : Nat}
    (h : alignedAccess a n = false ∨ readable (regionOf a) = false) : s.fabricRead i a n = s.busError := by
  unfold State.fabricRead
  split
  next hper =>
    have hmis : alignedAccess a n = false := h.resolve_right (by simp [hper, readable])
    exact if_neg (not_wordAccess_of_misaligned hmis)
  next => exact s.memRead_denied h

/-- Peripheral space is writable, so only alignment can deny a write there; elsewhere the memory denies it. -/
theorem State.fabricWrite_denied (s : State) (i : Initiator) (v : Nat) {a n : Nat}
    (h : alignedAccess a n = false ∨ writable (regionOf a) = false) : s.fabricWrite i a n v = s.busError := by
  unfold State.fabricWrite
  split
  next hper =>
    have hmis : alignedAccess a n = false := h.resolve_right (by simp [hper, writable])
    exact if_neg (not_wordAccess_of_misaligned hmis)
  next => exact s.memWrite_denied _ v h

/-- The reply of an access that ended in a bus error flags the error, carries no data and is all that changed. -/
theorem State.onlyBusError_busError_reply (s : State) : Safety.OnlyBusError s s.busError.reply := rfl

/-! ## The command MEMORY_ACCESS -/

theorem exec_memoryAccess_read (i : Initiator) (size : Fin 4) (a : Nat) (v : BitVec 64) (s : State) :
    exec (.memoryAccess i false size a v) s = .next (s.fabricRead i a (2 ^ size.val)).reply := rfl

theorem exec_memoryAccess_write (i : Initiator) (size : Fin 4) (a : Nat) (v : BitVec 64) (s : State) :
    exec (.memoryAccess i true size a v) s = .next (s.fabricWrite i a (2 ^ size.val) v.toNat).reply := rfl

/-- R24: a denied access, in either direction, completes with nothing but the bus error. -/
theorem memoryAccess_denied (i : Initiator) (wr : Bool) (size : Fin 4) (a : Nat) (v : BitVec 64) (s : State)
    (h : alignedAccess a (2 ^ size.val) = false ∨ (if wr then writable (regionOf a) else readable (regionOf a)) = false) :
    Safety.Completes (.memoryAccess i wr size a v) s (Safety.OnlyBusError s) := by
  refine ⟨s.busError.reply, ?_, s.onlyBusError_busError_reply⟩
  cases wr with
  | false => rw [exec_memoryAccess_read, s.fabricRead_denied i h]
  | true => rw [exec_memoryAccess_write, s.fabricWrite_denied i v.toNat h]

/-- Settles O7: the map neither reads nor writes outside its regions, a write that it forbids is denied, and so is a
misaligned access. -/
theorem busErrors : Obligations.BusErrors := by
  intro i wr size a v s
  refine ⟨fun hout => ?_, fun hwr hro => ?_, fun hmod => ?_⟩
  · exact memoryAccess_denied i wr size a v s (.inr (by simp [hout, readable, writable]))
  · exact memoryAccess_denied i wr size a v s (.inr (by simp [hwr, hro]))
  · exact memoryAccess_denied i wr size a v s (.inl (alignedAccess_of_mod_ne_zero hmod))

end Sys2Proof.Machine
end

section
/-! PROOFS. PAGE of the PMBus target port (R340): what a latched status bit and a write that the port takes change, the three
kinds of value that PAGE is given, a paged write with every rail selected, and PAGE after a cold reset; with them, O40. -/
namespace Sys2Proof.Safety
open Sys2Proof.Machine

theorem Completes.imp {c : Instr} {s : State} {P Q : State → Prop} (h : Completes c s P) (hPQ : ∀ t, P t → Q t) : Completes c s Q :=
  Exists.imp (fun t => And.imp_right (hPQ t)) h

end Sys2Proof.Safety

namespace Sys2Proof.Machine
open Sys2Proof.Safety

/-! ## Bits set in a field -/

theorem Part.bit_eq_testBit (m : Part) (f : FieldAt) (i b : Nat) : m.bit f i b = (m.get f i).testBit b := by
  simp [Part.bit, Nat.testBit_eq_decide_div_mod_eq, beq_eq_decide]

/-- A bit just set reads as 1, where the field lies in the word and the bit in the field. -/
theorem Part.bit_putBit_true (m : Part) {f : FieldAt} (i : Nat) {b : Nat} (hf : f.lo + f.width ≤ 32) (hb : b < f.width) :
    (m.putBit f i b true).bit f i b = true := by
  unfold Part.putBit
  split
  next hset => exact hset
  next hclear =>
    rw [Part.bit_eq_testBit] at hclear ⊢
    rw [Part.get_put_same _ _ _ _ hf, Nat.testBit_mod_two_pow]
    simp [hb, Nat.add_comm, Nat.testBit_two_pow_add_eq, hclear]

/-- Setting a bit leaves the fields that share no bit with its field. -/
theorem Part.get_putBit_disjoint (m : Part) {f g : FieldAt} (i j b : Nat) (v : Bool) (hf : f.lo + f.width ≤ 32)
    (hd : f.lo + f.width ≤ g.lo ∨ g.lo + g.width ≤ f.lo) : (m.putBit f i b v).get g j = m.get g j := by
  obtain ⟨e, -⟩ | ⟨n, e⟩ := m.putBit_cases f i b v <;> rw [e]
  exact m.get_put_disjoint f g i j n hf hd

/-! ## Latched status bits (R346) -/

/-- A latched bit is set in the register bank; the alert that it may assert is no register. -/
theorem Part.regs_pmbLatch (m : Part) (f : FieldAt) (i b : Nat) : (m.pmbLatch f i b).regs = (m.putBit f i b true).regs := by
  unfold Part.pmbLatch
  split
  next hset => rw [Part.putBit, if_pos hset]
  next => dsimp only; split <;> rfl

theorem Part.word_pmbLatch (m : Part) (f : FieldAt) (i b a : Nat) : (m.pmbLatch f i b).word a = (m.putBit f i b true).word a := by
  rw [Part.word, Part.regs_pmbLatch, Part.word]

theorem Part.get_pmbLatch (m : Part) (f g : FieldAt) (i b j : Nat) :
    (m.pmbLatch f i b).get g j = (m.putBit f i b true).get g j := by
  rw [Part.get, Part.word_pmbLatch, Part.get]

theorem Part.bit_pmbLatch_same (m : Part) {f : FieldAt} (i : Nat) {b : Nat} (hf : f.lo + f.width ≤ 32) (hb : b < f.width) :
    (m.pmbLatch f i b).bit f i b = true := by
  rw [Part.bit, Part.get_pmbLatch]
  exact m.bit_putBit_true i hf hb

/-! ## The port's own state is no register -/

@[simp] theorem Part.is_pmbStart (m : Part) (f : FieldAt) (i : Nat) : m.pmbStart.is f i = m.is f i := rfl
@[simp] theorem Part.protects_pmbStart (m : Part) (code : Nat) : m.pmbStart.protects code = m.protects code := rfl
@[simp] theorem Part.is_ackBytes (m : Part) (n : Nat) (f : FieldAt) (i : Nat) : (m.ackBytes n).is f i = m.is f i := rfl
@[simp] theorem Part.protects_ackBytes (m : Part) (n code : Nat) : (m.ackBytes n).protects code = m.protects code := rfl

/-! ## A write that the port takes (R335, R336, R343) -/

/-- A write with exactly the bytes of its command, no PEC demanded and no protection in its way, has its effect. -/
theorem Part.pmbWrite_taken (m : Part) (code : Nat) (op : PmbOp) (act : List Byte → Part → Part)
    (hpec : m.is F.PMB_CTRL_PECREQ 0 = false) (hprot : m.protects code = false) :
    m.pmbWrite code op.data.length op act = act op.data (m.ackBytes (2 + op.data.length)) := by
  simp [Part.pmbWrite, hpec, hprot]

/-- START, the address and the bytes acknowledged of a write that the port takes. -/
def Part.pmbTaken (m : Part) (n : Nat) : Part := m.pmbStart.ackBytes (2 + n)

@[simp] theorem Part.word_pmbTaken (m : Part) (n a : Nat) : (m.pmbTaken n).word a = m.word a := rfl
@[simp] theorem Part.page_pmbTaken (m : Part) (n : Nat) : (m.pmbTaken n).page = m.page := rfl
@[simp] theorem Part.pages_pmbTaken (m : Part) (n : Nat) : (m.pmbTaken n).pages = m.pages := rfl

theorem Part.pmbBoth_taken {s : State} {code n d : Nat} {op : PmbOp} (h : PmbTakes s code n op d) (paged : Bool) (get : Part → Nat)
    (clear : Part → Part) (act : List Byte → Part → Part) :
    s.part.pmbBoth code paged n op get clear act = act op.data (s.part.pmbTaken n) := by
  obtain ⟨hup, hread, rfl, -, hpec, hprot⟩ := h
  have hwrite := s.part.pmbStart.pmbWrite_taken code op act (by simpa using hpec) (by simpa using hprot)
  simp [Part.pmbBoth, Part.pmbTaken, hup, hread, hwrite]

/-! ## PAGE -/

/-- PAGE holds each of its values: the field has 8 bits. -/
theorem Part.page_put (m : Part) {v : Nat} (h : v < 256) : (m.put F.PMB_STAT_PAGE 0 v).page = v := by
  rw [Part.page, Part.get_put_same _ _ _ _ (by decide)]
  exact Nat.mod_eq_of_lt h

/-- A status bit of STATUS_CML, which lies in the register of PAGE, leaves PAGE. -/
@[simp] theorem Part.page_cml (m : Part) (b : Nat) : (m.cml b).page = m.page := by
  rw [Part.page, Part.cml, Part.get_pmbLatch]
  exact m.get_putBit_disjoint 0 0 b true (by decide) (by decide)

theorem Part.bit_cml_same (m : Part) {b : Nat} (hb : b < 8) : (m.cml b).bit F.PMB_STAT_CML 0 b = true :=
  m.bit_pmbLatch_same 0 (by decide) hb

theorem Part.word_cml (m : Part) (b : Nat) {a : Nat} (h : a ≠ R.PMB_STAT.base) : (m.cml b).word a = m.word a := by
  rw [Part.cml, Part.word_pmbLatch]
  exact m.word_putBit_other _ _ _ _ h

theorem Part.writePage_listed (m : Part) {d : List Byte} (h : fromBytes d ≤ 0x3E ∨ fromBytes d = 0xFF) :
    m.writePage d = m.put F.PMB_STAT_PAGE 0 (fromBytes d) := by
  simp [Part.writePage, h]

theorem Part.writePage_unlisted (m : Part) {d : List Byte} (h : ¬ (fromBytes d ≤ 0x3E ∨ fromBytes d = 0xFF)) :
    m.writePage d = m.cml cmlData := by
  simp [Part.writePage, h]

/-- Whatever its value, a write of PAGE changes no register but PMB_STAT. -/
theorem Part.word_writePage (m : Part) (d : List Byte) {a : Nat} (h : a ≠ R.PMB_STAT.base) : (m.writePage d).word a = m.word a := by
  by_cases hv : fromBytes d ≤ 0x3E ∨ fromBytes d = 0xFF
  · rw [m.writePage_listed hv]; exact m.word_put_other _ _ _ h
  · rw [m.writePage_unlisted hv]; exact m.word_cml _ h

theorem Part.pages_of_page_ne {m : Part} {r : Nat} (h : m.page = r) (hr : r ≠ 0xFF) : m.pages = [r] := by
  simp [Part.pages, h, hr]

theorem Part.pages_of_page_all {m : Part} (h : m.page = 0xFF) : m.pages = allRails := if_pos h

/-! ## The command PAGE -/

theorem exec_pmbPage (op : PmbOp) (s : State) : exec (.pmbPage op) s =
    .next (s.lift fun m => m.pmbBoth 0x00 false 1 op Part.page id fun d m => m.writePage d) := rfl

/-- A write of PAGE that the port takes gives the byte to PAGE, and changes neither the memories nor a register but PMB_STAT. -/
theorem pmbPage_completes {s : State} {op : PmbOp} {d : Nat} (h : PmbTakes s 0x00 1 op d) {P : State → Prop}
    (hP : ∀ t : State, t.part = (s.part.pmbTaken 1).writePage op.data → SameWords s t [R.PMB_STAT.base] → SameMemory s t → P t) :
    Completes (.pmbPage op) s P := by
  refine ⟨_, exec_pmbPage op s, ?_⟩
  have hpart := Part.pmbBoth_taken h false Part.page id fun d m => m.writePage d
  refine hP _ hpart (fun a ha => ?_) (fun _ => rfl)
  rw [State.part_lift, hpart, Part.word_writePage _ _ (by simpa using ha), Part.word_pmbTaken]

/-- R340: a listed value stands in PAGE after the write. -/
theorem pmbPage_listed {s : State} {op : PmbOp} {d : Nat} (h : PmbTakes s 0x00 1 op d) (hd : d ≤ 0x3E ∨ d = 0xFF) :
    Completes (.pmbPage op) s (fun t => t.part.page = d ∧ SameWords s t [R.PMB_STAT.base] ∧ SameMemory s t) := by
  refine pmbPage_completes h fun t ht hwords hmem => ⟨?_, hwords, hmem⟩
  obtain ⟨-, -, -, rfl, -, -⟩ := h
  rw [ht, Part.writePage_listed _ hd, Part.page_put _ (by omega)]

/-- R340: any other value leaves PAGE and sets STATUS_CML.DATA. -/
theorem pmbPage_unlisted {s : State} {op : PmbOp} {d : Nat} (h : PmbTakes s 0x00 1 op d) (hd : ¬ (d ≤ 0x3E ∨ d = 0xFF)) :
    Completes (.pmbPage op) s (fun t => t.part.page = s.part.page ∧ t.part.bit F.PMB_STAT_CML 0 6 = true ∧
      SameWords s t [R.PMB_STAT.base] ∧ SameMemory s t) := by
  refine pmbPage_completes h fun t ht hwords hmem => ?_
  obtain ⟨-, -, -, rfl, -, -⟩ := h
  rw [ht, Part.writePage_unlisted _ hd]
  exact ⟨by simp, Part.bit_cml_same _ (by decide), hwords, hmem⟩

/-! ## A paged write with every rail selected -/

/-- What every single operation keeps, a run of them keeps. -/
theorem Part.each_keeps {P : Part → Prop} {act : Nat → Part → Part} (h : ∀ q m, P m → P (act q m)) (l : List Nat) {m : Part}
    (hm : P m) : P (m.each l act) :=
  List.foldlRecOn l _ hm fun m hm q _ => h q m hm

/-- A write on each number of a list leaves `v` in the field of all of them, where the write on one gives its field `v` and
leaves the field of every other. -/
theorem Part.get_each_of_mem {f : FieldAt} {v : Nat} {act : Nat → Part → Part} (hsame : ∀ q m, (act q m).get f q = v)
    (hother : ∀ q r m, r ≠ q → (act q m).get f r = m.get f r) {l : List Nat} {r : Nat} (hr : r ∈ l) (m : Part) :
    (m.each l act).get f r = v := by
  have hkeep : ∀ q m, m.get f r = v → (act q m).get f r = v := by
    intro q m hm
    obtain rfl | hq := eq_or_ne r q
    · exact hsame r m
    · rw [hother q r m hq, hm]
  induction l generalizing m with
  | nil => cases hr
  | cons q l ih =>
    obtain rfl | hr := List.mem_cons.1 hr
    · exact Part.each_keeps hkeep l (hsame r m)
    · exact ih hr (act q m)

/-- VOUT_MARGIN_LOW on one page (R342). -/
def Part.writeMarginLow (r v : Nat) (m : Part) : Part := (m.put F.PMB_MARG_LOW r v).warnMax r v

/-- The warning above VOUT_MAX writes the status register of its page at most. -/
theorem Part.word_warnMax (m : Part) (r v : Nat) {a : Nat} (h : a ≠ R.PMB_ST.addr r) : (m.warnMax r v).word a = m.word a := by
  unfold Part.warnMax
  split
  · rw [Part.word_pmbLatch]; exact m.word_putBit_other _ _ _ _ h
  · rfl

theorem Part.get_marginLow_warnMax (m : Part) (r q v : Nat) : (m.warnMax r v).get F.PMB_MARG_LOW q = m.get F.PMB_MARG_LOW q := by
  rw [Part.get, Part.word_warnMax, Part.get]
  simp only [RegAt.addr, F.PMB_MARG_LOW, R.PMB_MARG, R.PMB_ST]
  omega

theorem Part.get_writeMarginLow_same (m : Part) (r : Nat) {v : Nat} (hv : v < 0x10000) :
    (m.writeMarginLow r v).get F.PMB_MARG_LOW r = v := by
  rw [Part.writeMarginLow, Part.get_marginLow_warnMax, Part.get_put_same _ _ _ _ (by decide)]
  exact Nat.mod_eq_of_lt hv

theorem Part.get_writeMarginLow_other (m : Part) {r q : Nat} (h : q ≠ r) (v : Nat) :
    (m.writeMarginLow r v).get F.PMB_MARG_LOW q = m.get F.PMB_MARG_LOW q := by
  rw [Part.writeMarginLow, Part.get_marginLow_warnMax, Part.get_put_other]
  simp only [RegAt.addr, F.PMB_MARG_LOW, R.PMB_MARG]
  omega

theorem fromBytes_lt (l : List Byte) : fromBytes l < 256 ^ l.length := by
  induction l with
  | nil => simp [fromBytes]
  | cons b t ih =>
    have hb : b.toNat < 256 := b.isLt
    simp only [fromBytes, List.length_cons, Nat.pow_succ]
    omega

theorem exec_voutMarginLow (op : PmbOp) (s : State) : exec (.voutMarginLow op) s =
    .next (s.lift fun m => m.pmbBoth 0x26 true 2 op (fun m => m.get F.PMB_MARG_LOW m.readPage) id fun d m =>
      m.onPages d Part.writeMarginLow) := rfl

/-- R340: with PAGE 0xFF a write of VOUT_MARGIN_LOW acts on every rail at once. -/
theorem voutMarginLow_allRails {s : State} {op : PmbOp} {d : Nat} (hpage : s.part.page = 0xFF) (h : PmbTakes s 0x26 2 op d) :
    Completes (.voutMarginLow op) s (fun t => ∀ r : Fin 63, t.part.get F.PMB_MARG_LOW r = d) := by
  refine ⟨_, exec_voutMarginLow op s, fun r => ?_⟩
  rw [State.part_lift, Part.pmbBoth_taken h, Part.onPages, Part.pages_pmbTaken, Part.pages_of_page_all hpage]
  obtain ⟨-, -, hlen, rfl, -, -⟩ := h
  have hd : fromBytes op.data < 0x10000 := by simpa [hlen] using fromBytes_lt op.data
  exact Part.get_each_of_mem (fun r m => m.get_writeMarginLow_same r hd)
    (fun r q m hq => m.get_writeMarginLow_other hq _) (List.mem_range.2 r.isLt) _

/-! ## PAGE after a cold reset -/

/-- PMB_STAT at its reset value holds PAGE 0x00. -/
theorem Part.page_of_word_reset {m : Part} (h : m.word R.PMB_STAT.base = resetWord R.PMB_STAT.base) : m.page = 0x00 := by
  have hreset : bitsOf (resetWord R.PMB_STAT.base) F.PMB_STAT_PAGE.lo F.PMB_STAT_PAGE.width = 0 := by decide +kernel
  exact (congrArg (bitsOf · _ _) h).trans hreset

/-- A cold reset lists no register but the one of its cause. -/
theorem Part.word_coldPart (m : Part) (cause : Nat) {a : Nat} (h : a ≠ R.SYS_RSTCAUSE.base) :
    (m.coldPart cause).word a = resetWord a := by
  rw [Part.coldPart, Part.cause, Part.word_putBit_other _ _ _ _ _ h]
  rfl

theorem Part.page_coldPart (m : Part) (cause : Nat) : (m.coldPart cause).page = 0x00 :=
  Part.page_of_word_reset (m.word_coldPart cause (by decide))

theorem powerOnReset_page (s : State) : Completes .powerOnReset s (fun t => t.part.page = 0x00) :=
  ⟨s.powerOnReset, rfl, s.part.freeWord.2.page_coldPart 0⟩

theorem resetPin_page (s : State) : Completes .resetPin s (fun t => t.part.page = 0x00) :=
  ⟨s.coldReset 1, rfl, s.part.page_coldPart 1⟩

theorem State.page_reset : State.reset.part.page = 0x00 := Part.page_of_word_reset rfl

/-- Settles O40: PAGE takes its listed values and no other, 0xFF makes a paged write act on every rail, and a cold reset leaves
PAGE 0x00. -/
theorem pmbusPageValues : Obligations.PmbusPageValues := by
  intro op d s
  refine ⟨fun h => ⟨fun hd => ?_, fun hd => ?_, fun hd hne => ?_⟩, voutMarginLow_allRails, powerOnReset_page s, resetPin_page s,
    State.page_reset⟩
  · exact (pmbPage_listed h (.inl hd)).imp fun t ⟨hpage, hkeep⟩ =>
      ⟨hpage, Part.pages_of_page_ne hpage (by omega), hkeep⟩
  · exact (pmbPage_listed h (.inr hd)).imp fun t ⟨hpage, hkeep⟩ =>
      ⟨hpage, Part.pages_of_page_all (hpage.trans hd), hkeep⟩
  · exact pmbPage_unlisted h (by omega)

end Sys2Proof.Machine
end

section
/-! PROOFS. The hardware semaphores (R403, R404): a bit set in a field that holds one bit per unit, an operation applied to each
number of a list, the answer to a read, what frees a semaphore, a refused write as the statements describe it; with them, O51. -/
namespace Sys2Proof.Machine
open Sys2Proof.Safety

/-! ## A field of one bit per unit -/

/-- Adding a power of two whose bit is clear sets that bit and no other. -/
theorem testBit_add_two_pow {x k : Nat} (h : x.testBit k = false) (j : Nat) :
    (x + 2 ^ k).testBit j = (x.testBit j || decide (j = k)) := by
  obtain hlt | rfl | hgt := lt_trichotomy j k
  · rw [Nat.add_comm, Nat.testBit_two_pow_add_gt hlt]
    simp [hlt.ne]
  · rw [Nat.add_comm, Nat.testBit_two_pow_add_eq]
    simp [h]
  · obtain ⟨d, rfl⟩ : ∃ d, j = d + 1 + k := ⟨j - k - 1, by omega⟩
    have hclear : x / 2 ^ k % 2 = 0 := by simpa [Nat.testBit_eq_decide_div_mod_eq] using h
    have hhalf : (x / 2 ^ k + 1) / 2 = x / 2 ^ k / 2 := by omega
    rw [Nat.testBit_add, Nat.testBit_add x, Nat.add_div_right _ (Nat.two_pow_pos k), Nat.testBit_add_one, hhalf,
      ← Nat.testBit_add_one]
    simp

/-- Setting one bit of a field sets it and leaves the others. -/
theorem Part.bit_putBit_true_eq (m : Part) {f : FieldAt} (i : Nat) {b c : Nat} (hf : f.lo + f.width ≤ 32) (hc : c < f.width) :
    (m.putBit f i b true).bit f i c = (m.bit f i c || decide (c = b)) := by
  unfold Part.putBit
  split
  next hset =>
    by_cases hcb : c = b
    · simp [hcb, hset]
    · simp [hcb]
  next hclear =>
    rw [Part.bit_eq_testBit] at hclear ⊢
    rw [Part.get_put_same _ _ _ _ hf, Nat.testBit_mod_two_pow, if_pos rfl, testBit_add_two_pow (by simpa using hclear),
      Part.bit_eq_testBit]
    simp [hc]

@[simp] theorem Part.icu_putBit (m : Part) (f : FieldAt) (i b : Nat) (v : Bool) : (m.putBit f i b v).icu = m.icu := by
  rw [Part.putBit_regs]

/-- A field reads the same in two parts whose word agrees. -/
theorem Part.get_of_word {m m' : Part} {f : FieldAt} {i : Nat} (h : m'.word (f.reg.addr i) = m.word (f.reg.addr i)) :
    m'.get f i = m.get f i := congrArg (bitsOf · _ _) h

theorem Part.is_of_word {m m' : Part} {f : FieldAt} {i : Nat} (h : m'.word (f.reg.addr i) = m.word (f.reg.addr i)) :
    m'.is f i = m.is f i := congrArg (· != 0) (Part.get_of_word h)

theorem Part.bit_of_word {m m' : Part} {f : FieldAt} {i : Nat} (b : Nat)
    (h : m'.word (f.reg.addr i) = m.word (f.reg.addr i)) : m'.bit f i b = m.bit f i b :=
  congrArg (· / 2 ^ b % 2 == 1) (Part.get_of_word h)

/-! ## An operation on each number of a list -/

/-- Where every operation keeps `P`, the one on `n` turns `P` into `Q` and every operation keeps `Q`, a run through a list that
names `n` ends in `Q`. -/
theorem Part.each_establishes {P Q : Part → Prop} {act : Nat → Part → Part} {l : List Nat} {n : Nat} (hn : n ∈ l)
    (hP : ∀ k ∈ l, ∀ m, P m → P (act k m)) (hPQ : ∀ m, P m → Q (act n m)) (hQ : ∀ k ∈ l, ∀ m, Q m → Q (act k m)) {m : Part}
    (hm : P m) : Q (m.each l act) := by
  obtain ⟨before, after, rfl⟩ := List.append_of_mem hn
  have hbefore : P (m.each before act) :=
    List.foldlRecOn before _ hm fun m hm k hk => hP k (by simp [hk]) m hm
  have hafter : Q ((act n (m.each before act)).each after act) :=
    List.foldlRecOn after _ (hPQ _ hbefore) fun m hm k hk => hQ k (by simp [hk]) m hm
  simpa [Part.each] using hafter

/-! ## Where the semaphores lie -/

theorem semAddr_inj {n k : Nat} (h : n ≠ k) : R.IC_SEM.addr n ≠ R.IC_SEM.addr k := by
  simp only [RegAt.addr, R.IC_SEM]
  omega

theorem semAddr_ne_semRel {n : Nat} (hn : n < 32) : R.IC_SEM.addr n ≠ R.IC_SEMREL.base := by
  simp only [RegAt.addr, R.IC_SEM, R.IC_SEMREL]
  omega

theorem semAddr_not_lossReg {n : Nat} (hn : n < 32) : R.IC_SEM.addr n ∉ lossRegs := by
  simp only [RegAt.addr, R.IC_SEM, lossRegs, R.GRN_STAT, R.GRN_LOST, List.mem_cons, List.not_mem_nil, or_false]
  omega

theorem initIndex_lt (i : Initiator) : initIndex i < 8 := by
  cases i <;> simp only [initIndex] <;> omega

theorem Part.semOwner_lt (m : Part) (n : Nat) : m.get F.IC_SEM_OWNER n < 8 := bitsOf_lt _ _ _

/-! ## The answer to a read (R403) -/

/-- The fields of the word that a read returns: GOT, BUSY and OWNER. -/
theorem semWord_fields (got busy : Bool) {owner : Nat} (h : owner < 8) : (semWord got busy owner).getLsbD 31 = got ∧
    (semWord got busy owner).getLsbD 8 = busy ∧ (semWord got busy owner).toNat % 8 = owner := by
  have hall : ∀ got busy : Bool, ∀ o : Fin 8, (semWord got busy o).getLsbD 31 = got ∧
      (semWord got busy o).getLsbD 8 = busy ∧ (semWord got busy o).toNat % 8 = o := by decide
  exact hall got busy ⟨owner, h⟩

/-- The machine with `m` as its part and the word `w` as the reply on the fabric. -/
def State.semAnswer (s : State) (w : Word) (m : Part) : State :=
  { s with part := { m with bus := { data := BitVec.ofNat 64 w.toNat, error := false } } }

theorem exec_semaphoreRead (i : Initiator) (n : Fin 32) (s : State) :
    exec (.semaphoreRead i n) s = .next (s.semAnswer (s.part.readSem i n).1 (s.part.readSem i n).2) := rfl

/-- The reply on the fabric holds the fields of the word returned. -/
theorem State.semAnswer_fields (s : State) (got busy : Bool) {owner : Nat} (h : owner < 8) (m : Part) :
    (s.semAnswer (semWord got busy owner) m).part.bus.data.getLsbD 31 = got ∧
    (s.semAnswer (semWord got busy owner) m).part.bus.data.getLsbD 8 = busy ∧
    (s.semAnswer (semWord got busy owner) m).part.bus.data.toNat % 8 = owner := by
  obtain ⟨hgot, hbusy, howner⟩ := semWord_fields got busy h
  have hlt : (semWord got busy owner).toNat < 2 ^ 64 := by omega
  simp only [State.semAnswer, BitVec.getLsbD_ofNat, BitVec.testBit_toNat, BitVec.toNat_ofNat, Nat.mod_eq_of_lt hlt]
  exact ⟨by simpa using hgot, by simpa using hbusy, howner⟩

/-- The semaphore taken by the initiator of this index. -/
def Part.takeSem (m : Part) (n owner : Nat) : Part := (m.put F.IC_SEM_BUSY n 1).put F.IC_SEM_OWNER n owner

/-- WAIT bit of the semaphore set. -/
def Part.waitSem (m : Part) (n : Nat) : Part :=
  { m with icu := { m.icu with semWait := m.icu.semWait ||| BitVec.ofNat 32 (2 ^ n) } }

theorem Part.readSem_ydp (m : Part) (n : Nat) :
    m.readSem .ydp n = (semWord false (m.is F.IC_SEM_BUSY n) (m.get F.IC_SEM_OWNER n), m) := by
  simp [Part.readSem]

theorem Part.readSem_free {m : Part} {i : Initiator} {n : Nat} (hi : i ≠ .ydp) (hfree : m.is F.IC_SEM_BUSY n = false) :
    m.readSem i n = (semWord true true (initIndex i), m.takeSem n (initIndex i)) := by
  simp [Part.readSem, Part.takeSem, hi, hfree]

theorem Part.readSem_own {m : Part} {i : Initiator} {n : Nat} (hi : i ≠ .ydp) (hbusy : m.is F.IC_SEM_BUSY n = true)
    (hown : m.get F.IC_SEM_OWNER n = initIndex i) : m.readSem i n = (semWord true true (initIndex i), m) := by
  simp [Part.readSem, hi, hbusy, hown]

theorem Part.readSem_taken {m : Part} {i : Initiator} {n : Nat} (hi : i ≠ .ydp) (hbusy : m.is F.IC_SEM_BUSY n = true)
    (hother : m.get F.IC_SEM_OWNER n ≠ initIndex i) :
    m.readSem i n = (semWord false true (m.get F.IC_SEM_OWNER n), m.waitSem n) := by
  simp [Part.readSem, Part.waitSem, hi, hbusy, hother]

theorem Part.word_takeSem (m : Part) (n owner : Nat) {a : Nat} (h : a ≠ R.IC_SEM.addr n) :
    (m.takeSem n owner).word a = m.word a :=
  (Part.word_put_other _ F.IC_SEM_OWNER n owner h).trans (m.word_put_other F.IC_SEM_BUSY n 1 h)

theorem Part.is_takeSem (m : Part) (n owner : Nat) : (m.takeSem n owner).is F.IC_SEM_BUSY n = true := by
  rw [Part.is, Part.takeSem, Part.get_put_disjoint _ _ _ _ _ _ (by decide) (by decide), Part.get_put_same _ _ _ _ (by decide)]
  rfl

theorem Part.get_takeSem (m : Part) (n : Nat) {owner : Nat} (h : owner < 8) :
    (m.takeSem n owner).get F.IC_SEM_OWNER n = owner :=
  (Part.get_put_same _ _ _ _ (by decide)).trans (Nat.mod_eq_of_lt h)

/-- The mask of WAIT bit `n`. -/
theorem getLsbD_waitMask (n : Nat) {j : Nat} (hj : j < 32) : (BitVec.ofNat 32 (2 ^ n)).getLsbD j = decide (n = j) := by
  rw [BitVec.getLsbD_ofNat, Nat.testBit_two_pow]
  simp [hj]

theorem Part.waits_waitSem (m : Part) {n : Nat} (hn : n < 32) : (m.waitSem n).icu.semWait.getLsbD n = true := by
  rw [Part.waitSem, BitVec.getLsbD_or, getLsbD_waitMask n hn]
  simp

/-- R403: of two reads one acquires. The reader of a semaphore that another owns gets GOT = 0 and the owner, which stays, and
its WAIT bit is set. -/
theorem semaphoreRead_taken {i : Initiator} {n : Fin 32} {s : State} (hi : i ≠ .ydp) (hbusy : s.part.is F.IC_SEM_BUSY n = true)
    (hother : s.part.get F.IC_SEM_OWNER n ≠ initIndex i) :
    Completes (.semaphoreRead i n) s (fun t => t.part.bus.data.getLsbD 31 = false ∧
      t.part.bus.data.toNat % 8 = s.part.get F.IC_SEM_OWNER n ∧ t.part.get F.IC_SEM_OWNER n = s.part.get F.IC_SEM_OWNER n ∧
      t.part.icu.semWait.getLsbD n = true ∧ SameWords s t [] ∧ SameMemory s t) := by
  refine ⟨_, exec_semaphoreRead i n s, ?_⟩
  rw [Part.readSem_taken hi hbusy hother]
  obtain ⟨hgot, -, howner⟩ := s.semAnswer_fields false true (s.part.semOwner_lt n) (s.part.waitSem n)
  exact ⟨hgot, howner, rfl, s.part.waits_waitSem n.isLt, fun _ _ => rfl, fun _ => rfl⟩

/-- R403: the owner's own read gets GOT = 1. -/
theorem semaphoreRead_own {i : Initiator} {n : Fin 32} {s : State} (hi : i ≠ .ydp) (hbusy : s.part.is F.IC_SEM_BUSY n = true)
    (hown : s.part.get F.IC_SEM_OWNER n = initIndex i) :
    Completes (.semaphoreRead i n) s (fun t => t.part.bus.data.getLsbD 31 = true ∧ SameWords s t [] ∧ SameMemory s t) := by
  refine ⟨_, exec_semaphoreRead i n s, ?_⟩
  rw [Part.readSem_own hi hbusy hown]
  obtain ⟨hgot, -, -⟩ := s.semAnswer_fields true true (initIndex_lt i) s.part
  exact ⟨hgot, fun _ _ => rfl, fun _ => rfl⟩

/-- R403: the first reader of a free semaphore owns it. -/
theorem semaphoreRead_free {i : Initiator} {n : Fin 32} {s : State} (hi : i ≠ .ydp) (hfree : s.part.is F.IC_SEM_BUSY n = false) :
    Completes (.semaphoreRead i n) s (fun t => t.part.is F.IC_SEM_BUSY n = true ∧ t.part.get F.IC_SEM_OWNER n = initIndex i ∧
      t.part.bus.data.getLsbD 31 = true ∧ SameWords s t [R.IC_SEM.addr n] ∧ SameMemory s t) := by
  refine ⟨_, exec_semaphoreRead i n s, ?_⟩
  rw [Part.readSem_free hi hfree]
  obtain ⟨hgot, -, -⟩ := s.semAnswer_fields true true (initIndex_lt i) (s.part.takeSem n (initIndex i))
  exact ⟨s.part.is_takeSem n _, s.part.get_takeSem n (initIndex_lt i), hgot,
    fun a ha => s.part.word_takeSem n _ (by simpa using ha), fun _ => rfl⟩

/-- R403: the debug port's read returns the state and changes nothing. -/
theorem semaphoreRead_ydp (n : Fin 32) (s : State) :
    Completes (.semaphoreRead .ydp n) s (fun t => t.part.bus.data.toNat % 8 = s.part.get F.IC_SEM_OWNER n ∧
      t.part.bus.data.getLsbD 8 = s.part.is F.IC_SEM_BUSY n ∧ SameWords s t [] ∧ t.part.icu = s.part.icu ∧ SameMemory s t) := by
  refine ⟨_, exec_semaphoreRead .ydp n s, ?_⟩
  rw [Part.readSem_ydp]
  obtain ⟨-, hbusy, howner⟩ := s.semAnswer_fields false (s.part.is F.IC_SEM_BUSY n) (s.part.semOwner_lt n) s.part
  exact ⟨howner, hbusy, fun _ _ => rfl, rfl, fun _ => rfl⟩

/-! ## A semaphore freed -/

/-- BUSY and OWNER of the semaphore cleared. -/
def Part.clearSem (m : Part) (n : Nat) : Part := (m.put F.IC_SEM_BUSY n 0).put F.IC_SEM_OWNER n 0

/-- WAIT bit of the semaphore cleared. -/
def Part.unwaitSem (m : Part) (n : Nat) : Part :=
  { m with icu := { m.icu with semWait := m.icu.semWait &&& ~~~ (BitVec.ofNat 32 (2 ^ n)) } }

theorem Part.freeSem_unwaited {m : Part} {n : Nat} (h : m.icu.semWait.getLsbD n = false) : m.freeSem n = m.clearSem n := by
  simp [Part.freeSem, Part.clearSem, h]

theorem Part.freeSem_waited {m : Part} {n : Nat} (h : m.icu.semWait.getLsbD n = true) :
    m.freeSem n = ((m.clearSem n).unwaitSem n).putBit F.IC_SEMREL_REL 0 n true := by
  simp [Part.freeSem, Part.clearSem, Part.unwaitSem, h]

@[simp] theorem Part.icu_clearSem (m : Part) (n : Nat) : (m.clearSem n).icu = m.icu := rfl
@[simp] theorem Part.word_unwaitSem (m : Part) (n a : Nat) : (m.unwaitSem n).word a = m.word a := rfl
@[simp] theorem Part.bit_unwaitSem (m : Part) (n : Nat) (f : FieldAt) (i b : Nat) : (m.unwaitSem n).bit f i b = m.bit f i b := rfl

theorem Part.waits_unwaitSem (m : Part) {n : Nat} (hn : n < 32) : (m.unwaitSem n).icu.semWait.getLsbD n = false := by
  rw [Part.unwaitSem, BitVec.getLsbD_and, BitVec.getLsbD_not, getLsbD_waitMask n hn]
  simp

theorem Part.word_clearSem (m : Part) (n : Nat) {a : Nat} (h : a ≠ R.IC_SEM.addr n) : (m.clearSem n).word a = m.word a :=
  (Part.word_put_other _ F.IC_SEM_OWNER n 0 h).trans (m.word_put_other F.IC_SEM_BUSY n 0 h)

theorem Part.is_clearSem (m : Part) (n : Nat) : (m.clearSem n).is F.IC_SEM_BUSY n = false := by
  rw [Part.is, Part.clearSem, Part.get_put_disjoint _ _ _ _ _ _ (by decide) (by decide), Part.get_put_same _ _ _ _ (by decide)]
  rfl

/-- Whether the semaphore was waited for shows in IC_SEMREL only. -/
theorem Part.word_freeSem_eq (m : Part) (n : Nat) {a : Nat} (h : a ≠ R.IC_SEMREL.base) :
    (m.freeSem n).word a = (m.clearSem n).word a := by
  cases hwait : m.icu.semWait.getLsbD n with
  | false => rw [Part.freeSem_unwaited hwait]
  | true => rw [Part.freeSem_waited hwait, Part.word_putBit_other _ _ _ _ _ h, Part.word_unwaitSem]

theorem Part.word_freeSem (m : Part) (n : Nat) {a : Nat} (h : a ∉ [R.IC_SEM.addr n, R.IC_SEMREL.base]) :
    (m.freeSem n).word a = m.word a := by
  obtain ⟨hsem, hrel⟩ : a ≠ R.IC_SEM.addr n ∧ a ≠ R.IC_SEMREL.base := by simpa using h
  rw [m.word_freeSem_eq n hrel, m.word_clearSem n hsem]

theorem Part.is_freeSem (m : Part) {n : Nat} (hn : n < 32) : (m.freeSem n).is F.IC_SEM_BUSY n = false :=
  (Part.is_of_word (m.word_freeSem_eq n (semAddr_ne_semRel hn))).trans (m.is_clearSem n)

/-- A release is announced where the semaphore was waited for (R403). -/
theorem Part.released_freeSem (m : Part) {n b : Nat} (hn : n < 32) (hb : b < 32) : (m.freeSem n).bit F.IC_SEMREL_REL 0 b =
    (m.bit F.IC_SEMREL_REL 0 b || (m.icu.semWait.getLsbD n && decide (b = n))) := by
  have hclear : (m.clearSem n).bit F.IC_SEMREL_REL 0 b = m.bit F.IC_SEMREL_REL 0 b :=
    Part.bit_of_word b (m.word_clearSem n (semAddr_ne_semRel hn).symm)
  cases hwait : m.icu.semWait.getLsbD n with
  | false => rw [Part.freeSem_unwaited hwait, hclear]; simp
  | true => rw [Part.freeSem_waited hwait, Part.bit_putBit_true_eq _ _ (by decide) hb, Part.bit_unwaitSem, hclear]; simp

theorem Part.waits_freeSem (m : Part) {n : Nat} (hn : n < 32) : (m.freeSem n).icu.semWait.getLsbD n = false := by
  cases hwait : m.icu.semWait.getLsbD n with
  | false => rw [Part.freeSem_unwaited hwait, Part.icu_clearSem, hwait]
  | true => rw [Part.freeSem_waited hwait, Part.icu_putBit, Part.waits_unwaitSem _ hn]

/-! ## A write of IC_SEMn (R403) -/

theorem exec_semaphoreRelease (i : Initiator) (n : Fin 32) (v : Word) (s : State) :
    exec (.semaphoreRelease i n v) s = .next (s.lift fun m => m.writeSem i n v) := rfl

theorem Part.writeSem_owner {m : Part} {i : Initiator} {n : Nat} (hbusy : m.is F.IC_SEM_BUSY n = true)
    (hown : m.get F.IC_SEM_OWNER n = initIndex i) : m.writeSem i n 0 = m.freeSem n := by
  simp [Part.writeSem, hbusy, hown]

theorem Part.writeSem_refused {m : Part} {i : Initiator} {n : Nat} {v : Word}
    (h : v ≠ 0 ∨ m.is F.IC_SEM_BUSY n = false ∨ m.get F.IC_SEM_OWNER n ≠ initIndex i) :
    m.writeSem i n v = m.refuse F.IC_STAT_REFUSED i (R.IC_SEM.addr n) v :=
  if_neg fun hc => by
    obtain ⟨⟨hzero, hbusy⟩, hown⟩ : (v = 0 ∧ m.is F.IC_SEM_BUSY n = true) ∧ m.get F.IC_SEM_OWNER n = initIndex i := by
      simpa using hc
    simp [hzero, hbusy, hown] at h

/-- A refused write (R405) is all that the statements ask of a refusal, where its flag is in none of Garnet's registers. -/
theorem State.refuses_lift (s : State) {flag : FieldAt} (i : Initiator) (a : Nat) (v : Word) (hf : flag.lo + flag.width ≤ 32)
    (hone : 0 < flag.width) (hbase : flag.reg.addr 0 ∉ lossRegs) :
    Refuses s (s.lift fun m => m.refuse flag i a v) flag i a v := by
  refine ⟨?_, s.part.refuse_record flag i a v, fun b hb => s.part.word_refuse flag i a v (by simpa [RegAt.addr, lossRegs] using hb)⟩
  have hkept : (s.part.refuse flag i a v).is flag 0 = (s.part.put flag 0 1).is flag 0 :=
    Part.is_of_word (Part.word_event _ _ _ _ _ _ hbase)
  rw [State.part_lift, hkept, Part.is, Part.get_put_same _ _ _ _ hf, Nat.mod_eq_of_lt (Nat.one_lt_two_pow hone.ne')]
  rfl

/-- The interrupt controller's flag of a refused write. -/
theorem State.refuses_icStat (s : State) (i : Initiator) (a : Nat) (v : Word) :
    Refuses s (s.lift fun m => m.refuse F.IC_STAT_REFUSED i a v) F.IC_STAT_REFUSED i a v :=
  s.refuses_lift i a v (by decide) (by decide) (by decide)

/-- R403: the owner's write of 0 frees the semaphore, and announces it where it was waited for. -/
theorem semaphoreRelease_owner {i : Initiator} {n : Fin 32} {s : State} (hbusy : s.part.is F.IC_SEM_BUSY n = true)
    (hown : s.part.get F.IC_SEM_OWNER n = initIndex i) :
    Completes (.semaphoreRelease i n 0) s (fun t => t.part.is F.IC_SEM_BUSY n = false ∧ t.part.icu.semWait.getLsbD n = false ∧
      t.part.bit F.IC_SEMREL_REL 0 n = (s.part.bit F.IC_SEMREL_REL 0 n || s.part.icu.semWait.getLsbD n) ∧
      SameWords s t [R.IC_SEM.addr n, R.IC_SEMREL.base] ∧ SameMemory s t) := by
  refine ⟨_, exec_semaphoreRelease i n 0 s, ?_⟩
  simp only [State.part_lift, Part.writeSem_owner hbusy hown, SameWords]
  exact ⟨s.part.is_freeSem n.isLt, s.part.waits_freeSem n.isLt, by simp [s.part.released_freeSem n.isLt n.isLt],
    fun a ha => s.part.word_freeSem n ha, fun _ => rfl⟩

/-- R403: any other write is refused. -/
theorem semaphoreRelease_refused {i : Initiator} {n : Fin 32} {v : Word} {s : State}
    (h : v ≠ 0 ∨ s.part.is F.IC_SEM_BUSY n = false ∨ s.part.get F.IC_SEM_OWNER n ≠ initIndex i) :
    Completes (.semaphoreRelease i n v) s (fun t => Refuses s t F.IC_STAT_REFUSED i (R.IC_SEM.addr n) v) := by
  refine ⟨_, exec_semaphoreRelease i n v s, ?_⟩
  rw [State.lift, Part.writeSem_refused h]
  exact s.refuses_icStat i _ v

/-! ## A write of IC_SEMFREE (R404) -/

/-- Freeing by force leaves a free semaphore alone. -/
theorem Part.forceSem_free {m : Part} {n : Nat} (h : m.is F.IC_SEM_BUSY n = false) : m.forceSem n = m := by
  simp [Part.forceSem, h]

/-- Freeing a busy semaphore by force announces it, waited for or not; the event recorded changes Garnet's registers only. -/
theorem Part.word_forceSem_busy {m : Part} {n : Nat} (h : m.is F.IC_SEM_BUSY n = true) {a : Nat}
    (ha : a ∉ lossRegs) :
    (m.forceSem n).word a = ((m.freeSem n).putBit F.IC_SEMREL_REL 0 n true).word a := by
  simp only [Part.forceSem, h, Bool.not_true, Bool.false_eq_true, if_false]
  exact Part.word_event _ _ _ _ _ _ ha

theorem Part.is_forceSem_same (m : Part) {n : Nat} (hn : n < 32) : (m.forceSem n).is F.IC_SEM_BUSY n = false := by
  cases hbusy : m.is F.IC_SEM_BUSY n with
  | false => rwa [Part.forceSem_free hbusy]
  | true =>
    refine (Part.is_of_word ?_).trans (m.is_freeSem hn)
    exact (Part.word_forceSem_busy hbusy (semAddr_not_lossReg hn)).trans
      (Part.word_putBit_other _ F.IC_SEMREL_REL 0 n true (semAddr_ne_semRel hn))

theorem Part.is_forceSem_other (m : Part) {n k : Nat} (hn : n < 32) (hk : n ≠ k) :
    (m.forceSem k).is F.IC_SEM_BUSY n = m.is F.IC_SEM_BUSY n := by
  cases hbusy : m.is F.IC_SEM_BUSY k with
  | false => rw [Part.forceSem_free hbusy]
  | true =>
    refine Part.is_of_word ?_
    calc (m.forceSem k).word (R.IC_SEM.addr n)
      _ = ((m.freeSem k).putBit F.IC_SEMREL_REL 0 k true).word (R.IC_SEM.addr n) :=
          Part.word_forceSem_busy hbusy (semAddr_not_lossReg hn)
      _ = (m.freeSem k).word (R.IC_SEM.addr n) := Part.word_putBit_other _ _ _ _ _ (semAddr_ne_semRel hn)
      _ = m.word (R.IC_SEM.addr n) := m.word_freeSem k (by simp [semAddr_inj hk, semAddr_ne_semRel hn])

/-- Every semaphore freed by force is announced (R404), and no announcement is taken back. -/
theorem Part.released_forceSem (m : Part) {k b : Nat} (hk : k < 32) (hb : b < 32) : (m.forceSem k).bit F.IC_SEMREL_REL 0 b =
    (m.bit F.IC_SEMREL_REL 0 b || (m.is F.IC_SEM_BUSY k && decide (b = k))) := by
  cases hbusy : m.is F.IC_SEM_BUSY k with
  | false => rw [Part.forceSem_free hbusy]; simp
  | true =>
    rw [Part.bit_of_word b (Part.word_forceSem_busy hbusy (by decide)), Part.bit_putBit_true_eq _ _ (by decide) hb,
      m.released_freeSem hk hb]
    cases m.icu.semWait.getLsbD k <;> simp

/-- The semaphore is busy, or its release has been announced. -/
def Part.SemHeldOrReleased (m : Part) (n : Nat) : Prop :=
  m.is F.IC_SEM_BUSY n = true ∨ m.bit F.IC_SEMREL_REL 0 n = true

/-- The semaphore is free, and its release has been announced. -/
def Part.SemReleased (m : Part) (n : Nat) : Prop :=
  m.is F.IC_SEM_BUSY n = false ∧ m.bit F.IC_SEMREL_REL 0 n = true

theorem Part.SemHeldOrReleased.forceSem_same {m : Part} {n : Nat} (h : m.SemHeldOrReleased n) (hn : n < 32) :
    (m.forceSem n).SemReleased n :=
  ⟨m.is_forceSem_same hn, by rw [m.released_forceSem hn hn]; rcases h with h | h <;> simp [h]⟩

theorem Part.SemHeldOrReleased.forceSem {m : Part} {n k : Nat} (h : m.SemHeldOrReleased n) (hn : n < 32) (hk : k < 32) :
    (m.forceSem k).SemHeldOrReleased n := by
  obtain rfl | hne := eq_or_ne n k
  · exact .inr (h.forceSem_same hn).2
  · exact h.imp (m.is_forceSem_other hn hne).trans fun h => by simp [m.released_forceSem hk hn, h]

theorem Part.SemReleased.forceSem {m : Part} {n k : Nat} (h : m.SemReleased n) (hn : n < 32) (hk : k < 32) :
    (m.forceSem k).SemReleased n := by
  obtain rfl | hne := eq_or_ne n k
  · exact Part.SemHeldOrReleased.forceSem_same (.inr h.2) hn
  · exact ⟨(m.is_forceSem_other hn hne).trans h.1, by simp [m.released_forceSem hk hn, h.2]⟩

/-- The semaphores that a write of IC_SEMFREE names. -/
def semsNamed (v : Word) : List Nat := (List.range 32).filter (fun n => v.getLsbD n)

theorem mem_semsNamed {v : Word} {n : Nat} : n ∈ semsNamed v ↔ n < 32 ∧ v.getLsbD n = true := by simp [semsNamed]

theorem exec_semaphoreForceFree (i : Initiator) (v : Word) (s : State) :
    exec (.semaphoreForceFree i v) s = .next (s.lift fun m => m.writeSemFree i v) := rfl

theorem Part.writeSemFree_allowed (m : Part) {i : Initiator} (h : i = .ydp ∨ ∃ d, i = .core d) (v : Word) :
    m.writeSemFree i v = m.each (semsNamed v) (fun n m => m.forceSem n) := by
  obtain rfl | ⟨d, rfl⟩ := h <;> rfl

theorem Part.writeSemFree_refused (m : Part) {i : Initiator} (hydp : i ≠ .ydp) (hcore : ∀ d, i ≠ .core d) (v : Word) :
    m.writeSemFree i v = m.refuse F.IC_STAT_REFUSED i R.IC_SEMFREE.base v := by
  cases i with
  | core d => exact absurd rfl (hcore d)
  | ydp => exact absurd rfl hydp
  | dma | hsp | pmb => rfl

/-- A busy semaphore that the write names is free and announced after it, whatever else the write names. -/
theorem Part.released_writeSemFree {m : Part} {i : Initiator} {n : Fin 32} {v : Word} (hv : v.getLsbD n = true)
    (hbusy : m.is F.IC_SEM_BUSY n = true) (hi : i = .ydp ∨ ∃ d, i = .core d) : (m.writeSemFree i v).SemReleased n := by
  rw [m.writeSemFree_allowed hi]
  exact Part.each_establishes (P := (·.SemHeldOrReleased n)) (Q := (·.SemReleased n)) (mem_semsNamed.2 ⟨n.isLt, hv⟩)
    (fun k hk m hm => hm.forceSem n.isLt (mem_semsNamed.1 hk).1) (fun m hm => hm.forceSem_same n.isLt)
    (fun k hk m hm => hm.forceSem n.isLt (mem_semsNamed.1 hk).1) (.inl hbusy)

/-- R404: a core or the debug port frees a semaphore whoever owns it. -/
theorem semaphoreForceFree_allowed {i : Initiator} {n : Fin 32} {v : Word} {s : State} (hv : v.getLsbD n = true)
    (hbusy : s.part.is F.IC_SEM_BUSY n = true) (hi : i = .ydp ∨ ∃ d, i = .core d) :
    Completes (.semaphoreForceFree i v) s (fun t => t.part.is F.IC_SEM_BUSY n = false ∧
      t.part.bit F.IC_SEMREL_REL 0 n = true ∧ SameMemory s t) := by
  obtain ⟨hfree, hrel⟩ := Part.released_writeSemFree hv hbusy hi
  exact ⟨_, exec_semaphoreForceFree i v s, hfree, hrel, fun _ => rfl⟩

/-- R404: no other initiator may. -/
theorem semaphoreForceFree_refused {i : Initiator} (v : Word) (s : State) (hydp : i ≠ .ydp) (hcore : ∀ d, i ≠ .core d) :
    Completes (.semaphoreForceFree i v) s (fun t => Refuses s t F.IC_STAT_REFUSED i R.IC_SEMFREE.base v) := by
  refine ⟨_, exec_semaphoreForceFree i v s, ?_⟩
  rw [State.lift, Part.writeSemFree_refused _ hydp hcore]
  exact s.refuses_icStat i _ v

/-- Settles O51: of two reads of a free semaphore one acquires, the debug port's read changes nothing, the owner alone releases,
and IC_SEMFREE frees a semaphore whoever owns it. -/
theorem semaphores : Obligations.Semaphores := by
  intro i n v s
  refine ⟨fun hi hfree => ?_, fun hi hbusy => ?_, semaphoreRead_ydp n s, semaphoreRelease_owner, semaphoreRelease_refused,
    semaphoreForceFree_allowed, semaphoreForceFree_refused v s⟩
  · refine (semaphoreRead_free hi hfree).imp fun t ⟨hbusy, howner, hgot, hwords, hmem⟩ => ⟨hbusy, howner, hgot, hwords, hmem, ?_⟩
    intro j hj hji
    refine (semaphoreRead_taken hj hbusy (by rw [howner]; exact hji.symm)).imp fun u ⟨hlost, _, hkept, _⟩ => ⟨hlost, ?_⟩
    rw [hkept, howner]
  · by_cases hown : s.part.get F.IC_SEM_OWNER n = initIndex i
    · refine (semaphoreRead_own hi hbusy hown).imp fun t ⟨hgot, hwords, hmem⟩ => ⟨hwords, hmem, ?_, fun hne => absurd hown hne⟩
      simp [hgot, hown]
    · refine (semaphoreRead_taken hi hbusy hown).imp fun t ⟨hgot, howner, _, hwait, hwords, hmem⟩ =>
        ⟨hwords, hmem, ?_, fun _ => ⟨hwait, howner⟩⟩
      rw [hgot]
      simp [hown]

end Sys2Proof.Machine
end
